-- ==== Sys2Proof/Word.lean ====
section
/-! DEFINITION. The part's index types and byte strings (spec 00, "Names": ports 0..3, classes 0..3, priorities 0..7,
associations 0..63, key slots 0..127, steering entries 0..127, cipher lanes 0..5). -/

namespace Sys2Proof

/-- One byte of a frame, a record, a key or a blob. -/
abbrev Byte := BitVec 8

/-- A byte string in wire order, first byte first (spec 00, "Byte and bit order"). -/
abbrev Bytes := List Byte

/-- A port, 0..3. -/
abbrev PortNum := Fin 4

/-- A class, 0..3 (class 3 is the highest). -/
abbrev ClassNum := Fin 4

/-- A priority, 0..7. -/
abbrev Prio := Fin 8

/-- An association number (ANUM), 0..63. -/
abbrev Anum := Fin 64

/-- A key slot, 0..127. -/
abbrev SlotNum := Fin 128

/-- A steering entry index, 0..127. -/
abbrev EntryIdx := Fin 128

/-- A cipher lane, 0..5. -/
abbrev LaneNum := Fin 6

end Sys2Proof
end

