-- ==== Sys2Proof/Config.lean ====
section
/-! DEFINITION. What the spec fixes as constants of the part, and the functions it leaves undefined.

The spec treats the cipher, the key wrap and the integrity code as keyed functions and states only what goes in, what
comes out and how long the outputs are (R20, R69, R71, R80, R88). Here they are opaque: every claim about the model holds
for every such function (assumption 8, safe). -/

namespace Sys2Proof.Config

/-- PN_MAX = 2^40 - 1 (spec 00, terms). -/
def pnMax : Nat := 1099511627775

/-- The top value of a 48-bit counter (R180). -/
def counterMax : Nat := 281474976710655

/-- Entries a transform sequence holds at most (R93). -/
def sequenceCapacity : Nat := 4

/-- Entries the event list holds at most (R174). -/
def eventCapacity : Nat := 64

/-- Entries the management fault list holds at most (R178). -/
def faultCapacity : Nat := 4

/-- Frames a reply inbox holds at most (R123). -/
def inboxCapacity : Nat := 4

/-- Cells of a return FIFO (R120). -/
def returnCells : Nat := 512

/-- Cells of a port's egress buffer (R103). -/
def bufferCells : Nat := 2048

/-- Lanes that may be BUSY with EXPAND operations at once (R91). -/
def expandCap : Nat := 2

/-- Entries of one port that may be IN_LANE at once (R91). -/
def portLaneCap : Nat := 2

/-- The reference clocks of one fine pulse, 2^17 (R124). -/
def clocksPerFine : Nat := 131072

/-- The fine pulses of one coarse pulse (R124). -/
def finePerCoarse : Nat := 1024

/-- The fine pulses of the self-test (R184). -/
def selfTestPulses : Nat := 32

/-- The reserve above the stop mark is at least 256 numbers (R44 check 4). -/
def stopMarkMax : Nat := pnMax - 256

/-- The block cipher applied to one 16-byte block under a key (R71, R88). -/
opaque blockCipher : Bytes → Bytes → BitVec 128

/-- The round keys of the block cipher for a key (R88). -/
opaque roundKeys : Bytes → Bytes

/-- The i-th byte of the ciphertext, for expanded key, nonce, associated data and plaintext (R20). -/
opaque cipherByte : Bytes → Bytes → Bytes → Bytes → Nat → Byte

/-- The 16-byte ICV, for expanded key, nonce, associated data and plaintext (R20). -/
opaque icv : Bytes → Bytes → Bytes → Bytes → BitVec 128

/-- The 8-byte integrity block of the key unwrap, for transport key and blob (R69). -/
opaque unwrapIntegrity : Bytes → Bytes → BitVec 64

/-- The i-th byte of the unwrapped plaintext, for transport key and blob (R69). -/
opaque unwrapByte : Bytes → Bytes → Nat → Byte

/-- The integrity code over a key, its salt and its expanded key (R73, R80). The spec gives the code no width. -/
opaque integrityCode : Bytes → BitVec 32 → Bytes → Nat

/-- The high eight bits of the enable vector of a class pause frame: R113 gives the low eight alone (assumption 29). -/
opaque pauseVectorHigh : Byte

/-! What a self-test finds that ends with no SELFTEST_COMPLETE commanded, for the n-th such end: R184 does not say which units
fail (assumption 9). -/

/-- The lane fails. -/
opaque selfTestLane : Nat → Fin 6 → Bool

/-- The key store fails. -/
opaque selfTestKeyStore : Nat → Bool

/-- The egress buffer of the port fails. -/
opaque selfTestBuffer : Nat → Fin 4 → Bool

end Sys2Proof.Config
end

