-- ==== Sys2Proof/Syntax.lean ====
section
/-! DEFINITION. The commands of the part: one constructor of `Instr` per row of spec/opcode_table.json, with its operands.

Ports, lanes and associations that an event of the part itself names are the part's own (Fin). The fields of a request are
the raw numbers of its record's body (R169, R171): the part judges them, so they may be out of range. A request command is
a complete record of that kind, with its tag, whose check is good (assumption 5). -/

namespace Sys2Proof

/-- The levels of the pins and of the physical layer's link reports when power-on ends (R14, R115, R183, R187). -/
structure PowerOnPins where
  /-- rate straps, 0..3 (R161) -/
  rate : Fin 4
  /-- clear strap on (R183) -/
  clear : Bool
  /-- INHIBIT_N is low (R187) -/
  inhibitLow : Bool
  /-- C-side link reported good, port by port (R14) -/
  campusLink : Vector Bool 4
  /-- R-side link reported good, port by port (R115) -/
  rackLink : Vector Bool 4
  deriving DecidableEq, Repr

/-- The units that failed the self-test (R184). -/
structure SelfTestResult where
  lanes : Vector Bool 6
  keyStore : Bool
  buffers : Vector Bool 4
  deriving DecidableEq, Repr

/-- The stored field of a key slot that has changed (section 4.9: "a slow change of its stored contents"). -/
inductive DriftField
  | key (index : Nat)
  | salt
  | expandedKey (index : Nat)
  | integrityCode
  deriving DecidableEq, Repr

/-- A change of the stored contents of one slot since the last pulse: the bits of `mask` are inverted (assumption 10). -/
structure KeyDrift where
  slot : SlotNum
  field : DriftField
  mask : BitVec 32
  deriving DecidableEq, Repr

/-- A complete record of the management line, without sync and length (R162). -/
structure Record where
  kind : Byte
  tag : Byte
  body : Bytes
  check : BitVec 16
  deriving DecidableEq, Repr

/-- Body of PORT_SET (R171). -/
structure PortSetBody where
  port : Byte
  portAddress : BitVec 48
  peerAddress : BitVec 48
  frameCeiling : BitVec 16
  clpType : BitVec 16
  /-- class for priorities 0..7 -/
  classes : Vector Byte 8
  untaggedClass : Byte
  action : Byte
  actionAnum : Byte
  settle : Byte
  linkDownPolicy : Byte
  inhibitAction : Byte
  deriving DecidableEq, Repr

/-- Body of PORT_FLOW (R171). -/
structure PortFlowBody where
  port : Byte
  pauseEnable : Byte
  ceiling : Vector (BitVec 16) 4
  upper : Vector (BitVec 16) 4
  lower : Vector (BitVec 16) 4
  quanta : BitVec 16
  deriving DecidableEq, Repr

/-- Body of STEER_SET (R171). -/
structure SteerSetBody where
  index : Byte
  ports : Byte
  tagging : Byte
  vlanValue : BitVec 16
  vlanMask : BitVec 16
  prioValue : Byte
  prioMask : Byte
  addressValue : BitVec 48
  addressMask : BitVec 48
  typeValue : BitVec 16
  typeMask : BitVec 16
  action : Byte
  actionAnum : Byte
  classOverride : Byte
  deriving DecidableEq, Repr

/-- Body of ASSOC_SET (R171). -/
structure AssocSetBody where
  anum : Byte
  port : Byte
  protection : Byte
  vlan : Byte
  label : BitVec 32
  firstEpoch : Byte
  switchMark : BitVec 40
  stopMark : BitVec 40
  triggerPolicy : Byte
  confirmPolicy : Byte
  lifetimeReload : BitVec 16
  lifetimeScale : Byte
  deriving DecidableEq, Repr

/-- The commands, in the order of spec/opcode_table.json. -/
inductive Instr
  /-- POWER_ON (R183) -/
  | powerOn (pins : PowerOnPins)
  /-- PIN_RESET_ASSERT (R183) -/
  | pinResetAssert
  /-- PIN_RESET_RELEASE (R183), with the strap levels latched then -/
  | pinResetRelease (rate : Fin 4) (clear : Bool)
  /-- SELFTEST_COMPLETE (R184) -/
  | selftestComplete (result : SelfTestResult)
  /-- INHIBIT_ASSERT (R187) -/
  | inhibitAssert
  /-- INHIBIT_RELEASE (R188) -/
  | inhibitRelease
  /-- FINE_PULSE (R124) -/
  | finePulse (drift : Option KeyDrift)
  /-- COARSE_PULSE (R124) -/
  | coarsePulse (drift : Option KeyDrift)
  /-- LIFETIME_EXPIRY (R127) -/
  | lifetimeExpiry (anum : Anum)
  /-- LINK_GOOD (R14) -/
  | linkGood (port : PortNum)
  /-- LINK_SETTLED (R14) -/
  | linkSettled (port : PortNum)
  /-- LINK_LOST (R14) -/
  | linkLost (port : PortNum)
  /-- RACK_LINK_LOST (R115) -/
  | rackLinkLost (port : PortNum)
  /-- RACK_LINK_GOOD (R115) -/
  | rackLinkGood (port : PortNum)
  /-- RSIDE_FRAME_RECEIVED (R9): the whole frame, DA to frame check sequence -/
  | rsideFrameReceived (port : PortNum) (frame : Bytes)
  /-- CSIDE_FRAME_RECEIVED (R119): the whole frame, DA to frame check sequence -/
  | csideFrameReceived (port : PortNum) (frame : Bytes)
  /-- TRANSFORM_COMPLETE (R94) -/
  | transformComplete (lane : LaneNum)
  /-- EXPAND_COMPLETE (R73) -/
  | expandComplete (lane : LaneNum)
  /-- VERIFY_COMPLETE (R149) -/
  | verifyComplete (lane : LaneNum)
  /-- ATTEMPT_TIMEOUT (R144) -/
  | attemptTimeout (anum : Anum)
  /-- DEQUEUE_DECISION (R52) -/
  | dequeueDecision (port : PortNum)
  /-- NOTICE_PLACEMENT (R141) -/
  | noticePlacement (port : PortNum)
  /-- CSIDE_TX_START (R15) -/
  | csideTxStart (port : PortNum)
  /-- CSIDE_TX_COMPLETE (R15) -/
  | csideTxComplete (port : PortNum)
  /-- RSIDE_TX_START (R114) -/
  | rsideTxStart (port : PortNum)
  /-- RSIDE_TX_COMPLETE (R121) -/
  | rsideTxComplete (port : PortNum)
  /-- QUANTUM_TICK (R106) -/
  | quantumTick
  /-- PAUSE_REFRESH_DUE (R112) -/
  | pauseRefreshDue (port : PortNum) (cls : ClassNum)
  /-- CAMPUS_PAUSE_END (R118) -/
  | campusPauseEnd (port : PortNum) (prio : Prio)
  /-- RACK_PAUSE_END (R122) -/
  | rackPauseEnd (port : PortNum) (prio : Prio)
  /-- MGMT_BYTE_RECEIVED (R163): the byte, and whether its stop bit was received as 1 (R161) -/
  | mgmtByteReceived (byte : Byte) (stopBit : Bool)
  /-- GAP_EXPIRY (R164) -/
  | gapExpiry
  /-- RECORD_COMPLETE (R165): the record whose last check byte arrives -/
  | recordComplete (record : Record)
  /-- REPLY_SENT (R166) -/
  | replySent
  /-- IDENTIFY (R186) -/
  | identify (tag : Byte)
  /-- RESET (R186) -/
  | reset (tag : Byte)
  /-- PORT_SET (R2) -/
  | portSet (tag : Byte) (body : PortSetBody)
  /-- PORT_MODE (R5) -/
  | portMode (tag port mode : Byte)
  /-- PORT_GET (R3) -/
  | portGet (tag port : Byte)
  /-- PORT_FLOW (R107) -/
  | portFlow (tag : Byte) (body : PortFlowBody)
  /-- PORT_SWITCH (R138) -/
  | portSwitch (tag port firstStep lastStep : Byte)
  /-- STEER_SET (R34) -/
  | steerSet (tag : Byte) (body : SteerSetBody)
  /-- STEER_GET (R35) -/
  | steerGet (tag index : Byte)
  /-- STEER_LOCK (R36) -/
  | steerLock (tag index : Byte)
  /-- STEER_CLEAR (R37) -/
  | steerClear (tag index : Byte)
  /-- ASSOC_SET (R44) -/
  | assocSet (tag : Byte) (body : AssocSetBody)
  /-- ASSOC_START (R46) -/
  | assocStart (tag anum : Byte)
  /-- ASSOC_SUSPEND (R47) -/
  | assocSuspend (tag anum : Byte)
  /-- ASSOC_RESUME (R48) -/
  | assocResume (tag anum : Byte)
  /-- ASSOC_CLEAR (R49) -/
  | assocClear (tag anum : Byte)
  /-- ASSOC_GET (R50) -/
  | assocGet (tag anum : Byte)
  /-- TEST_CORRUPT (R100) -/
  | testCorrupt (tag anum action : Byte)
  /-- SWITCH_NOW (R159) -/
  | switchNow (tag anum : Byte)
  /-- TRANSPORT_KEY (R68): the key is the whole body -/
  | transportKey (tag : Byte) (key : Bytes)
  /-- KEY_LOAD (R69) -/
  | keyLoad (tag slot anum epoch : Byte) (blob : Bytes)
  /-- KEY_ERASE (R74) -/
  | keyErase (tag slot : Byte)
  /-- SLOT_GET (R75) -/
  | slotGet (tag slot : Byte)
  /-- EVENTS_FETCH (R177) -/
  | eventsFetch (tag countWanted maskWrite : Byte) (mask : BitVec 32)
  /-- FAULTS_READ (R178) -/
  | faultsRead (tag : Byte)
  /-- COUNTERS_READ (R181) -/
  | countersRead (tag block first count clear : Byte)
  deriving DecidableEq, Repr

end Sys2Proof
end

