-- ==== Sys2Proof/WellFormed.lean ====
section
/-! DEFINITION. Which commands a sender can send: a record's body fits the line's format (R162: at most 1024 bytes after
kind and tag), and a change of stored key contents names a byte that a slot stores (R63). Everything else that can be out of
range is judged by the part itself, with a status (R170) or a counter. -/

namespace Sys2Proof

/-- The longest body of a record (R162). -/
def maxBody : Nat := 1024

/-- The change names a byte that a slot stores: a key has at most 32 bytes (R63). -/
def KeyDrift.wellFormed (d : KeyDrift) : Bool :=
  match d.field with
  | .key i => decide (i < 32)
  | .salt | .expandedKey _ | .integrityCode => true

/-- The check of every operand whose range is not in its type. -/
def Instr.wellFormed : Instr → Bool
  | .finePulse d | .coarsePulse d => d.all KeyDrift.wellFormed
  | .recordComplete r => decide (r.body.length ≤ maxBody)
  | .transportKey _ key => decide (key.length ≤ maxBody)
  | .keyLoad _ _ _ _ blob => decide (blob.length + 3 ≤ maxBody)
  | .powerOn _ | .pinResetAssert | .pinResetRelease _ _ | .selftestComplete _ | .inhibitAssert | .inhibitRelease
  | .lifetimeExpiry _ | .linkGood _ | .linkSettled _ | .linkLost _ | .rackLinkLost _ | .rackLinkGood _
  | .rsideFrameReceived _ _ | .csideFrameReceived _ _ | .transformComplete _ | .expandComplete _ | .verifyComplete _
  | .attemptTimeout _ | .dequeueDecision _ | .noticePlacement _ | .csideTxStart _ | .csideTxComplete _
  | .rsideTxStart _ | .rsideTxComplete _ | .quantumTick | .pauseRefreshDue _ _ | .campusPauseEnd _ _ | .rackPauseEnd _ _
  | .mgmtByteReceived _ _ | .gapExpiry | .replySent | .identify _ | .reset _ | .portSet _ _ | .portMode _ _ _
  | .portGet _ _ | .portFlow _ _ | .portSwitch _ _ _ _ | .steerSet _ _ | .steerGet _ _ | .steerLock _ _
  | .steerClear _ _ | .assocSet _ _ | .assocStart _ _ | .assocSuspend _ _ | .assocResume _ _ | .assocClear _ _
  | .assocGet _ _ | .testCorrupt _ _ _ | .switchNow _ _ | .keyErase _ _ | .slotGet _ _ | .eventsFetch _ _ _ _
  | .faultsRead _ | .countersRead _ _ _ _ _ => true

end Sys2Proof
end

