-- ==== Sys2Proof/Decode.lean ====
section
/-! DEFINITION. The opcode table gives no row any bits, so no word spells a command (every row's "fields" is empty). -/

namespace Sys2Proof

/-- The command a word spells by the bits of spec/opcode_table.json: none, as the table gives no row bits. -/
def decodeTableWord (_nbits _w : Nat) : Option Instr := none

end Sys2Proof
end

