-- ==== Sys2Proof/Machine/Bytes.lean ====
section
/-! DEFINITION. Byte order, fields of byte strings, and the two cyclic checks (spec 00 "Byte and bit order", R10, R162). -/

namespace Sys2Proof.Machine

/-- The byte at an index; 0 past the end. -/
def byteAt (bs : Bytes) (i : Nat) : Byte := bs.getD i 0

/-- The `n` bytes from index `i` on. -/
def slice (bs : Bytes) (i n : Nat) : Bytes := (bs.drop i).take n

/-- The number whose bytes are sent most significant first. -/
def ofBE (bs : Bytes) : Nat := bs.foldl (fun n b => n * 256 + b.toNat) 0

/-- The number whose bytes are sent least significant first. -/
def ofLE : Bytes → Nat
  | [] => 0
  | b :: bs => b.toNat + 256 * ofLE bs

/-- The low `w` bytes of a number, least significant first. -/
def toLE : Nat → Nat → Bytes
  | 0, _ => []
  | w + 1, n => BitVec.ofNat 8 n :: toLE w (n / 256)

/-- The low `w` bytes of a number, most significant first. -/
def toBE (w n : Nat) : Bytes := (toLE w n).reverse

/-- One bit of the CRC-32 register, polynomial 0x04C11DB7 (R10). -/
def crc32Bit (c : BitVec 32) (bit : Bool) : BitVec 32 :=
  if c.msb != bit then (c <<< 1) ^^^ 0x04C11DB7#32 else c <<< 1

/-- One byte, its least significant bit first (R10). -/
def crc32Byte (c : BitVec 32) (b : Byte) : BitVec 32 :=
  [0, 1, 2, 3, 4, 5, 6, 7].foldl (fun c i => crc32Bit c (b.getLsbD i)) c

/-- The frame check sequence over a byte string: initial value all ones, result bit-reversed and inverted (R10). -/
def crc32 (bs : Bytes) : BitVec 32 := ~~~ (bs.foldl crc32Byte 0xFFFFFFFF#32).reverse

/-- The frame check sequence as sent, least significant byte first (R10). -/
def fcsBytes (bs : Bytes) : Bytes := toLE 4 (crc32 bs).toNat

/-- The bytes of a frame before its frame check sequence. -/
def withoutFcs (frame : Bytes) : Bytes := frame.take (frame.length - 4)

/-- The received frame check sequence equals the one computed over the bytes before it (R10). -/
def fcsGood (frame : Bytes) : Bool :=
  decide (4 ≤ frame.length) && frame.drop (frame.length - 4) == fcsBytes (withoutFcs frame)

/-- A frame with its frame check sequence appended. -/
def withFcs (bs : Bytes) : Bytes := bs ++ fcsBytes bs

/-- One bit of the CRC-16 register, polynomial 0x1021 (R162). -/
def crc16Bit (c : BitVec 16) (bit : Bool) : BitVec 16 :=
  if c.msb != bit then (c <<< 1) ^^^ 0x1021#16 else c <<< 1

/-- One byte, its most significant bit first (R162). -/
def crc16Byte (c : BitVec 16) (b : Byte) : BitVec 16 :=
  [7, 6, 5, 4, 3, 2, 1, 0].foldl (fun c i => crc16Bit c (b.getLsbD i)) c

/-- The check of a management record: initial value 0xFFFF, nothing reversed or added (R162). -/
def crc16 (bs : Bytes) : BitVec 16 := bs.foldl crc16Byte 0xFFFF#16

end Sys2Proof.Machine
end

