-- ==== Sys2Proof/Machine/State.lean ====
section
/-! DEFINITION. Every piece of state the spec gives the part, as plain data, with the reset values, and the reasons a
command can stop. -/

namespace Sys2Proof.Machine

/-! ## Enumerated fields, in the order in which the owning rules list their values (R169) -/

/-- Mode of a port (R4, R5). -/
inductive PortMode | off | protect
  deriving DecidableEq, Repr

/-- C-side link state (R3, R14). -/
inductive LinkState | down | settling | up
  deriving DecidableEq, Repr

/-- Link-down policy (R1, R16). -/
inductive LinkDownPolicy | hold | flush
  deriving DecidableEq, Repr

/-- Inhibit action (R1, R12). -/
inductive InhibitAction | hold | discard
  deriving DecidableEq, Repr

/-- Action of a steering entry or default action of a port (R24, R1). -/
inductive Action
  | protect (anum : Anum)
  | pass
  | drop
  deriving DecidableEq, Repr

/-- Tagging condition (R24). -/
inductive Tagging | tagged | untagged | any
  deriving DecidableEq, Repr

/-- State of an association (R40). -/
inductive AssocState | idle | configured | running | switching | exhausted | suspended | faulted
  deriving DecidableEq, Repr

/-- Protection mode (R40). -/
inductive Protection | confidential | integrity
  deriving DecidableEq, Repr

/-- VLAN handling (R40). -/
inductive VlanHandling | keepClear | protect
  deriving DecidableEq, Repr

/-- Trigger policy (R40). -/
inductive TriggerPolicy | auto | manual
  deriving DecidableEq, Repr

/-- Confirm policy (R40). -/
inductive ConfirmPolicy | confirmed | unilateral
  deriving DecidableEq, Repr

/-- Lifetime scale (R40). -/
inductive LifetimeScale | fine | coarse
  deriving DecidableEq, Repr

/-- Kind of a switch trigger (R129). -/
inductive TriggerKind | mark | expiry | request
  deriving DecidableEq, Repr

/-- Notice status of an attempt record (R40). -/
inductive NoticeStatus | queued | issued
  deriving DecidableEq, Repr

/-- State of a key slot (R63). -/
inductive SlotState | empty | loaded | ready | active | draining | faulted
  deriving DecidableEq, Repr

/-- Key size (R63). -/
inductive KeySize | bits128 | bits256
  deriving DecidableEq, Repr

/-- Part state (R184, R186). -/
inductive PartState | testing | running | halted
  deriving DecidableEq, Repr

/-- Inhibit state (R187). -/
inductive InhibitState | asserted | released
  deriving DecidableEq, Repr

/-- Event kinds, by code (R176). -/
inductive EventKind
  | linkUp | linkDown | steerOverlap | bufferDrop | returnDrop | inboxDrop | keyWanted | switchDue | switchDone
  | switchFailed | switchRefused | switchAborted | exhausted | assocFaulted | keyReady | keyRetired | scrubFault
  | inhibitOn | inhibitOff | mgmtFault | selftestFault
  deriving DecidableEq, Repr

/-- Source of an event (R176). -/
inductive EventSource
  | port (p : PortNum)
  | assoc (a : Anum)
  | slot (k : SlotNum)
  | part
  deriving DecidableEq, Repr

/-- Kind of a management fault, by code (R172, R176). -/
inductive FaultKind | framing | badCheck | badLength | unknownKind | overrun
  deriving DecidableEq, Repr

/-- The counters of a port, in the order of R182. -/
inductive PortCounter
  | framesIn | octetsIn | fcsDrops | runtDrops | oversizeDrops | portOffDrops | noMatchDrops | steerDrops
  | misdirectedDrops | assocStateDrops | bufferDrops (cls : ClassNum) | passFrames | protectedFramesOut | octetsOut
  | linkDownFlush | inhibitDrops | pauseFramesSent | campusPauseReceived | returnForwarded | returnDrops
  | returnFcsDrops | controlSent | controlCaptured | inboxDrops | foreignControl | unknownChannel
  | replyAuthFailures | staleReplies | overlaps
  deriving DecidableEq, Repr

/-- The counters of an association, in the order of R62. -/
inductive AssocCounter
  | framesProtected | plaintextOctets | exhaustDrops | stateDrops | attemptsSent | switchesDone | giveUps
  | corruptedFrames
  deriving DecidableEq, Repr

/-! ## Pins and the part as a whole -/

/-- Levels at the pins and of the physical layer's link reports. -/
structure Pins where
  /-- RESET_N is low (R183) -/
  resetLow : Bool
  /-- INHIBIT_N is low (R187) -/
  inhibitLow : Bool
  /-- C-side link reported good (R14) -/
  campusLink : Vector Bool 4
  /-- R-side link reported good (R115) -/
  rackLink : Vector Bool 4
  deriving DecidableEq, Repr

/-- The latched strap inputs (R183). -/
structure Straps where
  rate : Fin 4
  clear : Bool
  deriving DecidableEq, Repr

/-- The hardware fault record (R179). -/
structure HwFaults where
  lanesFailed : Vector Bool 6
  keyStore : Bool
  /-- also the buffer-fault indication of each port (R1) -/
  buffers : Vector Bool 4
  scrubFaults : Nat
  deriving DecidableEq, Repr

/-- The hardware fault record as power-on and pin reset clear it (R179). -/
def HwFaults.cleared : HwFaults :=
  { lanesFailed := Vector.replicate 6 false, keyStore := false, buffers := Vector.replicate 4 false, scrubFaults := 0 }

/-! ## Ports -/

/-- Settings record of a port (R1). -/
structure PortSettings where
  portAddress : BitVec 48
  peerAddress : BitVec 48
  frameCeiling : Nat
  clpType : BitVec 16
  classMap : Vector ClassNum 8
  untaggedClass : ClassNum
  defaultAction : Action
  settle : Nat
  linkDownPolicy : LinkDownPolicy
  inhibitAction : InhibitAction
  deriving DecidableEq, Repr

/-- Reset values of the settings (R1). -/
def PortSettings.reset : PortSettings :=
  { portAddress := 0, peerAddress := 0, frameCeiling := 1518, clpType := 0x89C4,
    classMap := #v[0, 0, 1, 1, 2, 2, 3, 3], untaggedClass := 0, defaultAction := .drop, settle := 10,
    linkDownPolicy := .hold, inhibitAction := .hold }

/-- Flow settings of a port (R106). -/
structure FlowSettings where
  pauseEnable : Bool
  ceiling : Vector Nat 4
  upper : Vector Nat 4
  lower : Vector Nat 4
  quanta : Nat
  deriving DecidableEq, Repr

/-- Reset values of the flow settings (R106). -/
def FlowSettings.reset : FlowSettings :=
  { pauseEnable := true, ceiling := Vector.replicate 4 512, upper := Vector.replicate 4 384,
    lower := Vector.replicate 4 256, quanta := 65535 }

/-- What steering decided for a frame that it keeps (R33). -/
inductive Disposition
  | protect (anum : Anum)
  | pass
  deriving DecidableEq, Repr

/-- A frame record of a class queue (R103). -/
structure FrameRecord where
  frame : Bytes
  cells : Nat
  cls : ClassNum
  outcome : Disposition
  deriving DecidableEq, Repr

/-- What a transform sequence entry is, with the fields that only its kind holds (R93). -/
inductive EntryBody
  | data (anum : Anum) (slot : SlotNum) (pn : Nat) (protection : Protection) (vlan : VlanHandling) (label : BitVec 32)
  | pass
  | notice (anum : Anum) (slot : SlotNum) (pn : Nat)
  deriving DecidableEq, Repr

/-- Status of a transform sequence entry (R93). An entry in a lane names its lane (assumption 4). -/
inductive EntryStatus
  | waitingLane
  | inLane (lane : LaneNum)
  | done
  deriving DecidableEq, Repr

/-- An entry of a transform sequence (R93). -/
structure Entry where
  body : EntryBody
  /-- the received frame, the built notice, or after a TRANSFORM the finished frame -/
  frame : Bytes
  status : EntryStatus
  corrupted : Bool
  inhibitDiscard : Bool
  deriving DecidableEq, Repr

/-- A frame in transmission on the C-side (R15), with what its completion counts (R15, R62, R99). -/
inductive CampusTx
  | data (anum : Anum) (corrupted : Bool) (frame : Bytes)
  | notice (anum : Anum) (frame : Bytes)
  | pass (frame : Bytes)
  deriving DecidableEq, Repr

/-- A frame in transmission on the R-side (R114). -/
inductive RackTx
  | pause (frame : Bytes)
  | returned (frame : Bytes)
  deriving DecidableEq, Repr

/-- A captured control frame in its place of the reply inbox (R123; the place number is the model's, assumption 4). -/
structure Captured where
  place : Fin 4
  frame : Bytes
  deriving DecidableEq, Repr

/-- One uplink port. -/
structure Port where
  settings : PortSettings
  flow : FlowSettings
  /-- retry settings (R138) -/
  firstStep : Nat
  lastStep : Nat
  mode : PortMode
  link : LinkState
  settleRemaining : Nat
  /-- the class queues, oldest record first (R103) -/
  queues : Vector (List FrameRecord) 4
  /-- the holding indications (R111) -/
  holding : Vector Bool 4
  /-- the refresh counts (R112) -/
  refresh : Vector Nat 4
  pauseOwed : Bool
  /-- campus pause times (R118) -/
  campusPause : Vector Nat 8
  /-- rack pause times (R122) -/
  rackPause : Vector Nat 8
  /-- the transform sequence, oldest first (R93) -/
  sequence : List Entry
  /-- the control queue, oldest first (R140) -/
  controlQueue : List Anum
  /-- the C-side transmitter (R15) -/
  campusTx : Option CampusTx
  /-- the R-side transmitter (R114) -/
  rackTx : Option RackTx
  /-- the return FIFO, oldest first (R120) -/
  returnFifo : List Bytes
  /-- the reply inbox, oldest first (R123) -/
  inbox : List Captured
  /-- the counters (R182) -/
  counters : Vector Nat 32
  deriving DecidableEq, Repr

/-- A port after every reset, with its C-side link not reported good (R183). -/
def Port.reset : Port :=
  { settings := .reset, flow := .reset, firstStep := 3, lastStep := 7, mode := .off, link := .down,
    settleRemaining := 0, queues := Vector.replicate 4 [], holding := Vector.replicate 4 false,
    refresh := Vector.replicate 4 0, pauseOwed := false, campusPause := Vector.replicate 8 0,
    rackPause := Vector.replicate 8 0, sequence := [], controlQueue := [], campusTx := none, rackTx := none,
    returnFifo := [], inbox := [], counters := Vector.replicate 32 0 }

/-! ## Steering table -/

/-- An entry of the steering table (R24). -/
structure SteerEntry where
  valid : Bool
  locked : Bool
  /-- the port set, bit p for port p -/
  ports : BitVec 4
  tagging : Tagging
  vlanValue : BitVec 12
  vlanMask : BitVec 12
  prioValue : BitVec 3
  prioMask : BitVec 3
  addressValue : BitVec 48
  addressMask : BitVec 48
  typeValue : BitVec 16
  typeMask : BitVec 16
  action : Action
  classOverride : Option ClassNum
  hits : Nat
  deriving DecidableEq, Repr

/-- Reset contents of a steering entry (R24). -/
def SteerEntry.reset : SteerEntry :=
  { valid := false, locked := false, ports := 0, tagging := .any, vlanValue := 0, vlanMask := 0, prioValue := 0,
    prioMask := 0, addressValue := 0, addressMask := 0, typeValue := 0, typeMask := 0, action := .drop,
    classOverride := none, hits := 0 }

/-! ## Associations -/

/-- An attempt record (R40, R136). -/
structure Attempt where
  number : Nat
  step : Nat
  pulses : Nat
  status : NoticeStatus
  deriving DecidableEq, Repr

/-- An association record (R40). -/
structure Assoc where
  state : AssocState
  port : PortNum
  protection : Protection
  vlan : VlanHandling
  label : BitVec 32
  firstEpoch : Byte
  currentEpoch : Byte
  current : Option SlotNum
  next : Option SlotNum
  nextPn : Nat
  switchMark : Nat
  stopMark : Nat
  triggerPolicy : TriggerPolicy
  confirmPolicy : ConfirmPolicy
  lifetimeReload : Nat
  lifetimeScale : LifetimeScale
  lifetimeRemaining : Nat
  switchPending : Bool
  switchDue : Bool
  pendingKind : Option TriggerKind
  corruptOne : Bool
  corruptAll : Bool
  floorCurrent : Nat
  floorNext : Nat
  attempt : Option Attempt
  counters : Vector Nat 8
  deriving DecidableEq, Repr

/-- The record after every reset (R41). -/
def Assoc.reset : Assoc :=
  { state := .idle, port := 0, protection := .confidential, vlan := .keepClear, label := 0, firstEpoch := 0,
    currentEpoch := 0, current := none, next := none, nextPn := 1, switchMark := 1, stopMark := 2,
    triggerPolicy := .auto, confirmPolicy := .confirmed, lifetimeReload := 0, lifetimeScale := .fine,
    lifetimeRemaining := 0, switchPending := false, switchDue := false, pendingKind := none, corruptOne := false,
    corruptAll := false, floorCurrent := 0, floorNext := 0, attempt := none, counters := Vector.replicate 8 0 }

/-! ## Key store -/

/-- A key slot (R63). `expandedKey` is empty while the slot holds none (R64). -/
structure Slot where
  state : SlotState
  owner : Option Anum
  epoch : Byte
  size : KeySize
  key : Bytes
  salt : BitVec 32
  checkValue : BitVec 24
  expandedKey : Bytes
  integrityCode : Nat
  inFlight : Nat
  deriving DecidableEq, Repr

/-- An EMPTY slot, zeroised (R64, R67, R79). -/
def Slot.empty : Slot :=
  { state := .empty, owner := none, epoch := 0, size := .bits128, key := List.replicate 16 0, salt := 0,
    checkValue := 0, expandedKey := [], integrityCode := 0, inFlight := 0 }

/-! ## Lanes -/

/-- The role of the slot a verification request names (R89): REQUEST frames the current, REPLY frames the next. -/
inductive KeyRole | current | next
  deriving DecidableEq, Repr

/-- A verification request (R89). It carries the captured frame it names. -/
structure VerifyReq where
  port : PortNum
  place : Fin 4
  frame : Bytes
  anum : Anum
  role : KeyRole
  slot : SlotNum
  deriving DecidableEq, Repr

/-- The working copy of a slot's key material (R83, R85). -/
structure KeyCopy where
  expandedKey : Bytes
  salt : BitVec 32
  epoch : Byte
  deriving DecidableEq, Repr

/-- The operation of a BUSY lane (R83). -/
inductive LaneOp
  /-- the TRANSFORM of the entry of `port` that is IN_LANE here, with the CLP type code read at the grant (R85) -/
  | transform (port : PortNum) (copy : KeyCopy) (clpType : BitVec 16)
  /-- the VERIFY of a request, and whether R90 has withdrawn it -/
  | verify (req : VerifyReq) (copy : KeyCopy) (withdrawn : Bool)
  /-- the EXPAND of a slot's key, and whether the load that queued it still stands (R73) -/
  | expand (slot : SlotNum) (key : Bytes) (live : Bool)
  deriving DecidableEq, Repr

/-- A cipher lane (R83). -/
inductive Lane
  | outOfService
  | idle
  | busy (op : LaneOp)
  deriving DecidableEq, Repr

/-! ## Events, faults and the management line -/

/-- An entry of the event list (R174). -/
structure Event where
  kind : EventKind
  source : EventSource
  count : Nat
  detail : BitVec 16
  deriving DecidableEq, Repr

/-- An entry of the management fault list (R172). -/
structure MgmtFault where
  kind : FaultKind
  tag : Option Byte
  requestCount : BitVec 16
  deriving DecidableEq, Repr

/-- The line receiver (R163, R164). In RECORD it holds the bytes received since the sync byte, and gap remaining. -/
inductive Receiver
  | hunt
  | record (got : Bytes) (gap : Nat)
  deriving DecidableEq, Repr

/-- A reply record (R167): kind, tag, and body beginning with the status code. -/
structure Reply where
  kind : Byte
  tag : Byte
  body : Bytes
  deriving DecidableEq, Repr

/-- The busy-owed marker (R166): the kind and tag of the record that is answered BUSY. -/
structure BusyMark where
  kind : Byte
  tag : Byte
  deriving DecidableEq, Repr

/-! ## The state -/

/-- The whole state of the part, with the queue of waiting commands. -/
structure State where
  /-- the commands that wait, first in first out (the model's own, assumption 1) -/
  pending : List Instr
  /-- the self-tests that have ended with an open result (the model's own, assumption 9) -/
  openSelfTests : Nat
  pins : Pins
  straps : Straps
  partState : PartState
  inhibit : InhibitState
  /-- the lifetime divider's clock count (R124) -/
  clockCount : Nat
  /-- the lifetime divider's fine count (R124) -/
  fineCount : Nat
  hwFaults : HwFaults
  ports : Vector Port 4
  steering : Vector SteerEntry 128
  assocs : Vector Assoc 64
  slots : Vector Slot 128
  transportKey : Option Bytes
  /-- the expansion FIFO, oldest first (R72) -/
  expansionFifo : List SlotNum
  scrubPointer : SlotNum
  lanes : Vector Lane 6
  /-- the verification queue, oldest first (R89) -/
  verifyQueue : List VerifyReq
  /-- the arbiter's round-robin pointer (R91) -/
  roundRobin : PortNum
  /-- the event list, oldest first (R174) -/
  events : List Event
  eventsLost : Bool
  /-- the event mask, bit n for kind n (R176) -/
  eventMask : BitVec 21
  /-- the management fault list, oldest first (R178) -/
  faultList : List MgmtFault
  receiver : Receiver
  /-- the request inbox (R165) -/
  requestInbox : Option Record
  requestCount : BitVec 16
  /-- the reply-owed indication, with the reply (R166) -/
  replyOwed : Option Reply
  /-- the busy-owed marker (R166) -/
  busyOwed : Option BusyMark
  deriving DecidableEq, Repr

/-- The part right after a power-on reset (R183), with the straps, INHIBIT_N and the link reports at the levels that
assumption 2 names. -/
def State.reset : State :=
  { pending := []
    openSelfTests := 0
    pins := { resetLow := false, inhibitLow := false, campusLink := Vector.replicate 4 false,
              rackLink := Vector.replicate 4 true }
    straps := { rate := 0, clear := false }
    partState := .testing
    inhibit := .released
    clockCount := 0
    fineCount := 0
    hwFaults := .cleared
    ports := Vector.replicate 4 .reset
    steering := Vector.replicate 128 .reset
    assocs := Vector.replicate 64 .reset
    slots := Vector.replicate 128 .empty
    transportKey := none
    expansionFifo := []
    scrubPointer := 0
    lanes := Vector.replicate 6 .idle
    verifyQueue := []
    roundRobin := 0
    events := []
    eventsLost := false
    eventMask := BitVec.allOnes 21
    faultList := []
    receiver := .hunt
    requestInbox := none
    requestCount := 0
    replyOwed := none
    busyOwed := none }

/-! ## The reasons a command stops -/

/-- A fault: the part is in a state that the spec's own rules exclude, and the command has no meaning there. Each is safe:
the model stops where the spec describes nothing (assumption 6). -/
inductive Fault
  /-- DEQUEUE_DECISION and NOTICE_PLACEMENT: the association whose frame is dequeued, or whose notice is placed, has no
  current slot although its state says it has one (excluded by R42). Safe. -/
  | noCurrentSlot (anum : Anum)
  /-- NOTICE_PLACEMENT: the association at the head of the control queue has no attempt record, or no next slot to announce
  (excluded by R140 and R136). Safe. -/
  | noticeWithoutExchange (anum : Anum)
  deriving DecidableEq, Repr

/-- A refusal: the command has no meaning in this state. -/
inductive Refusal
  /-- exec, of a command that has no meaning yet. Safe. -/
  | notModelled (mnemonic : String)
  /-- The command names an event that the state excludes: the spec says it "cannot occur" (R14, R166), or it is the
  completion of work that is not under way, or an edge of a level that stands already. Safe (assumption 7). -/
  | eventCannotOccur
  deriving DecidableEq, Repr

end Sys2Proof.Machine
end

