-- ==== Sys2Proof/Machine/Operands.lean ====
section
/-! DEFINITION. The fields of frames (R8, R18, R21), the codes of enumerated fields (R169, R170, R176), and the bodies of
requests, read from bytes and written to bytes (R171). -/

namespace Sys2Proof.Machine

/-! ## Frames (R8) -/

def frameDA (f : Bytes) : BitVec 48 := BitVec.ofNat 48 (ofBE (slice f 0 6))
def frameSA (f : Bytes) : BitVec 48 := BitVec.ofNat 48 (ofBE (slice f 6 6))

/-- The two bytes at an index, most significant first. -/
def be16At (f : Bytes) (i : Nat) : BitVec 16 := BitVec.ofNat 16 (ofBE (slice f i 2))

/-- Bytes 12 and 13 hold 0x8100 (R8). -/
def frameTagged (f : Bytes) : Bool := be16At f 12 == 0x8100

/-- Where the type stands: after the VLAN tag of a tagged frame (R8). -/
def typeOffset (f : Bytes) : Nat := if frameTagged f then 16 else 12

def frameType (f : Bytes) : BitVec 16 := be16At f (typeOffset f)

/-- The priority: the top three bits of byte 14 (R8). -/
def framePrio (f : Bytes) : Prio := (byteAt f 14).toNat / 32 |> Fin.ofNat 8

/-- The VLAN ID: the low twelve bits of bytes 14 and 15 (R8). -/
def frameVlan (f : Bytes) : BitVec 12 := (be16At f 14).setWidth 12

/-- A MAC control frame: untagged, of type 0x8808 (R11, R117). -/
def isMacControl (f : Bytes) : Bool := !frameTagged f && frameType f == 0x8808

/-- The cells a frame occupies, ⌈L/128⌉ (R12, R103, R120). -/
def cellsOf (f : Bytes) : Nat := (f.length + 127) / 128

/-! ## MAC control frames (R117, R122) -/

def macOpcode (f : Bytes) : BitVec 16 := be16At f 14

/-- The time a plain pause carries. -/
def plainPauseTime (f : Bytes) : Nat := (be16At f 16).toNat

/-- The priority pause names a priority in the low eight bits of its enable vector. -/
def prioPauseNames (f : Bytes) (p : Prio) : Bool := (be16At f 16).getLsbD p.val

/-- The time a priority pause carries for a priority. -/
def prioPauseTime (f : Bytes) (p : Prio) : Nat := (be16At f (18 + 2 * p.val)).toNat

/-! ## CLP tag and control body (R18, R21) -/

/-- The flags byte of a CLP tag. -/
def clpFlags (ctrl conf vclear : Bool) : Byte :=
  (if ctrl then 0x80#8 else 0) ||| (if conf then 0x40#8 else 0) ||| (if vclear then 0x20#8 else 0)

/-- The 16 bytes of a CLP tag (R18). -/
def clpTag (clpType : BitVec 16) (flags : Byte) (anum : Anum) (epoch : Byte) (pn : Nat) (label : BitVec 32) : Bytes :=
  toBE 2 clpType.toNat ++ [1, flags, BitVec.ofNat 8 anum.val, epoch] ++ toBE 5 pn ++ toBE 4 label.toNat ++ [0]

/-- The 16 bytes of a NOTICE's control body (R21). -/
def noticeBody (anum : Anum) (epoch : Byte) (attempt : Nat) (check : BitVec 24) (label : BitVec 32) : Bytes :=
  [0x01, 0x00, BitVec.ofNat 8 anum.val, epoch, BitVec.ofNat 8 attempt] ++ toBE 3 check.toNat ++ toBE 4 label.toNat
    ++ [0, 0, 0, 0]

/-- The nonce of a transform (R19). -/
def nonceOf (salt : BitVec 32) (anum epoch : Byte) (pn : Bytes) (dirPort : Byte) : Bytes :=
  toBE 4 salt.toNat ++ [anum, epoch] ++ pn ++ [dirPort]

/-! The fields of a captured control frame; its CLP tag stands at byte 12, its body at byte 28 (R21). -/

def ctlVersion (f : Bytes) : Byte := byteAt f 14
def ctlFlags (f : Bytes) : Byte := byteAt f 15
def ctlTagAnum (f : Bytes) : Byte := byteAt f 16
def ctlTagEpoch (f : Bytes) : Byte := byteAt f 17
def ctlTagPn (f : Bytes) : Nat := ofBE (slice f 18 5)
def ctlTagLabel (f : Bytes) : BitVec 32 := BitVec.ofNat 32 (ofBE (slice f 23 4))
def ctlSubtype (f : Bytes) : Byte := byteAt f 28
def ctlResult (f : Bytes) : Byte := byteAt f 29
def ctlBodyAnum (f : Bytes) : Byte := byteAt f 30
def ctlAnnounced (f : Bytes) : Byte := byteAt f 31
def ctlAttempt (f : Bytes) : Nat := (byteAt f 32).toNat
def ctlCheckValue (f : Bytes) : BitVec 24 := BitVec.ofNat 24 (ofBE (slice f 33 3))
def ctlBodyLabel (f : Bytes) : BitVec 32 := BitVec.ofNat 32 (ofBE (slice f 36 4))
def ctlIcv (f : Bytes) : BitVec 128 := BitVec.ofNat 128 (ofBE (slice f 44 16))

/-- Subtype of a control body (R21). -/
def subtypeReply : Byte := 0x02
def subtypeRequest : Byte := 0x03

/-! ## Numbers that name a part of the machine -/

/-- A raw number that names one of `n` things, if it is in range. -/
def inRange (n : Nat) (b : Byte) : Option (Fin n) := if h : b.toNat < n then some ⟨b.toNat, h⟩ else none

/-! ## Codes of enumerated fields: 0, 1, 2 … in the order of the owning rule (R169) -/

def PortMode.ofCode (b : Byte) : Option PortMode := [PortMode.off, .protect][b.toNat]?
def PortMode.code : PortMode → Byte | .off => 0 | .protect => 1

def LinkState.code : LinkState → Byte | .down => 0 | .settling => 1 | .up => 2

def LinkDownPolicy.ofCode (b : Byte) : Option LinkDownPolicy := [LinkDownPolicy.hold, .flush][b.toNat]?
def LinkDownPolicy.code : LinkDownPolicy → Byte | .hold => 0 | .flush => 1

def InhibitAction.ofCode (b : Byte) : Option InhibitAction := [InhibitAction.hold, .discard][b.toNat]?
def InhibitAction.code : InhibitAction → Byte | .hold => 0 | .discard => 1

def Tagging.ofCode (b : Byte) : Option Tagging := [Tagging.tagged, .untagged, .any][b.toNat]?
def Tagging.code : Tagging → Byte | .tagged => 0 | .untagged => 1 | .any => 2

def Protection.ofCode (b : Byte) : Option Protection := [Protection.confidential, .integrity][b.toNat]?
def Protection.code : Protection → Byte | .confidential => 0 | .integrity => 1

def VlanHandling.ofCode (b : Byte) : Option VlanHandling := [VlanHandling.keepClear, .protect][b.toNat]?
def VlanHandling.code : VlanHandling → Byte | .keepClear => 0 | .protect => 1

def TriggerPolicy.ofCode (b : Byte) : Option TriggerPolicy := [TriggerPolicy.auto, .manual][b.toNat]?
def TriggerPolicy.code : TriggerPolicy → Byte | .auto => 0 | .manual => 1

def ConfirmPolicy.ofCode (b : Byte) : Option ConfirmPolicy := [ConfirmPolicy.confirmed, .unilateral][b.toNat]?
def ConfirmPolicy.code : ConfirmPolicy → Byte | .confirmed => 0 | .unilateral => 1

def LifetimeScale.ofCode (b : Byte) : Option LifetimeScale := [LifetimeScale.fine, .coarse][b.toNat]?
def LifetimeScale.code : LifetimeScale → Byte | .fine => 0 | .coarse => 1

/-- Pause enable is listed "ON or OFF" (R106), so ON is 0 (assumption 14). -/
def pauseEnableOfCode (b : Byte) : Option Bool := [true, false][b.toNat]?
def pauseEnableCode (on : Bool) : Byte := if on then 0 else 1

def TriggerKind.code : TriggerKind → Byte | .mark => 0 | .expiry => 1 | .request => 2
def NoticeStatus.code : NoticeStatus → Byte | .queued => 0 | .issued => 1
def KeySize.code : KeySize → Byte | .bits128 => 0 | .bits256 => 1
def PartState.code : PartState → Byte | .testing => 0 | .running => 1 | .halted => 2

def AssocState.code : AssocState → Byte
  | .idle => 0 | .configured => 1 | .running => 2 | .switching => 3 | .exhausted => 4 | .suspended => 5 | .faulted => 6

def SlotState.code : SlotState → Byte
  | .empty => 0 | .loaded => 1 | .ready => 2 | .active => 3 | .draining => 4 | .faulted => 5

def FaultKind.code : FaultKind → Byte
  | .framing => 0 | .badCheck => 1 | .badLength => 2 | .unknownKind => 3 | .overrun => 4

/-- An action and its ANUM byte (R169). -/
def Action.ofCode (action anum : Byte) : Option Action :=
  match action.toNat with
  | 0 => (inRange 64 anum).map .protect
  | 1 => some .pass
  | 2 => some .drop
  | _ => none

/-- The action and ANUM bytes; the ANUM is absent, 0xFF, for PASS and DROP (assumption 13). -/
def Action.bytes : Action → Bytes
  | .protect a => [0, BitVec.ofNat 8 a.val]
  | .pass => [1, 0xFF]
  | .drop => [2, 0xFF]

/-- A yes-or-no field (R169). A flag that its rule lists as set or clear is one too, 1 for set, DEDUCED (assumption 32): the
owning rules (R40, R174) do not say whether such a flag is a yes-or-no field or an enumeration. -/
def yesNo (b : Bool) : Byte := if b then 1 else 0

/-- An optional number in one byte, 0xFF for absent (R169). -/
def optionByte {n : Nat} : Option (Fin n) → Byte
  | some i => BitVec.ofNat 8 i.val
  | none => 0xFF

/-- A set of lanes or ports in one byte, the sum of 2^n over its members (R169). -/
def setByte (members : List Bool) : Byte := BitVec.ofNat 8 (members.foldr (fun b n => (if b then 1 else 0) + 2 * n) 0)

/-- The code of an event kind (R176), which is its bit of the event mask. -/
def EventKind.code : EventKind → Nat
  | .linkUp => 0 | .linkDown => 1 | .steerOverlap => 2 | .bufferDrop => 3 | .returnDrop => 4 | .inboxDrop => 5
  | .keyWanted => 6 | .switchDue => 7 | .switchDone => 8 | .switchFailed => 9 | .switchRefused => 10
  | .switchAborted => 11 | .exhausted => 12 | .assocFaulted => 13 | .keyReady => 14 | .keyRetired => 15
  | .scrubFault => 16 | .inhibitOn => 17 | .inhibitOff => 18 | .mgmtFault => 19 | .selftestFault => 20

/-- Source kind and source number of an event (R176). -/
def EventSource.bytes : EventSource → Bytes
  | .port p => [0, BitVec.ofNat 8 p.val]
  | .assoc a => [1, BitVec.ofNat 8 a.val]
  | .slot k => [2, BitVec.ofNat 8 k.val]
  | .part => [3, 0]

/-- The cause of an abandonment, as the detail of SWITCH_ABORTED (R156, R176). -/
inductive AbortCause | portOff | inhibit | clear | currentKeyLost | nextKeyLost
  deriving DecidableEq, Repr

def AbortCause.code : AbortCause → BitVec 16
  | .portOff => 0 | .inhibit => 1 | .clear => 2 | .currentKeyLost => 3 | .nextKeyLost => 4

/-- Details of SWITCH_FAILED (R176). -/
def detailTimeout : BitVec 16 := 0
def detailPnSpent : BitVec 16 := 1

/-- Status codes (R170). -/
inductive Status
  | ok | badCheck | badLength | unknownKind | badValue | state | portActive | faulted | slotBusy | nextPresent
  | epochOrder | wrapFail | noTransportKey | locked | noKey | inUse | notReady | busy
  deriving DecidableEq, Repr

def Status.code : Status → Byte
  | .ok => 0x00 | .badCheck => 0x01 | .badLength => 0x02 | .unknownKind => 0x03 | .badValue => 0x04 | .state => 0x05
  | .portActive => 0x06 | .faulted => 0x07 | .slotBusy => 0x08 | .nextPresent => 0x09 | .epochOrder => 0x0A
  | .wrapFail => 0x0B | .noTransportKey => 0x0C | .locked => 0x0D | .noKey => 0x0E | .inUse => 0x0F
  | .notReady => 0x10 | .busy => 0x11

/-- Place of a port counter in a PORT record (R182). -/
def PortCounter.index : PortCounter → Fin 32
  | .framesIn => 0 | .octetsIn => 1 | .fcsDrops => 2 | .runtDrops => 3 | .oversizeDrops => 4 | .portOffDrops => 5
  | .noMatchDrops => 6 | .steerDrops => 7 | .misdirectedDrops => 8 | .assocStateDrops => 9
  | .bufferDrops k => ⟨10 + k.val, by omega⟩
  | .passFrames => 14 | .protectedFramesOut => 15 | .octetsOut => 16 | .linkDownFlush => 17 | .inhibitDrops => 18
  | .pauseFramesSent => 19 | .campusPauseReceived => 20 | .returnForwarded => 21 | .returnDrops => 22
  | .returnFcsDrops => 23 | .controlSent => 24 | .controlCaptured => 25 | .inboxDrops => 26 | .foreignControl => 27
  | .unknownChannel => 28 | .replyAuthFailures => 29 | .staleReplies => 30 | .overlaps => 31

/-- Place of an association counter in an ASSOC record (R62, R181). -/
def AssocCounter.index : AssocCounter → Fin 8
  | .framesProtected => 0 | .plaintextOctets => 1 | .exhaustDrops => 2 | .stateDrops => 3 | .attemptsSent => 4
  | .switchesDone => 5 | .giveUps => 6 | .corruptedFrames => 7

/-! ## Request bodies (R171): numbers least significant byte first, byte strings as on the wire (R169) -/

/-- The number in `n` bytes at an index, least significant first. -/
def leAt (bs : Bytes) (i n : Nat) : Nat := ofLE (slice bs i n)

/-- The byte string of `n` bytes at an index, first byte most significant. -/
def beAt (bs : Bytes) (i n : Nat) : Nat := ofBE (slice bs i n)

/-- A vector of bytes, or of 2-byte numbers, at an index. -/
def bytes8At (bs : Bytes) (i : Nat) : Vector Byte 8 :=
  #v[byteAt bs i, byteAt bs (i + 1), byteAt bs (i + 2), byteAt bs (i + 3), byteAt bs (i + 4), byteAt bs (i + 5),
     byteAt bs (i + 6), byteAt bs (i + 7)]

def le16At (bs : Bytes) (i : Nat) : BitVec 16 := BitVec.ofNat 16 (leAt bs i 2)

def fourLe16At (bs : Bytes) (i : Nat) : Vector (BitVec 16) 4 :=
  #v[le16At bs i, le16At bs (i + 2), le16At bs (i + 4), le16At bs (i + 6)]

def readPortSet (bs : Bytes) : PortSetBody :=
  { port := byteAt bs 0, portAddress := BitVec.ofNat 48 (beAt bs 1 6), peerAddress := BitVec.ofNat 48 (beAt bs 7 6),
    frameCeiling := le16At bs 13, clpType := le16At bs 15, classes := bytes8At bs 17, untaggedClass := byteAt bs 25,
    action := byteAt bs 26, actionAnum := byteAt bs 27, settle := byteAt bs 28, linkDownPolicy := byteAt bs 29,
    inhibitAction := byteAt bs 30 }

def writePortSet (b : PortSetBody) : Bytes :=
  [b.port] ++ toBE 6 b.portAddress.toNat ++ toBE 6 b.peerAddress.toNat ++ toLE 2 b.frameCeiling.toNat
    ++ toLE 2 b.clpType.toNat ++ b.classes.toList
    ++ [b.untaggedClass, b.action, b.actionAnum, b.settle, b.linkDownPolicy, b.inhibitAction]

def readPortFlow (bs : Bytes) : PortFlowBody :=
  { port := byteAt bs 0, pauseEnable := byteAt bs 1, ceiling := fourLe16At bs 2, upper := fourLe16At bs 10,
    lower := fourLe16At bs 18, quanta := le16At bs 26 }

/-- Four 2-byte numbers, least significant byte first. -/
def fourLe16Bytes (v : Vector (BitVec 16) 4) : Bytes := v.toList.flatMap fun x => toLE 2 x.toNat

def writePortFlow (b : PortFlowBody) : Bytes :=
  [b.port, b.pauseEnable] ++ fourLe16Bytes b.ceiling ++ fourLe16Bytes b.upper ++ fourLe16Bytes b.lower
    ++ toLE 2 b.quanta.toNat

def readSteerSet (bs : Bytes) : SteerSetBody :=
  { index := byteAt bs 0, ports := byteAt bs 1, tagging := byteAt bs 2, vlanValue := le16At bs 3, vlanMask := le16At bs 5,
    prioValue := byteAt bs 7, prioMask := byteAt bs 8, addressValue := BitVec.ofNat 48 (beAt bs 9 6),
    addressMask := BitVec.ofNat 48 (beAt bs 15 6), typeValue := le16At bs 21, typeMask := le16At bs 23,
    action := byteAt bs 25, actionAnum := byteAt bs 26, classOverride := byteAt bs 27 }

def writeSteerSet (b : SteerSetBody) : Bytes :=
  [b.index, b.ports, b.tagging] ++ toLE 2 b.vlanValue.toNat ++ toLE 2 b.vlanMask.toNat ++ [b.prioValue, b.prioMask]
    ++ toBE 6 b.addressValue.toNat ++ toBE 6 b.addressMask.toNat ++ toLE 2 b.typeValue.toNat ++ toLE 2 b.typeMask.toNat
    ++ [b.action, b.actionAnum, b.classOverride]

def readAssocSet (bs : Bytes) : AssocSetBody :=
  { anum := byteAt bs 0, port := byteAt bs 1, protection := byteAt bs 2, vlan := byteAt bs 3,
    label := BitVec.ofNat 32 (beAt bs 4 4), firstEpoch := byteAt bs 8, switchMark := BitVec.ofNat 40 (leAt bs 9 5),
    stopMark := BitVec.ofNat 40 (leAt bs 14 5), triggerPolicy := byteAt bs 19, confirmPolicy := byteAt bs 20,
    lifetimeReload := le16At bs 21, lifetimeScale := byteAt bs 23 }

def writeAssocSet (b : AssocSetBody) : Bytes :=
  [b.anum, b.port, b.protection, b.vlan] ++ toBE 4 b.label.toNat ++ [b.firstEpoch] ++ toLE 5 b.switchMark.toNat
    ++ toLE 5 b.stopMark.toNat ++ [b.triggerPolicy, b.confirmPolicy] ++ toLE 2 b.lifetimeReload.toNat
    ++ [b.lifetimeScale]

/-- The request kinds (R171). -/
inductive RequestKind
  | identify | reset | portSet | portMode | portGet | portFlow | portSwitch | steerSet | steerGet | steerLock
  | steerClear | assocSet | assocStart | assocSuspend | assocResume | assocClear | assocGet | testCorrupt | switchNow
  | transportKey | keyLoad | keyErase | slotGet | eventsFetch | faultsRead | countersRead
  deriving DecidableEq, Repr

/-- The code of a request kind (R171). -/
def RequestKind.code : RequestKind → Byte
  | .identify => 0x01 | .reset => 0x02 | .portSet => 0x03 | .portMode => 0x04 | .portGet => 0x05 | .portFlow => 0x06
  | .portSwitch => 0x07 | .steerSet => 0x08 | .steerGet => 0x09 | .steerLock => 0x0A | .steerClear => 0x0B
  | .assocSet => 0x0C | .assocStart => 0x0D | .assocSuspend => 0x0E | .assocResume => 0x0F | .assocClear => 0x10
  | .assocGet => 0x11 | .testCorrupt => 0x12 | .switchNow => 0x13 | .transportKey => 0x14 | .keyLoad => 0x15
  | .keyErase => 0x16 | .slotGet => 0x17 | .eventsFetch => 0x18 | .faultsRead => 0x19 | .countersRead => 0x1A

/-- The kinds in the order of their codes, from 0x01 (R171). -/
def RequestKind.all : List RequestKind :=
  [.identify, .reset, .portSet, .portMode, .portGet, .portFlow, .portSwitch, .steerSet, .steerGet, .steerLock,
   .steerClear, .assocSet, .assocStart, .assocSuspend, .assocResume, .assocClear, .assocGet, .testCorrupt, .switchNow,
   .transportKey, .keyLoad, .keyErase, .slotGet, .eventsFetch, .faultsRead, .countersRead]

/-- The kind a code names, if it is one of R171. -/
def RequestKind.ofCode (b : Byte) : Option RequestKind := if b = 0 then none else RequestKind.all[b.toNat - 1]?

/-- The least and the largest body length accepted at step 3 of R168 (R171). -/
def RequestKind.bodyRange : RequestKind → Nat × Nat
  | .identify | .reset | .faultsRead => (0, 0)
  | .portSet => (31, 31)
  | .portMode | .testCorrupt => (2, 2)
  | .portGet | .steerGet | .steerLock | .steerClear | .assocStart | .assocSuspend | .assocResume | .assocClear
  | .assocGet | .switchNow | .keyErase | .slotGet => (1, 1)
  | .portFlow | .steerSet => (28, 28)
  | .portSwitch => (3, 3)
  | .assocSet => (24, 24)
  | .transportKey => (0, 1024)
  | .keyLoad => (3, 1024)
  | .eventsFetch => (6, 6)
  | .countersRead => (4, 4)

/-- The bytes of a record that its check covers: length, kind, tag and body (R162). -/
def recordCovered (r : Record) : Bytes := toLE 2 (r.body.length + 2) ++ [r.kind, r.tag] ++ r.body

/-- The record of a request kind with a good check (R162). -/
def goodRecord (kind : RequestKind) (tag : Byte) (body : Bytes) : Record :=
  { kind := kind.code, tag := tag, body := body,
    check := crc16 (recordCovered { kind := kind.code, tag := tag, body := body, check := 0 }) }

/-- A record as it stands on the line: sync, length, kind, tag, body, check (R162). -/
def recordOnLine (r : Record) : Bytes := [0xC3] ++ recordCovered r ++ toBE 2 r.check.toNat

/-- The record that a request command stands for, if the command is a request (assumption 5). -/
def requestRecord : Instr → Option (RequestKind × Byte × Bytes)
  | .identify tag => some (.identify, tag, [])
  | .reset tag => some (.reset, tag, [])
  | .portSet tag b => some (.portSet, tag, writePortSet b)
  | .portMode tag port mode => some (.portMode, tag, [port, mode])
  | .portGet tag port => some (.portGet, tag, [port])
  | .portFlow tag b => some (.portFlow, tag, writePortFlow b)
  | .portSwitch tag port first last => some (.portSwitch, tag, [port, first, last])
  | .steerSet tag b => some (.steerSet, tag, writeSteerSet b)
  | .steerGet tag index => some (.steerGet, tag, [index])
  | .steerLock tag index => some (.steerLock, tag, [index])
  | .steerClear tag index => some (.steerClear, tag, [index])
  | .assocSet tag b => some (.assocSet, tag, writeAssocSet b)
  | .assocStart tag anum => some (.assocStart, tag, [anum])
  | .assocSuspend tag anum => some (.assocSuspend, tag, [anum])
  | .assocResume tag anum => some (.assocResume, tag, [anum])
  | .assocClear tag anum => some (.assocClear, tag, [anum])
  | .assocGet tag anum => some (.assocGet, tag, [anum])
  | .testCorrupt tag anum action => some (.testCorrupt, tag, [anum, action])
  | .switchNow tag anum => some (.switchNow, tag, [anum])
  | .transportKey tag key => some (.transportKey, tag, key)
  | .keyLoad tag slot anum epoch blob => some (.keyLoad, tag, [slot, anum, epoch] ++ blob)
  | .keyErase tag slot => some (.keyErase, tag, [slot])
  | .slotGet tag slot => some (.slotGet, tag, [slot])
  | .eventsFetch tag count maskWrite mask => some (.eventsFetch, tag, [count, maskWrite] ++ toLE 4 mask.toNat)
  | .faultsRead tag => some (.faultsRead, tag, [])
  | .countersRead tag block first count clear => some (.countersRead, tag, [block, first, count, clear])
  | .powerOn _ | .pinResetAssert | .pinResetRelease _ _ | .selftestComplete _ | .inhibitAssert | .inhibitRelease
  | .finePulse _ | .coarsePulse _ | .lifetimeExpiry _ | .linkGood _ | .linkSettled _ | .linkLost _ | .rackLinkLost _
  | .rackLinkGood _ | .rsideFrameReceived _ _ | .csideFrameReceived _ _ | .transformComplete _ | .expandComplete _
  | .verifyComplete _ | .attemptTimeout _ | .dequeueDecision _ | .noticePlacement _ | .csideTxStart _
  | .csideTxComplete _ | .rsideTxStart _ | .rsideTxComplete _ | .quantumTick | .pauseRefreshDue _ _
  | .campusPauseEnd _ _ | .rackPauseEnd _ _ | .mgmtByteReceived _ _ | .gapExpiry | .recordComplete _ | .replySent =>
    none

/-- The request command that a kind, a tag and a body stand for, the body's length being in range (R168, R171). -/
def RequestKind.command (kind : RequestKind) (tag : Byte) (bs : Bytes) : Instr :=
  match kind with
  | .identify => .identify tag
  | .reset => .reset tag
  | .portSet => .portSet tag (readPortSet bs)
  | .portMode => .portMode tag (byteAt bs 0) (byteAt bs 1)
  | .portGet => .portGet tag (byteAt bs 0)
  | .portFlow => .portFlow tag (readPortFlow bs)
  | .portSwitch => .portSwitch tag (byteAt bs 0) (byteAt bs 1) (byteAt bs 2)
  | .steerSet => .steerSet tag (readSteerSet bs)
  | .steerGet => .steerGet tag (byteAt bs 0)
  | .steerLock => .steerLock tag (byteAt bs 0)
  | .steerClear => .steerClear tag (byteAt bs 0)
  | .assocSet => .assocSet tag (readAssocSet bs)
  | .assocStart => .assocStart tag (byteAt bs 0)
  | .assocSuspend => .assocSuspend tag (byteAt bs 0)
  | .assocResume => .assocResume tag (byteAt bs 0)
  | .assocClear => .assocClear tag (byteAt bs 0)
  | .assocGet => .assocGet tag (byteAt bs 0)
  | .testCorrupt => .testCorrupt tag (byteAt bs 0) (byteAt bs 1)
  | .switchNow => .switchNow tag (byteAt bs 0)
  | .transportKey => .transportKey tag bs
  | .keyLoad => .keyLoad tag (byteAt bs 0) (byteAt bs 1) (byteAt bs 2) (bs.drop 3)
  | .keyErase => .keyErase tag (byteAt bs 0)
  | .slotGet => .slotGet tag (byteAt bs 0)
  | .eventsFetch => .eventsFetch tag (byteAt bs 0) (byteAt bs 1) (BitVec.ofNat 32 (leAt bs 2 4))
  | .faultsRead => .faultsRead tag
  | .countersRead => .countersRead tag (byteAt bs 0) (byteAt bs 1) (byteAt bs 2) (byteAt bs 3)

end Sys2Proof.Machine
end

