-- ==== Sys2Proof/Machine/Ops.lean ====
section
/-! DEFINITION. The named operations over the state: one row of a table read or written, counters (R180), events (R175),
management faults (R172), and the slots (R76 to R79). -/

namespace Sys2Proof.Machine

/-! ## Tables -/

/-- The row of a table at an index. -/
def row {α : Type} {n : Nat} (v : Vector α n) (i : Fin n) : α := v[i.val]

/-- A table with the row at an index replaced. -/
def setRow {α : Type} {n : Nat} (v : Vector α n) (i : Fin n) (a : α) : Vector α n := v.set i.val a

/-- A table with the row at an index changed. -/
def updRow {α : Type} {n : Nat} (v : Vector α n) (i : Fin n) (f : α → α) : Vector α n := setRow v i (f (row v i))

/-- A table with every row changed. -/
def mapRows {α : Type} {n : Nat} (v : Vector α n) (f : α → α) : Vector α n := Vector.ofFn fun i => f (row v i)

def allPorts : List PortNum := [0, 1, 2, 3]
/-- Class 3 first, as flushes and the scheduler take them (R105, R108). -/
def classesDown : List ClassNum := [3, 2, 1, 0]
def allPrios : List Prio := [0, 1, 2, 3, 4, 5, 6, 7]
def allLanes : List LaneNum := [0, 1, 2, 3, 4, 5]
/-- Associations in ascending ANUM order. -/
def allAnums : List Anum := List.finRange 64
def allEntries : List EntryIdx := List.finRange 128

def State.port (s : State) (p : PortNum) : Port := row s.ports p
def State.assoc (s : State) (a : Anum) : Assoc := row s.assocs a
def State.slot (s : State) (k : SlotNum) : Slot := row s.slots k
def State.entry (s : State) (i : EntryIdx) : SteerEntry := row s.steering i
def State.lane (s : State) (l : LaneNum) : Lane := row s.lanes l

def State.updPort (s : State) (p : PortNum) (f : Port → Port) : State := { s with ports := updRow s.ports p f }
def State.updAssoc (s : State) (a : Anum) (f : Assoc → Assoc) : State := { s with assocs := updRow s.assocs a f }
def State.updSlot (s : State) (k : SlotNum) (f : Slot → Slot) : State := { s with slots := updRow s.slots k f }
def State.updEntry (s : State) (i : EntryIdx) (f : SteerEntry → SteerEntry) : State :=
  { s with steering := updRow s.steering i f }
def State.setLane (s : State) (l : LaneNum) (x : Lane) : State := { s with lanes := setRow s.lanes l x }

/-- A command has its effect, and the part goes on. -/
abbrev Result := Host.Outcome State Fault Refusal

/-- A command while RESET_N is low changes nothing: the part sends nothing and discards what it receives (R183,
assumption 15). -/
def unlessHeld (s : State) (act : Result) : Result := if s.pins.resetLow then .next s else act

/-! ## Counters (R180): they stop at the top value -/

def addCount (c n : Nat) : Nat := min (c + n) Config.counterMax

def bumpPort (p : PortNum) (c : PortCounter) (n : Nat) (s : State) : State :=
  s.updPort p fun x => { x with counters := updRow x.counters c.index (addCount · n) }

def bumpAssoc (a : Anum) (c : AssocCounter) (n : Nat) (s : State) : State :=
  s.updAssoc a fun x => { x with counters := updRow x.counters c.index (addCount · n) }

/-! ## Events (R175) -/

/-- The entry an event merges into: the same kind and source. -/
def Event.sameAs (kind : EventKind) (source : EventSource) (e : Event) : Bool := e.kind == kind && e.source == source

/-- Raising an event: masked out, merged, appended, or lost (R175). -/
def raiseEvent (kind : EventKind) (source : EventSource) (detail : BitVec 16) (s : State) : State :=
  if s.eventMask.getLsbD kind.code = false then s
  else if s.events.any (Event.sameAs kind source) then
    { s with events := s.events.map fun e =>
        if Event.sameAs kind source e then { e with count := min (e.count + 1) 255 } else e }
  else if s.events.length < Config.eventCapacity then
    { s with events := s.events ++ [{ kind := kind, source := source, count := 1, detail := detail }] }
  else { s with eventsLost := true }

/-! ## Management faults (R172, R178) -/

/-- A management fault enters the list, the oldest leaving a full one, and MGMT_FAULT is raised. -/
def recordFault (kind : FaultKind) (tag : Option Byte) (s : State) : State :=
  let entry : MgmtFault := { kind := kind, tag := tag, requestCount := s.requestCount }
  let kept := if s.faultList.length < Config.faultCapacity then s.faultList else s.faultList.drop 1
  raiseEvent .mgmtFault .part (kind.code.setWidth 16) { s with faultList := kept ++ [entry] }

/-! ## Slots (R76 to R79) -/

/-- The waiting expansion request of a slot is removed, and an EXPAND in a lane for it is left to complete and be
discarded (R72, R73). -/
def dropExpansion (k : SlotNum) (s : State) : State :=
  { s with
    expansionFifo := s.expansionFifo.filter (· != k)
    lanes := mapRows s.lanes fun
      | .busy (.expand j key live) => .busy (.expand j key (live && j != k))
      | l => l }

/-- The slot becomes EMPTY and is zeroised (R79); no event is raised. -/
def emptySlot (k : SlotNum) (s : State) : State := (dropExpansion k s).updSlot k fun _ => Slot.empty

/-- The end of a slot's service: EMPTY, zeroised, KEY_RETIRED raised (R77, R78). -/
def retireSlot (k : SlotNum) (s : State) : State := raiseEvent .keyRetired (.slot k) 0 (emptySlot k s)

/-- An entry recorded against the slot has left its transform sequence (R76); a drain that reaches 0 ends (R78). -/
def releaseSlot (k : SlotNum) (s : State) : State :=
  let count := (s.slot k).inFlight - 1
  if (s.slot k).state = .draining ∧ count = 0 then retireSlot k s
  else s.updSlot k fun x => { x with inFlight := count }

/-- A current slot leaves ACTIVE, at a cut-over or at ASSOC_CLEAR (R77). -/
def leaveService (k : SlotNum) (s : State) : State :=
  if (s.slot k).inFlight = 0 then retireSlot k s else s.updSlot k fun x => { x with state := .draining }

/-- The slot a transform sequence entry is recorded against; a PASS entry has none (R93). -/
def Entry.slot? (e : Entry) : Option SlotNum :=
  match e.body with
  | .data _ k _ _ _ _ => some k
  | .notice _ k _ => some k
  | .pass => none

/-- The effect on its key slot of an entry that has left the sequence (R76, R98). -/
def releaseEntry (e : Entry) (s : State) : State :=
  match e.slot? with
  | some k => releaseSlot k s
  | none => s

end Sys2Proof.Machine
end

