-- ==== Sys2Proof/Machine/Flags.lean ====
section
/-! DEFINITION. The indications the part derives from its state: pins driven, line state, pauses, holding thresholds, the
conditions under which schedulers, flushes and switches act. -/

namespace Sys2Proof.Machine

/-- The level of ALERT_N, true for high: low exactly while the event list is not empty (R174), high in reset (R183). -/
def State.alertHigh (s : State) : Bool := s.pins.resetLow || s.events.isEmpty

/-- INHIBIT is asserted (R187). -/
def State.inhibited (s : State) : Bool := s.inhibit == .asserted

/-! ## Line state (R166) -/

/-- The four states of the pair of indications (R166). -/
inductive LineState | idle | serving | servingBusy | sendingBusy
  deriving DecidableEq, Repr

def State.lineState (s : State) : LineState :=
  match s.replyOwed, s.busyOwed with
  | none, none => .idle
  | some _, none => .serving
  | some _, some _ => .servingBusy
  | none, some _ => .sendingBusy

/-- Gap remaining, 0 in HUNT (R164, R173). -/
def State.gapRemaining (s : State) : Nat :=
  match s.receiver with
  | .hunt => 0
  | .record _ gap => gap

/-! ## Buffer and pause -/

/-- Occupancy of a class queue, the sum of its records' cells (R103). -/
def Port.occupancy (x : Port) (k : ClassNum) : Nat := ((row x.queues k).map FrameRecord.cells).sum

/-- The priorities of a class: those whose class map entry it is (R13). -/
def Port.priosOf (x : Port) (k : ClassNum) : List Prio := allPrios.filter fun p => row x.settings.classMap p == k

/-- A class is campus-paused while a priority mapped to it has campus pause time above 0 (R118). -/
def Port.campusPaused (x : Port) (k : ClassNum) : Bool := (x.priosOf k).any fun p => decide (0 < row x.campusPause p)

/-- The refresh interval, ⌊Q/2⌋ quanta, at least 1 (R112). -/
def Port.refreshInterval (x : Port) : Nat := max 1 (x.flow.quanta / 2)

/-- The holding indication that an occupancy gives (R111). -/
def Port.holdingAfter (x : Port) (k : ClassNum) : Bool :=
  if x.flow.pauseEnable then
    if row x.holding k then decide (row x.flow.lower k < x.occupancy k) else decide (row x.flow.upper k ≤ x.occupancy k)
  else false

/-- Free cells of the return FIFO (R120). -/
def Port.returnFree (x : Port) : Nat := Config.returnCells - (x.returnFifo.map cellsOf).sum

/-- The priority of a return FIFO head: of its VLAN tag if tagged, 0 if untagged (R121). -/
def returnPrio (frame : Bytes) : Prio := if frameTagged frame then framePrio frame else 0

/-- The head of the return FIFO, if it may be forwarded (R121). -/
def Port.forwardable (x : Port) : Option Bytes :=
  match x.returnFifo with
  | f :: _ => if row x.rackPause (returnPrio f) = 0 then some f else none
  | [] => none

/-- The link-down flush is in force on a port (R109). -/
def State.flushInForce (s : State) (p : PortNum) : Bool :=
  let x := s.port p
  x.mode == .protect && x.settings.linkDownPolicy == .flush && x.link != .up && !s.inhibited

/-- The conditions under which a scheduler moves work (R108). -/
def State.schedulerRuns (s : State) (p : PortNum) : Bool :=
  let x := s.port p
  x.mode == .protect && x.link == .up && !s.inhibited && decide (x.sequence.length < Config.sequenceCapacity)

/-- The class the scheduler takes: the highest not empty and not campus-paused (R108). -/
def Port.chosenClass (x : Port) : Option ClassNum :=
  classesDown.find? fun k => !(row x.queues k).isEmpty && !x.campusPaused k

/-! ## Associations and slots -/

/-- The association's next slot is present and READY. -/
def State.nextReady (s : State) (a : Anum) : Bool :=
  match (s.assoc a).next with
  | some k => (s.slot k).state == .ready
  | none => false

/-- A switch can start (R131). -/
def State.canStart (s : State) (a : Anum) : Bool :=
  let x := s.assoc a
  (x.state == .running || x.state == .exhausted) && x.attempt.isNone && s.nextReady a
    && (x.confirmPolicy == .unilateral || ((s.port x.port).mode == .protect && !s.inhibited))

/-- The epoch a KEY_LOAD must carry (R69 check 7). -/
def Assoc.expectedEpoch (x : Assoc) : Byte := if x.current.isSome then x.currentEpoch + 1 else x.firstEpoch

/-- An association has a key in service, and its lifetime counts (R127). -/
def AssocState.inService : AssocState → Bool
  | .running | .switching | .exhausted | .suspended => true
  | .idle | .configured | .faulted => false

/-- Expansion status of a slot (R63, R75). -/
inductive ExpansionStatus | none | waiting | inLane
  deriving DecidableEq, Repr

def ExpansionStatus.code : ExpansionStatus → Byte | .none => 0 | .waiting => 1 | .inLane => 2

/-- A lane expands the slot's key for its present load. -/
def Lane.expands (k : SlotNum) : Lane → Bool
  | .busy (.expand j _ live) => live && j == k
  | _ => false

def State.expansionStatus (s : State) (k : SlotNum) : ExpansionStatus :=
  if s.expansionFifo.contains k then .waiting
  else if allLanes.any fun l => (s.lane l).expands k then .inLane
  else .none

/-- A verification request's slot still has, for its association, the role it was named in (R90, R148). -/
def State.roleHeld (s : State) (r : VerifyReq) : Bool :=
  match r.role with
  | .current => (s.assoc r.anum).current == some r.slot
  | .next => (s.assoc r.anum).next == some r.slot

/-- The lanes in service (R186). -/
def State.lanesInService (s : State) : List Bool := allLanes.map fun l => s.lane l != .outOfService

end Sys2Proof.Machine
end

