-- ==== Sys2Proof/Machine/Sequence.lean ====
section
/-! DEFINITION. The class queues and the transform sequences: admission and removal (R104, R105, R109), entries that become
DONE, are marked, or leave (R94 to R98). -/

namespace Sys2Proof.Machine

/-! ## Class queues -/

/-- The holding indication is evaluated after a change of a class queue's occupancy; a change of it sets pause-owed, and
becoming set restarts the refresh count (R111, R112). -/
def evalHolding (p : PortNum) (k : ClassNum) (s : State) : State :=
  s.updPort p fun x =>
    let now := x.holdingAfter k
    if now = row x.holding k then x
    else { x with
      holding := setRow x.holding k now
      pauseOwed := true
      refresh := if now then setRow x.refresh k 0 else x.refresh }

/-- Hand-over of a kept frame to the egress buffer: flushed, admitted or tail-dropped (R104, R109). -/
def admitFrame (p : PortNum) (r : FrameRecord) (s : State) : State :=
  if s.flushInForce p then bumpPort p .linkDownFlush 1 s
  else if (s.port p).occupancy r.cls + r.cells ≤ row (s.port p).flow.ceiling r.cls then
    evalHolding p r.cls (s.updPort p fun x => { x with queues := updRow x.queues r.cls (· ++ [r]) })
  else
    raiseEvent .bufferDrop (.port p) (BitVec.ofNat 16 r.cls.val) (bumpPort p (.bufferDrops r.cls) 1 s)

/-- The head record of a class queue leaves, and its cells are freed (R105). -/
def takeHead (p : PortNum) (k : ClassNum) (s : State) : State :=
  evalHolding p k (s.updPort p fun x => { x with queues := updRow x.queues k (·.drop 1) })

/-- Every record of a class queue is removed and counted, one per frame (R105). -/
def flushClass (p : PortNum) (c : PortCounter) (s : State) (k : ClassNum) : State :=
  match row (s.port p).queues k with
  | [] => s
  | records =>
    bumpPort p c records.length (evalHolding p k (s.updPort p fun x => { x with queues := setRow x.queues k [] }))

/-- Every record of a port's class queues is removed, highest class first (R105). -/
def flushQueues (p : PortNum) (c : PortCounter) (s : State) : State := classesDown.foldl (flushClass p c) s

/-- The link-down flush of a port, taken at the moment it comes into force (R109). -/
def linkDownFlush (p : PortNum) (s : State) : State := if s.flushInForce p then flushQueues p .linkDownFlush s else s

/-! ## Transform sequence entries -/

def Entry.isPass (e : Entry) : Bool := e.body == .pass

def EntryStatus.isInLane : EntryStatus → Bool
  | .inLane _ => true
  | .waitingLane | .done => false

/-- An entry becomes DONE; under inhibit it is marked (R94, R95, R97). -/
def Entry.finish (inhibited : Bool) (e : Entry) : Entry :=
  { e with status := .done, inhibitDiscard := e.inhibitDiscard || inhibited }

/-- PASS entries with no older WAITING_LANE entry before them become DONE (R95). -/
def finishPasses (inhibited : Bool) : List Entry → List Entry
  | [] => []
  | e :: es =>
    if e.status = .waitingLane then
      if e.isPass then e.finish inhibited :: finishPasses inhibited es else e :: es
    else e :: finishPasses inhibited es

/-- R95 on a port. -/
def settlePasses (p : PortNum) (s : State) : State :=
  s.updPort p fun x => { x with sequence := finishPasses s.inhibited x.sequence }

/-- The entries of a port that satisfy a test leave the sequence, each counted and its slot released (R98). -/
def removeEntries (p : PortNum) (test : Entry → Bool) (c : PortCounter) (s : State) : State :=
  ((s.port p).sequence.filter test).foldl (fun s e => releaseEntry e (bumpPort p c 1 s))
    (s.updPort p fun x => { x with sequence := x.sequence.filter fun e => !test e })

/-- How a DONE head that is not sent leaves: marked, or in OFF under inhibit, as an inhibit drop; with the link not UP, in
OFF or under FLUSH, as a link-down flush (R7, R16, R97, R98). -/
def headDiscard (s : State) (p : PortNum) : Option PortCounter :=
  let x := s.port p
  match x.sequence with
  | [] => none
  | e :: _ =>
    if e.status = .done then
      if e.inhibitDiscard || (x.mode == .off && s.inhibited) then some .inhibitDrops
      else if x.link != .up && (x.mode == .off || x.settings.linkDownPolicy == .flush) then some .linkDownFlush
      else none
    else none

/-- The head leaves the sequence, with the effect on its slot (R76). -/
def dropHead (p : PortNum) (s : State) : State :=
  match (s.port p).sequence with
  | [] => s
  | e :: es => releaseEntry e (s.updPort p fun x => { x with sequence := es })

/-- Discardable heads leave one after another, at most `n` of them. -/
def discardHeadsUpTo : Nat → PortNum → State → State
  | 0, _, s => s
  | n + 1, p, s =>
    match headDiscard s p with
    | some c => discardHeadsUpTo n p (dropHead p (bumpPort p c 1 s))
    | none => s

/-- Every DONE head that is not to be sent leaves (R98). -/
def discardHeads (p : PortNum) (s : State) : State := discardHeadsUpTo (s.port p).sequence.length p s

/-- R95 and R98 on a port, after its sequence, link, mode or inhibit state has changed. -/
def tidySequence (p : PortNum) (s : State) : State := discardHeads p (settlePasses p s)

/-- An entry joins the tail of a port's sequence (R93). -/
def joinSequence (p : PortNum) (body : EntryBody) (frame : Bytes) (s : State) : State :=
  s.updPort p fun x => { x with sequence := x.sequence ++
    [{ body := body, frame := frame, status := .waitingLane, corrupted := false, inhibitDiscard := false }] }

/-- A slot's in-flight count rises by an entry recorded against it (R53, R56, R76). -/
def recordAgainst (k : SlotNum) (s : State) : State := s.updSlot k fun x => { x with inFlight := x.inFlight + 1 }

/-- Entries recorded against a failed slot are condemned: those not IN_LANE leave at once (R82). -/
def condemnOnPort (k : SlotNum) (s : State) (p : PortNum) : State :=
  tidySequence p (removeEntries p (fun e => e.slot? == some k && !e.status.isInLane) .assocStateDrops s)

def condemnEntries (k : SlotNum) (s : State) : State := allPorts.foldl (condemnOnPort k) s

end Sys2Proof.Machine
end

