-- ==== Sys2Proof/Machine/KeySwitch.lean ====
section
/-! DEFINITION. Switch triggers (R129 to R135) and the key switch exchange (R136 to R158): how a switch begins, how an
attempt and an exchange end, the cut-over, verification requests and their withdrawal (R89, R90). -/

namespace Sys2Proof.Machine

/-! ## The reply inbox and withdrawn verifications -/

/-- The key switch controller has finished with a captured frame: it leaves the inbox, and its place is free (R123). -/
def leaveInbox (p : PortNum) (place : Fin 4) (s : State) : State :=
  s.updPort p fun x => { x with inbox := x.inbox.filter fun c => c.place != place }

/-- A captured frame is discarded and counted (R145, R149, R150). -/
def failCaptured (p : PortNum) (place : Fin 4) (c : PortCounter) (s : State) : State :=
  bumpPort p c 1 (leaveInbox p place s)

/-- The verification requests of an association whose slot has left its role end with a withdrawn FAIL: those waiting at
once, as stale (R149 step 1); those in lanes at their completion (R90). -/
def withdrawVerifies (a : Anum) (s : State) : State :=
  let gone (r : VerifyReq) : Bool := r.anum == a && !s.roleHeld r
  let waiting := s.verifyQueue.filter gone
  let s1 : State := { s with
    verifyQueue := s.verifyQueue.filter fun r => !gone r
    lanes := mapRows s.lanes fun
      | .busy (.verify r copy w) => .busy (.verify r copy (w || gone r))
      | l => l }
  waiting.foldl (fun s r => failCaptured r.port r.place .staleReplies s) s1

/-! ## Flags of an association -/

/-- Switch pending and switch due are cleared, and with pending its trigger kind (R133, R135). -/
def Assoc.clearFlags (x : Assoc) : Assoc :=
  { x with switchPending := false, switchDue := false, pendingKind := none }

/-- A SWITCHING association that loses its attempt record returns to RUNNING; others keep their state (R155, R156). -/
def AssocState.afterExchange : AssocState → AssocState
  | .switching => .running
  | .idle => .idle
  | .configured => .configured
  | .running => .running
  | .exhausted => .exhausted
  | .suspended => .suspended
  | .faulted => .faulted

/-- The association leaves its port's control queue if it waits there (R140). -/
def leaveControlQueue (a : Anum) (s : State) : State :=
  s.updPort (s.assoc a).port fun x => { x with controlQueue := x.controlQueue.filter (· != a) }

/-- The association's notice joins the tail of its port's control queue (R140). -/
def joinControlQueue (a : Anum) (s : State) : State :=
  s.updPort (s.assoc a).port fun x => { x with controlQueue := x.controlQueue ++ [a] }

/-! ## The cut-over (R157) -/

/-- The record of an association after a cut-over to a slot of the given epoch (R157 items 1, 3 to 8). -/
def Assoc.cutOverTo (k : SlotNum) (epoch : Byte) (x : Assoc) : Assoc :=
  { x with
    state := .running
    current := some k
    next := none
    currentEpoch := epoch
    nextPn := 1
    lifetimeRemaining := x.lifetimeReload
    floorCurrent := x.floorNext
    floorNext := 0
    attempt := none }

/-- The cut-over of an association to its next slot; without one nothing happens (R157, R158). -/
def cutOver (a : Anum) (s : State) : State :=
  match (s.assoc a).next with
  | none => s
  | some k =>
    let epoch := (s.slot k).epoch
    let outgoing := (s.assoc a).current
    let s1 := (s.updSlot k fun x => { x with state := .active }).updAssoc a (Assoc.cutOverTo k epoch)
    let s2 := match outgoing with
      | some j => leaveService j s1
      | none => s1
    let s3 := raiseEvent .switchDone (.assoc a) (epoch.setWidth 16) (bumpAssoc a .switchesDone 1 s2)
    withdrawVerifies a s3

/-! ## Beginning a switch (R133, R136, R137) -/

/-- The attempt record at its creation (R136). -/
def firstAttempt (step : Nat) : Attempt := { number := 1, step := step, pulses := 2 ^ step, status := .queued }

/-- The attempt that follows one that has ended (R144). -/
def Attempt.following (t : Attempt) : Attempt :=
  { number := t.number + 1, step := t.step + 1, pulses := 2 ^ (t.step + 1), status := .queued }

/-- A switch begins (R133): both flags are cleared; under CONFIRMED attempt 1 is created and its notice queued, under
UNILATERAL the cut-over is made at once. -/
def beginSwitch (a : Anum) (s : State) : State :=
  let x := s.assoc a
  let s1 := s.updAssoc a Assoc.clearFlags
  match x.confirmPolicy with
  | .confirmed =>
    joinControlQueue a (s1.updAssoc a fun y => { y with
      attempt := some (firstAttempt (s.port x.port).firstStep)
      state := if y.state = .running then .switching else y.state })
  | .unilateral => cutOver a s1

/-- A switch held pending under AUTO begins if it can now start (R132). -/
def beginIfPending (s : State) (a : Anum) : State :=
  let x := s.assoc a
  if x.triggerPolicy = .auto ∧ x.switchPending = true ∧ s.canStart a = true then beginSwitch a s else s

/-! ## Triggers (R130) -/

/-- Switch pending is set; the kind is kept from the trigger that set it (R130). -/
def setPending (a : Anum) (kind : TriggerKind) (s : State) : State :=
  s.updAssoc a fun x => if x.switchPending then x else { x with switchPending := true, pendingKind := some kind }

/-- A trigger reaches an association (R130). -/
def handTrigger (a : Anum) (kind : TriggerKind) (s : State) : State :=
  let x := s.assoc a
  if (x.state = .running ∨ x.state = .exhausted ∨ x.state = .suspended) ∧ x.attempt = none then
    match x.triggerPolicy with
    | .auto =>
      if s.canStart a then beginSwitch a s
      else if s.nextReady a ∨ x.switchPending = true then setPending a kind s
      else raiseEvent .keyWanted (.assoc a) (kind.code.setWidth 16) (setPending a kind s)
    | .manual =>
      if x.switchDue then s
      else raiseEvent .switchDue (.assoc a) (kind.code.setWidth 16) (s.updAssoc a fun x => { x with switchDue := true })
  else s

/-! ## Ends of an attempt and of an exchange -/

/-- A give-up: the exchange ends without a cut-over (R155), with the event that its cause raises. -/
def giveUp (a : Anum) (kind : EventKind) (detail : BitVec 16) (s : State) : State :=
  let s1 := leaveControlQueue a s
  let s2 := s1.updAssoc a fun x => { x with attempt := none, state := x.state.afterExchange }
  raiseEvent kind (.assoc a) detail (bumpAssoc a .giveUps 1 s2)

/-- An attempt ends without an outcome: the next attempt begins, or the exchange gives up with TIMEOUT (R144, R153). -/
def endAttempt (a : Anum) (s : State) : State :=
  match (s.assoc a).attempt with
  | none => s
  | some t =>
    if t.step < (s.port (s.assoc a).port).lastStep then
      joinControlQueue a (s.updAssoc a fun x => { x with attempt := some t.following })
    else giveUp a .switchFailed detailTimeout s

/-- An abandonment of the exchange of an association that has an attempt record (R156). -/
def abandonExchange (cause : AbortCause) (s : State) (a : Anum) : State :=
  match (s.assoc a).attempt with
  | none => s
  | some _ =>
    let s1 := leaveControlQueue a s
    let s2 := s1.updAssoc a fun x => { x with attempt := none, state := x.state.afterExchange }
    raiseEvent .switchAborted (.assoc a) cause.code s2

/-! ## Loss of a key (R58, R59, R134) -/

/-- The current slot of an association has failed its scrub (R58). -/
def loseCurrent (a : Anum) (s : State) : State :=
  let s1 := s.updAssoc a fun x => { x with current := none }
  let s2 := abandonExchange .currentKeyLost s1 a
  let s3 := s2.updAssoc a fun x => { x.clearFlags with state := .faulted }
  withdrawVerifies a (raiseEvent .assocFaulted (.assoc a) 0 s3)

/-- The next slot of an association has failed its scrub (R59, R134). -/
def loseNext (a : Anum) (s : State) : State :=
  let s1 := abandonExchange .nextKeyLost (s.updAssoc a fun x => { x with next := none }) a
  let x := s1.assoc a
  let s2 := match x.triggerPolicy, x.switchPending, x.pendingKind with
    | .auto, true, some kind => raiseEvent .keyWanted (.assoc a) (kind.code.setWidth 16) s1
    | _, _, _ => s1
  withdrawVerifies a s2

/-! ## Captured control frames (R145, R148) -/

/-- Check 1 of R145. -/
def captureWellFormed (x : Port) (f : Bytes) : Bool :=
  frameSA f == x.settings.peerAddress
  && (ctlSubtype f == subtypeReply || ctlSubtype f == subtypeRequest)
  && ctlBodyAnum f == ctlTagAnum f && ctlBodyLabel f == ctlTagLabel f
  && (if ctlSubtype f == subtypeReply then decide ((ctlResult f).toNat ≤ 2) && ctlAnnounced f == ctlTagEpoch f
      else ctlResult f == 0)

/-- Check 2 of R145: the association the frame names, if it is in use on the port with the frame's label. -/
def captureAssoc (s : State) (p : PortNum) (f : Bytes) : Option Anum :=
  (inRange 64 (ctlTagAnum f)).filter fun a =>
    (s.assoc a).state != .idle && (s.assoc a).port == p && (s.assoc a).label == ctlTagLabel f

/-- The role of the key a control frame is protected under (R89). -/
def captureRole (f : Bytes) : KeyRole := if ctlSubtype f = subtypeReply then .next else .current

/-- Check 3 of R145: the slot the frame is verified under, if the frame names the epoch of its key. -/
def captureSlot (s : State) (a : Anum) (f : Bytes) : Option SlotNum :=
  let x := s.assoc a
  match captureRole f with
  | .next => if x.attempt.isSome then x.next.filter fun k => (s.slot k).epoch == ctlTagEpoch f else none
  | .current => if x.currentEpoch == ctlTagEpoch f then x.current else none

/-- The peer floor of a key (R60). -/
def Assoc.floorOf (x : Assoc) : KeyRole → Nat
  | .current => x.floorCurrent
  | .next => x.floorNext

/-- The four checks of a captured frame in a place of a port's inbox; one that passes is sent for verification
(R145, R148). -/
def checkCaptured (p : PortNum) (place : Fin 4) (f : Bytes) (s : State) : State :=
  if captureWellFormed (s.port p) f = false then failCaptured p place .foreignControl s
  else match captureAssoc s p f with
    | none => failCaptured p place .unknownChannel s
    | some a =>
      match captureSlot s a f with
      | none => failCaptured p place .staleReplies s
      | some k =>
        if ctlTagPn f ≤ (s.assoc a).floorOf (captureRole f) then failCaptured p place .staleReplies s
        else { s with verifyQueue := s.verifyQueue ++
          [{ port := p, place := place, frame := f, anum := a, role := captureRole f, slot := k }] }

/-! ## Verdicts (R149 to R154) -/

/-- The attempt check (R150). -/
def attemptCheck (s : State) (a : Anum) (f : Bytes) : Bool :=
  match (s.assoc a).attempt, (s.assoc a).next with
  | some t, some k => t.status == .issued && t.number == ctlAttempt f && (s.slot k).checkValue == ctlCheckValue f
  | _, _ => false

/-- The result of a reply that passes the attempt check takes effect (R152, R153, R154). -/
def applyReply (a : Anum) (f : Bytes) (s : State) : State :=
  match (ctlResult f).toNat with
  | 0 => cutOver a s
  | 1 => endAttempt a s
  | _ => giveUp a .switchRefused (BitVec.ofNat 16 (((s.assoc a).attempt.map Attempt.number).getD 0)) s

/-- The peer floor of the frame's key takes its number (R149 step 4). -/
def raiseFloor (a : Anum) (role : KeyRole) (pn : Nat) (s : State) : State :=
  s.updAssoc a fun x => match role with
    | .current => { x with floorCurrent := pn }
    | .next => { x with floorNext := pn }

/-- A verdict reaches the key switch controller (R149). -/
def applyVerdict (r : VerifyReq) (withdrawn pass : Bool) (s : State) : State :=
  if withdrawn then failCaptured r.port r.place .staleReplies s
  else if pass = false then failCaptured r.port r.place .replyAuthFailures s
  else if ctlTagPn r.frame ≤ (s.assoc r.anum).floorOf r.role then failCaptured r.port r.place .staleReplies s
  else
    let s1 := raiseFloor r.anum r.role (ctlTagPn r.frame) s
    match r.role with
    | .current => handTrigger r.anum .request (leaveInbox r.port r.place s1)
    | .next =>
      if attemptCheck s1 r.anum r.frame then applyReply r.anum r.frame (leaveInbox r.port r.place s1)
      else failCaptured r.port r.place .staleReplies s1

end Sys2Proof.Machine
end

