-- ==== Sys2Proof/Machine/Lanes.lean ====
section
/-! DEFINITION. The cipher lanes: what they compute (R18 to R21, R85 to R88), the lane arbiter (R91), and the completions
TRANSFORM_COMPLETE, EXPAND_COMPLETE and VERIFY_COMPLETE. -/

namespace Sys2Proof.Machine

/-! ## What the lanes compute -/

/-- The ciphertext of a plaintext, of the same length (R20). -/
def cipherText (key nonce ad plain : Bytes) : Bytes :=
  (List.range plain.length).map fun i => Config.cipherByte key nonce ad plain i

/-- The 16 bytes of an ICV. -/
def icvBytes (key nonce ad plain : Bytes) : Bytes := toBE 16 (Config.icv key nonce ad plain).toNat

/-- The ICV as sent: a marked frame has every bit of its first byte inverted (R99). -/
def corruptIcv (corrupted : Bool) (icv : Bytes) : Bytes :=
  if corrupted then icv.mapIdx fun i b => if i = 0 then ~~~ b else b else icv

/-- What the lane takes from a DATA entry (R85). -/
structure DataFields where
  anum : Anum
  pn : Nat
  protection : Protection
  vlan : VlanHandling
  label : BitVec 32
  deriving DecidableEq, Repr

/-- The bytes that stay in clear before the CLP tag: DA, SA, and a VLAN tag that is kept clear (R18). -/
def clearHeader (vlan : VlanHandling) (f : Bytes) : Bytes :=
  if frameTagged f && vlan == .keepClear then f.take 16 else f.take 12

/-- The protected body, in clear: what follows the clear header, without the frame check sequence (R18). -/
def plainBody (vlan : VlanHandling) (f : Bytes) : Bytes := (withoutFcs f).drop (clearHeader vlan f).length

/-- The CLP tag of a data frame (R18). -/
def dataTag (d : DataFields) (copy : KeyCopy) (clpType : BitVec 16) (f : Bytes) : Bytes :=
  clpTag clpType (clpFlags false (d.protection == .confidential) (frameTagged f && d.vlan == .keepClear)) d.anum copy.epoch
    d.pn d.label

/-- The nonce of a frame the part protects (R19). -/
def outboundNonce (copy : KeyCopy) (anum : Anum) (epoch : Byte) (pn : Nat) (p : PortNum) : Bytes :=
  nonceOf copy.salt (BitVec.ofNat 8 anum.val) epoch (toBE 5 pn) (BitVec.ofNat 8 p.val)

/-- The protected data frame (R18, R20, R85). -/
def protectedFrame (d : DataFields) (copy : KeyCopy) (clpType : BitVec 16) (p : PortNum) (corrupted : Bool) (f : Bytes) :
    Bytes :=
  let header := clearHeader d.vlan f ++ dataTag d copy clpType f
  let body := plainBody d.vlan f
  let nonce := outboundNonce copy d.anum copy.epoch d.pn p
  match d.protection with
  | .confidential =>
    withFcs (header ++ cipherText copy.expandedKey nonce header body
      ++ corruptIcv corrupted (icvBytes copy.expandedKey nonce header body))
  | .integrity =>
    withFcs (header ++ body ++ corruptIcv corrupted (icvBytes copy.expandedKey nonce (header ++ body) []))

/-- The 44 bytes of a NOTICE before its ICV, built at its placement (R21, R86). -/
def noticeHead (settings : PortSettings) (anum : Anum) (epoch : Byte) (pn : Nat) (announced : Byte) (attempt : Nat)
    (check : BitVec 24) (label : BitVec 32) : Bytes :=
  toBE 6 settings.peerAddress.toNat ++ toBE 6 settings.portAddress.toNat
    ++ clpTag settings.clpType (clpFlags true false false) anum epoch pn label
    ++ noticeBody anum announced attempt check label

/-- The finished 64-byte NOTICE: the ICV over the 44 bytes, then the frame check sequence (R86). The nonce takes ANUM,
epoch and PN from the CLP tag (R19). -/
def finishedNotice (copy : KeyCopy) (p : PortNum) (f : Bytes) : Bytes :=
  withFcs (f ++ icvBytes copy.expandedKey
    (nonceOf copy.salt (ctlTagAnum f) (ctlTagEpoch f) (slice f 18 5) (BitVec.ofNat 8 p.val)) f [])

/-- The comparison of a VERIFY: the ICV of the frame equals the one computed with direction-port byte 0x80 + P (R87). -/
def verifyPasses (r : VerifyReq) (copy : KeyCopy) : Bool :=
  ctlIcv r.frame == Config.icv copy.expandedKey
    (nonceOf copy.salt (ctlTagAnum r.frame) (ctlTagEpoch r.frame) (slice r.frame 18 5) (BitVec.ofNat 8 (0x80 + r.port.val)))
    (r.frame.take 44) []

/-- The 16 zero bytes of one block. -/
def zeroBlock : Bytes := List.replicate 16 0

/-- The expanded key: the round keys, and the block cipher applied to one zero block (R88). -/
def expandKey (key : Bytes) : Bytes := Config.roundKeys key ++ toBE 16 (Config.blockCipher key zeroBlock).toNat

/-- The check value of a key: the first 3 bytes of the cipher applied to one zero block (R68, R71). -/
def checkValueOf (key : Bytes) : BitVec 24 := ((Config.blockCipher key zeroBlock) >>> 104).setWidth 24

/-- The frame that a TRANSFORM hands to its entry (R85, R86, R94). -/
def transformed (p : PortNum) (copy : KeyCopy) (clpType : BitVec 16) (e : Entry) : Bytes :=
  match e.body with
  | .data a _ pn m v label =>
    protectedFrame { anum := a, pn := pn, protection := m, vlan := v, label := label } copy clpType p e.corrupted e.frame
  | .notice _ _ _ => finishedNotice copy p e.frame
  | .pass => e.frame

/-! ## The arbiter (R91) -/

/-- The working copy a lane takes of a slot (R83, R85). -/
def keyCopy (s : State) (k : SlotNum) : KeyCopy :=
  { expandedKey := (s.slot k).expandedKey, salt := (s.slot k).salt, epoch := (s.slot k).epoch }

/-- The lowest-numbered IDLE lane in service. -/
def idleLane (s : State) : Option LaneNum := allLanes.find? fun l => s.lane l == .idle

def Lane.isExpand : Lane → Bool
  | .busy (.expand _ _ _) => true
  | _ => false

/-- Lanes BUSY with EXPAND operations, those to be discarded included. -/
def expandCount (s : State) : Nat := (allLanes.filter fun l => (s.lane l).isExpand).length

/-- A port has a WAITING_LANE entry, oldest first a DATA or NOTICE entry, and fewer than 2 entries IN_LANE. -/
def portEligible (s : State) (p : PortNum) : Bool :=
  let seq := (s.port p).sequence
  (match seq.find? (·.status == .waitingLane) with
   | some e => !e.isPass
   | none => false)
  && decide ((seq.filter (·.status.isInLane)).length < Config.portLaneCap)

/-- The first eligible port, from the round-robin pointer upward modulo 4. -/
def grantPort (s : State) : Option PortNum :=
  ([0, 1, 2, 3].map fun i : PortNum => s.roundRobin + i).find? (portEligible s)

/-- The oldest WAITING_LANE entry of a sequence becomes IN_LANE, with the mark of R99. -/
def grantOldest (lane : LaneNum) (corrupted : Bool) : List Entry → List Entry
  | [] => []
  | e :: es =>
    if e.status = .waitingLane then { e with status := .inLane lane, corrupted := e.corrupted || corrupted } :: es
    else e :: grantOldest lane corrupted es

/-- The corrupt flags read at a DATA grant: whether the entry is marked, and corrupt-one spent (R99). -/
def spendCorrupt (body : EntryBody) (s : State) : Bool × State :=
  match body with
  | .data a _ _ _ _ _ =>
    ((s.assoc a).corruptOne || (s.assoc a).corruptAll, s.updAssoc a fun x => { x with corruptOne := false })
  | .pass => (false, s)
  | .notice _ _ _ => (false, s)

/-- The grant of a lane to the oldest WAITING_LANE entry of a port (R91 step 3, R95, R99). -/
def grantTransform (l : LaneNum) (p : PortNum) (s : State) : State :=
  match (s.port p).sequence.find? (·.status == .waitingLane) with
  | none => s
  | some e =>
    match e.slot? with
    | none => s
    | some k =>
      let (mark, s1) := spendCorrupt e.body s
      let s2 := s1.updPort p fun x => { x with sequence := grantOldest l mark x.sequence }
      let s3 := s2.setLane l (.busy (.transform p (keyCopy s k) (s.port p).settings.clpType))
      settlePasses p { s3 with roundRobin := p + 1 }

/-- One grant of the arbiter, if an IDLE lane and eligible work remain (R91). -/
def grantOne (s : State) : Option State :=
  match idleLane s with
  | none => none
  | some l =>
    match s.verifyQueue with
    | r :: rest => some ({ s with verifyQueue := rest }.setLane l (.busy (.verify r (keyCopy s r.slot) false)))
    | [] =>
      match s.expansionFifo, decide (expandCount s < Config.expandCap) with
      | k :: rest, true => some ({ s with expansionFifo := rest }.setLane l (.busy (.expand k (s.slot k).key true)))
      | _, _ => (grantPort s).map fun p => grantTransform l p s

/-- Grants repeat while an IDLE lane and eligible work both remain; each takes a lane, so six at most. -/
def grantUpTo : Nat → State → State
  | 0, s => s
  | n + 1, s =>
    match grantOne s with
    | some s' => grantUpTo n s'
    | none => s

/-- The arbiter, where R91 has it consider grants. -/
def arbitrate (s : State) : State := grantUpTo 6 s

/-! ## Completions -/

/-- The lane becomes IDLE and erases its working copy (R83). -/
def freeLane (l : LaneNum) (s : State) : State := s.setLane l .idle

/-- The entry of a port that is IN_LANE in a lane. -/
def entryInLane (s : State) (p : PortNum) (l : LaneNum) : Option Entry :=
  (s.port p).sequence.find? fun e => e.status == .inLane l

/-- The entry that is IN_LANE in a lane becomes DONE with the finished frame; others stay (R94). -/
def Entry.handed (l : LaneNum) (inhibited : Bool) (frame : Bytes) (e : Entry) : Entry :=
  if e.status = .inLane l then { e.finish inhibited with frame := frame } else e

/-- The finished frame is handed to the entry that is IN_LANE in the lane (R94). -/
def handFrame (p : PortNum) (l : LaneNum) (frame : Bytes) (s : State) : State :=
  s.updPort p fun x => { x with sequence := x.sequence.map (Entry.handed l s.inhibited frame) }

/-- The slot of an entry has failed its scrub (R82, R94). -/
def entryFaulted (s : State) (e : Entry) : Bool :=
  match e.slot? with
  | some k => (s.slot k).state == .faulted
  | none => false

/-- TRANSFORM_COMPLETE (R82, R85, R86, R94, R97, R98). -/
def execTransformComplete (l : LaneNum) (s : State) : Result :=
  unlessHeld s <|
    match s.lane l with
    | .busy (.transform p copy clpType) =>
      match entryInLane s p l with
      | some e =>
        let s1 := freeLane l s
        let s2 := if entryFaulted s e then removeEntries p (fun e => e.status == .inLane l) .assocStateDrops s1
          else handFrame p l (transformed p copy clpType e) s1
        .next (arbitrate (tidySequence p s2))
      | none => .refused .eventCannotOccur
    | _ => .refused .eventCannotOccur

/-- The result of an expansion is written, and the slot becomes READY (R73). -/
def completeExpansion (k : SlotNum) (key : Bytes) (s : State) : State :=
  let expanded := expandKey key
  raiseEvent .keyReady (.slot k) 0 (s.updSlot k fun x => { x with
    expandedKey := expanded, integrityCode := Config.integrityCode x.key x.salt expanded, state := .ready })

/-- EXPAND_COMPLETE (R73, R88, R132). -/
def execExpandComplete (l : LaneNum) (s : State) : Result :=
  unlessHeld s <|
    match s.lane l with
    | .busy (.expand k key live) =>
      let s1 := freeLane l s
      if live = true ∧ (s.slot k).state = .loaded then
        let s2 := completeExpansion k key s1
        let s3 := match (s.slot k).owner with
          | some a => beginIfPending s2 a
          | none => s2
        .next (arbitrate s3)
      else .next (arbitrate s1)
    | _ => .refused .eventCannotOccur

/-- VERIFY_COMPLETE (R87, R149). -/
def execVerifyComplete (l : LaneNum) (s : State) : Result :=
  unlessHeld s <|
    match s.lane l with
    | .busy (.verify r copy withdrawn) =>
      .next (arbitrate (applyVerdict r withdrawn (verifyPasses r copy) (freeLane l s)))
    | _ => .refused .eventCannotOccur

end Sys2Proof.Machine
end

