-- ==== Sys2Proof/Machine/Scheduler.lean ====
section
/-! DEFINITION. The schedulers and the transmitters of the ports: DEQUEUE_DECISION (R51 to R55, R108), NOTICE_PLACEMENT
(R56, R141, R142), the C-side transmitter (R15) and the R-side transmitter (R113, R114, R121). -/

namespace Sys2Proof.Machine

/-! ## The dequeue decision -/

/-- The association enters EXHAUSTED and EXHAUSTED is raised (R55, R56). -/
def exhaust (a : Anum) (s : State) : State :=
  raiseEvent .exhausted (.assoc a) 0 (s.updAssoc a fun x => { x with state := .exhausted })

/-- A data frame takes the next number of a RUNNING or SWITCHING association under its current slot, and joins the sequence
(R53); a number that equals the stop mark exhausts (R55), one at or above the switch mark is a MARK trigger (R54). -/
def numberFrame (p : PortNum) (a : Anum) (k : SlotNum) (frame : Bytes) (s : State) : State :=
  let x := s.assoc a
  let pn := x.nextPn
  let s1 := s.updAssoc a fun y => { y with nextPn := y.nextPn + 1 }
  let s2 := recordAgainst k (joinSequence p (.data a k pn x.protection x.vlan x.label) frame s1)
  let s3 := if pn = x.stopMark then exhaust a s2 else s2
  if x.switchMark ≤ pn then handTrigger a .mark s3 else s3

/-- The outcome of the dequeue decision for a frame steered to PROTECT, whose record has left its queue (R52). -/
def dequeueProtected (p : PortNum) (a : Anum) (frame : Bytes) (s : State) : Except Fault State :=
  let x := s.assoc a
  match x.state with
  | .idle => .ok (bumpPort p .assocStateDrops 1 s)
  | .configured | .suspended | .faulted =>
    if x.port ≠ p then .ok (bumpPort p .misdirectedDrops 1 s)
    else .ok (bumpAssoc a .stateDrops 1 (bumpPort p .assocStateDrops 1 s))
  | .exhausted =>
    if x.port ≠ p then .ok (bumpPort p .misdirectedDrops 1 s)
    else .ok (bumpAssoc a .exhaustDrops 1 (bumpPort p .assocStateDrops 1 s))
  | .running | .switching =>
    if x.port ≠ p then .ok (bumpPort p .misdirectedDrops 1 s)
    else match x.current with
      | some k => .ok (arbitrate (tidySequence p (numberFrame p a k frame s)))
      | none => .error (.noCurrentSlot a)

/-- What a step that may meet an excluded state answers. -/
def Result.ofExcept : Except Fault State → Result
  | .ok s => .next s
  | .error f => .fault f

/-- DEQUEUE_DECISION (R51, R52, R108): the scheduler takes the head of the highest class that is not empty and not
campus-paused, unless the control queue holds a notice or the conditions of R108 fail. -/
def execDequeueDecision (p : PortNum) (s : State) : Result :=
  unlessHeld s <|
    if s.schedulerRuns p = false ∨ (s.port p).controlQueue ≠ [] then .next s
    else match (s.port p).chosenClass with
      | none => .next s
      | some k =>
        match row (s.port p).queues k with
        | [] => .next s
        | r :: _ =>
          let s1 := takeHead p k s
          match r.outcome with
          | .pass => .next (arbitrate (tidySequence p (joinSequence p .pass r.frame s1)))
          | .protect a =>
            Result.ofExcept (dequeueProtected p a r.frame s1)

/-! ## The placement of a notice -/

/-- The notice of an association with its attempt record, current and next slots is placed (R141). -/
def placeNotice (p : PortNum) (a : Anum) (t : Attempt) (j k : SlotNum) (s : State) : State :=
  let x := s.assoc a
  let pn := x.nextPn
  let head := noticeHead (s.port p).settings a (s.slot j).epoch pn (s.slot k).epoch t.number (s.slot k).checkValue x.label
  let s1 := s.updPort p fun y => { y with controlQueue := y.controlQueue.drop 1 }
  let s2 := s1.updAssoc a fun y => { y with
    nextPn := y.nextPn + 1
    attempt := some { t with status := .issued, pulses := 2 ^ t.step } }
  let s3 := if x.state = .switching ∧ pn = x.stopMark then exhaust a s2 else s2
  bumpAssoc a .attemptsSent 1 (recordAgainst j (joinSequence p (.notice a j pn) head s3))

/-- NOTICE_PLACEMENT (R56, R141, R142): the scheduler offers the head of the control queue. -/
def execNoticePlacement (p : PortNum) (s : State) : Result :=
  unlessHeld s <|
    if s.schedulerRuns p = false then .next s
    else match (s.port p).controlQueue with
      | [] => .next s
      | a :: _ =>
        if Config.pnMax < (s.assoc a).nextPn then
          .next (giveUp a .switchFailed detailPnSpent
            (s.updPort p fun y => { y with controlQueue := y.controlQueue.drop 1 }))
        else match (s.assoc a).attempt, (s.assoc a).current, (s.assoc a).next with
          | some t, some j, some k => .next (arbitrate (tidySequence p (placeNotice p a t j k s)))
          | _, none, _ => .fault (.noCurrentSlot a)
          | _, some _, _ => .fault (.noticeWithoutExchange a)

/-! ## The C-side transmitter (R15) -/

/-- The frame of an entry, in transmission, with what its completion counts. -/
def Entry.toTx (e : Entry) : CampusTx :=
  match e.body with
  | .data a _ _ _ _ _ => .data a e.corrupted e.frame
  | .notice a _ _ => .notice a e.frame
  | .pass => .pass e.frame

/-- CSIDE_TX_START (R15): the transmitter takes a DONE head that is not marked, while the link is UP and INHIBIT_N is not
asserted; the entry leaves the sequence. -/
def execCsideTxStart (p : PortNum) (s : State) : Result :=
  unlessHeld s <|
    match (s.port p).sequence, (s.port p).campusTx with
    | e :: _, none =>
      if e.status = .done ∧ e.inhibitDiscard = false ∧ (s.port p).link = .up ∧ s.inhibited = false then
        .next (tidySequence p (dropHead p (s.updPort p fun x => { x with campusTx := some e.toTx })))
      else .next s
    | _, _ => .next s

/-- The counting at the completion of a C-side transmission (R15, R62, R99). -/
def countCampusTx (p : PortNum) (tx : CampusTx) (s : State) : State :=
  match tx with
  | .data a corrupted frame =>
    let s1 := bumpPort p .octetsOut frame.length (bumpPort p .protectedFramesOut 1 s)
    let s2 := bumpAssoc a .plaintextOctets (frame.length - 32) (bumpAssoc a .framesProtected 1 s1)
    if corrupted then bumpAssoc a .corruptedFrames 1 s2 else s2
  | .notice _ _ => bumpPort p .controlSent 1 s
  | .pass _ => s

/-- CSIDE_TX_COMPLETE (R15). -/
def execCsideTxComplete (p : PortNum) (s : State) : Result :=
  unlessHeld s <|
    match (s.port p).campusTx with
    | some tx => .next (countCampusTx p tx (s.updPort p fun x => { x with campusTx := none }))
    | none => .refused .eventCannotOccur

/-! ## The R-side transmitter (R113, R114, R121) -/

/-- The pause time the frame gives a priority: Q while its class holds, else 0 (R113). -/
def pauseTimeOf (x : Port) (prio : Prio) : Nat := if row x.holding (row x.settings.classMap prio) then x.flow.quanta else 0

/-- The class pause frame, built when its transmission starts (R113). Of the two bytes of the enable vector R113 gives the low
eight bits alone, all 1; the high byte is a free value (assumption 29). -/
def classPauseFrame (x : Port) : Bytes :=
  withFcs ([0x01, 0x80, 0xC2, 0x00, 0x00, 0x01] ++ toBE 6 x.settings.portAddress.toNat
    ++ [0x88, 0x08, 0x01, 0x01, Config.pauseVectorHigh, 0xFF] ++ allPrios.flatMap (fun q => toBE 2 (pauseTimeOf x q)) ++ List.replicate 26 0)

/-- The refresh counts when a pause frame starts: those of every holding class become 0 (R112). -/
def restartRefresh (x : Port) : Vector Nat 4 :=
  Vector.ofFn fun k => if row x.holding k then 0 else row x.refresh k

/-- RSIDE_TX_START (R114): an owed class pause frame, else a return FIFO head that may be forwarded, else nothing. -/
def execRsideTxStart (p : PortNum) (s : State) : Result :=
  unlessHeld s <|
    let x := s.port p
    if row s.pins.rackLink p = false ∨ x.rackTx ≠ none then .next s
    else if x.pauseOwed then
      .next (s.updPort p fun y => { y with
        rackTx := some (.pause (classPauseFrame y)), pauseOwed := false, refresh := restartRefresh y })
    else match x.forwardable with
      | some f => .next (s.updPort p fun y => { y with rackTx := some (.returned f), returnFifo := y.returnFifo.drop 1 })
      | none => .next s

/-- RSIDE_TX_COMPLETE (R113, R121). -/
def execRsideTxComplete (p : PortNum) (s : State) : Result :=
  unlessHeld s <|
    let s1 := s.updPort p fun x => { x with rackTx := none }
    match (s.port p).rackTx with
    | some (.pause _) => .next (bumpPort p .pauseFramesSent 1 s1)
    | some (.returned _) => .next (bumpPort p .returnForwarded 1 s1)
    | none => .refused .eventCannotOccur

end Sys2Proof.Machine
end

