-- ==== Sys2Proof/Machine/Links.lean ====
section
/-! DEFINITION. Link reports: LINK_GOOD, LINK_SETTLED, LINK_LOST (R14 to R17, R109, R118), RACK_LINK_LOST, RACK_LINK_GOOD
(R115). -/

namespace Sys2Proof.Machine

/-- The level of a link report is taken, in reset too (assumption 15). -/
def setCampusPin (p : PortNum) (good : Bool) (s : State) : State :=
  { s with pins := { s.pins with campusLink := setRow s.pins.campusLink p good } }

def setRackPin (p : PortNum) (good : Bool) (s : State) : State :=
  { s with pins := { s.pins with rackLink := setRow s.pins.rackLink p good } }

/-- A DOWN link whose physical layer reports good enters SETTLING with the port's settle value (R14). -/
def startSettling (p : PortNum) (s : State) : State :=
  s.updPort p fun x => { x with link := .settling, settleRemaining := x.settings.settle }

/-- LINK_GOOD (R14). -/
def execLinkGood (p : PortNum) (s : State) : Result :=
  if s.pins.resetLow then .next (setCampusPin p true s)
  else if (s.port p).link = .down then .next (startSettling p (setCampusPin p true s))
  else .refused .eventCannotOccur

/-- The link enters UP (R14). -/
def linkUp (p : PortNum) (s : State) : State :=
  raiseEvent .linkUp (.port p) 0 (s.updPort p fun x => { x with link := .up, settleRemaining := 0 })

/-- A fine pulse reaches a port's link settling (R14). -/
def settlePulse (s : State) (p : PortNum) : State :=
  if (s.port p).link = .settling then
    if (s.port p).settleRemaining ≤ 1 then linkUp p s
    else s.updPort p fun x => { x with settleRemaining := x.settleRemaining - 1 }
  else s

/-- LINK_SETTLED (R14): the fine pulse as it reaches this port, when it brings settle remaining to 0 (assumption 19). -/
def execLinkSettled (p : PortNum) (s : State) : Result :=
  unlessHeld s <|
    if (s.port p).link = .settling ∧ (s.port p).settleRemaining ≤ 1 then .next (linkUp p s) else .next s

/-- A frame in transmission on the C-side is cut off, as a link-down flush (R15). -/
def cutCampusTx (p : PortNum) (s : State) : State :=
  match (s.port p).campusTx with
  | some _ => bumpPort p .linkDownFlush 1 (s.updPort p fun x => { x with campusTx := none })
  | none => s

/-- The C-side link of a port that was SETTLING or UP is lost (R7, R14, R15, R16, R109, R118). The frame cut off, the flush of
the class queues and the heads that leave come in this order (assumption 28). -/
def loseLink (p : PortNum) (s : State) : State :=
  let wasUp := (s.port p).link = .up
  let s1 := s.updPort p fun x => { x with link := .down, campusPause := Vector.replicate 8 0 }
  let s2 := if wasUp then raiseEvent .linkDown (.port p) 0 s1 else s1
  discardHeads p (linkDownFlush p (cutCampusTx p s2))

/-- LINK_LOST (R14). -/
def execLinkLost (p : PortNum) (s : State) : Result :=
  if s.pins.resetLow then .next (setCampusPin p false s)
  else if (s.port p).link = .down then .refused .eventCannotOccur
  else .next (loseLink p (setCampusPin p false s))

/-- RACK_LINK_LOST (R115): a cut-off pause frame is owed again; a cut-off return frame is lost uncounted. -/
def execRackLinkLost (p : PortNum) (s : State) : Result :=
  if s.pins.resetLow then .next (setRackPin p false s)
  else if row s.pins.rackLink p = false then .refused .eventCannotOccur
  else
    let s1 := setRackPin p false s
    match (s.port p).rackTx with
    | some (.pause _) => .next (s1.updPort p fun x => { x with rackTx := none, pauseOwed := true })
    | some (.returned _) => .next (s1.updPort p fun x => { x with rackTx := none })
    | none => .next s1

/-- RACK_LINK_GOOD (R115): the transmitter may choose again, at RSIDE_TX_START. -/
def execRackLinkGood (p : PortNum) (s : State) : Result :=
  if s.pins.resetLow then .next (setRackPin p true s)
  else if row s.pins.rackLink p then .refused .eventCannotOccur
  else .next (setRackPin p true s)

end Sys2Proof.Machine
end

