-- ==== Sys2Proof/Machine/Frames.lean ====
section
/-! DEFINITION. Frames received: on the R-side the acceptance checks, rack pause, steering and hand-over (R8 to R13, R26 to
R33, R122); on the C-side campus pause, control capture and the return FIFO (R17, R22, R117 to R123). -/

namespace Sys2Proof.Machine

/-! ## Steering (R26 to R32) -/

/-- A value and mask pair matches: no bit that is 1 in the mask differs (R27). -/
def maskMatches {n : Nat} (value mask field : BitVec n) : Bool := (value ^^^ field) &&& mask == 0

/-- The tagging condition is met (R27). -/
def Tagging.allows (t : Tagging) (tagged : Bool) : Bool :=
  match t with
  | .tagged => tagged
  | .untagged => !tagged
  | .any => true

/-- An entry is a candidate for a frame on a port (R27). -/
def SteerEntry.candidate (e : SteerEntry) (p : PortNum) (f : Bytes) : Bool :=
  let tagged := frameTagged f
  e.valid && e.ports.getLsbD p.val && e.tagging.allows tagged
  && (if tagged then maskMatches e.vlanValue e.vlanMask (frameVlan f)
        && maskMatches e.prioValue e.prioMask (BitVec.ofNat 3 (framePrio f).val)
      else e.vlanMask == 0 && e.prioMask == 0)
  && maskMatches e.addressValue e.addressMask (frameDA f)
  && maskMatches e.typeValue e.typeMask (frameType f)

/-- The candidates of a frame, lowest index first (R27, R28). -/
def candidates (s : State) (p : PortNum) (f : Bytes) : List EntryIdx := allEntries.filter fun i => (s.entry i).candidate p f

/-- The class of a kept frame (R32). -/
def classOf (x : Port) (override : Option ClassNum) (f : Bytes) : ClassNum :=
  match override with
  | some k => k
  | none => if frameTagged f then row x.settings.classMap (framePrio f) else x.settings.untaggedClass

/-- A kept frame is handed to the egress buffer with its four items (R33). -/
def handOver (p : PortNum) (f : Bytes) (cls : ClassNum) (outcome : Disposition) (s : State) : State :=
  admitFrame p { frame := f, cells := cellsOf f, cls := cls, outcome := outcome } s

/-- The association checks of steering (R31). -/
def steerProtect (p : PortNum) (a : Anum) (f : Bytes) (cls : ClassNum) (s : State) : State :=
  let x := s.assoc a
  match x.state with
  | .idle => bumpPort p .assocStateDrops 1 s
  | .configured | .suspended | .faulted =>
    if x.port ≠ p then bumpPort p .misdirectedDrops 1 s
    else bumpAssoc a .stateDrops 1 (bumpPort p .assocStateDrops 1 s)
  | .running | .switching | .exhausted =>
    if x.port ≠ p then bumpPort p .misdirectedDrops 1 s else handOver p f cls (.protect a) s

/-- A hit of the deciding entry (R28). -/
def countHit (i : EntryIdx) (s : State) : State := s.updEntry i fun e => { e with hits := addCount e.hits 1 }

/-- The decision by an action (R30, R31); `dropCounter` is the counter a DROP moves. -/
def applyAction (p : PortNum) (f : Bytes) (action : Action) (cls : ClassNum) (dropCounter : PortCounter) (s : State) : State :=
  match action with
  | .drop => bumpPort p dropCounter 1 s
  | .pass => handOver p f cls .pass (bumpPort p .passFrames 1 s)
  | .protect a => steerProtect p a f cls s

/-- An overlap: two or more candidates (R29). -/
def noteOverlap (p : PortNum) (found : List EntryIdx) (s : State) : State :=
  match found with
  | i :: j :: _ =>
    raiseEvent .steerOverlap (.port p) (BitVec.ofNat 16 (i.val + 256 * j.val)) (bumpPort p .overlaps 1 s)
  | _ => s

/-- The steering decision (R26 to R32). -/
def steerFrame (p : PortNum) (f : Bytes) (s : State) : State :=
  let x := s.port p
  let found := candidates s p f
  match found with
  | i :: _ =>
    let e := s.entry i
    applyAction p f e.action (classOf x e.classOverride f) .steerDrops (noteOverlap p found (countHit i s))
  | [] => applyAction p f x.settings.defaultAction (classOf x none f) .noMatchDrops s

/-! ## Pause frames (R117, R122) -/

/-- The eight pause times after a MAC control frame, if its opcode is one of the two pauses (R117, R122). -/
def pauseTimes (f : Bytes) (times : Vector Nat 8) : Option (Vector Nat 8) :=
  if macOpcode f = 0x0001 then some (Vector.replicate 8 (plainPauseTime f))
  else if macOpcode f = 0x0101 then
    some (Vector.ofFn fun q => if prioPauseNames f q then prioPauseTime f q else row times q)
  else none

/-- A rack MAC control frame is applied to the rack pause times (R122). -/
def applyRackPause (p : PortNum) (f : Bytes) (s : State) : State :=
  match pauseTimes f (s.port p).rackPause with
  | some times => s.updPort p fun x => { x with rackPause := times }
  | none => s

/-- A campus MAC control frame is applied to the campus pause times and counted (R117). -/
def applyCampusPause (p : PortNum) (f : Bytes) (s : State) : State :=
  match pauseTimes f (s.port p).campusPause with
  | some times => bumpPort p .campusPauseReceived 1 (s.updPort p fun x => { x with campusPause := times })
  | none => s

/-! ## The R-side (R8, R9, R11, R12) -/

/-- The acceptance check that a frame fails first, as the counter it moves (R9). -/
def acceptanceDrop (x : Port) (f : Bytes) : Option PortCounter :=
  if x.mode = .off then some .portOffDrops
  else if f.length < 64 then some .runtDrops
  else if x.settings.frameCeiling < f.length then some .oversizeDrops
  else if fcsGood f = false then some .fcsDrops
  else none

/-- A whole frame received on the R-side, counted and then dealt with (R8, R9, R11, R12). -/
def receiveRack (p : PortNum) (f : Bytes) (s : State) : State :=
  let s1 := bumpPort p .octetsIn f.length (bumpPort p .framesIn 1 s)
  match acceptanceDrop (s.port p) f with
  | some c => bumpPort p c 1 s1
  | none =>
    if isMacControl f then applyRackPause p f s1
    else if s.inhibited = true ∧ (s.port p).settings.inhibitAction = .discard then bumpPort p .inhibitDrops 1 s1
    else steerFrame p f s1

/-- RSIDE_FRAME_RECEIVED (R8, R9). With the rack link lost no reception completes, and the frame is discarded uncounted
(R115). -/
def execRsideFrameReceived (p : PortNum) (f : Bytes) (s : State) : Result :=
  unlessHeld s <| if row s.pins.rackLink p then .next (receiveRack p f s) else .next s

/-! ## The C-side (R17, R22, R119 to R123) -/

/-- The longest frame the C-side receiver delivers with its frame check sequence judged (R119). -/
def campusLongest : Nat := 9248

/-- A frame has the layout of a control frame to the port (R22). -/
def isControl (x : Port) (f : Bytes) : Bool :=
  decide (f.length = 64) && frameDA f == x.settings.portAddress && be16At f 12 == x.settings.clpType
  && ctlVersion f == 1 && (ctlFlags f).getLsbD 7 && !(ctlFlags f).getLsbD 6

/-- The lowest free place of a reply inbox. -/
def freePlace (inbox : List Captured) : Fin 4 :=
  (([0, 1, 2, 3] : List (Fin 4)).find? fun i => !(inbox.any fun c => c.place == i)).getD 0

/-- A control frame is captured and checked at once, or dropped for want of a place (R123, R145). -/
def captureControl (p : PortNum) (f : Bytes) (s : State) : State :=
  if (s.port p).inbox.length < Config.inboxCapacity then
    let place := freePlace (s.port p).inbox
    let s1 := s.updPort p fun x => { x with inbox := x.inbox ++ [{ place := place, frame := f }] }
    checkCaptured p place f (bumpPort p .controlCaptured 1 s1)
  else raiseEvent .inboxDrop (.port p) 0 (bumpPort p .inboxDrops 1 s)

/-- A frame goes to the return FIFO, or is dropped for want of cells (R120). -/
def enqueueReturn (p : PortNum) (f : Bytes) (s : State) : State :=
  if cellsOf f ≤ (s.port p).returnFree then s.updPort p fun x => { x with returnFifo := x.returnFifo ++ [f] }
  else raiseEvent .returnDrop (.port p) 0 (bumpPort p .returnDrops 1 s)

/-- A frame received on the C-side of a port in PROTECT with the link UP (R119). -/
def receiveCampus (p : PortNum) (f : Bytes) (s : State) : State :=
  if fcsGood f = false ∨ f.length < 64 ∨ campusLongest < f.length then bumpPort p .returnFcsDrops 1 s
  else if isMacControl f then applyCampusPause p f s
  else if isControl (s.port p) f then arbitrate (captureControl p f s)
  else enqueueReturn p f s

/-- CSIDE_FRAME_RECEIVED (R4, R17, R119): only while the link is UP; in OFF the frame is a port-off drop. -/
def execCsideFrameReceived (p : PortNum) (f : Bytes) (s : State) : Result :=
  unlessHeld s <|
    if (s.port p).link ≠ .up then .next s
    else if (s.port p).mode = .off then .next (bumpPort p .portOffDrops 1 s)
    else .next (receiveCampus p f s)

end Sys2Proof.Machine
end

