-- ==== Sys2Proof/Machine/SelfTest.lean ====
section
/-! DEFINITION. The self-test (R184): what its failures do, SELFTEST_COMPLETE, and its end at the 32nd fine pulse. -/

namespace Sys2Proof.Machine

/-- The detail of SELFTEST_FAULT: low byte the unit, high byte its number (R176). -/
def selfTestDetail (unit number : Nat) : BitVec 16 := BitVec.ofNat 16 (unit + 256 * number)

/-- A failed lane becomes OUT_OF_SERVICE, joins the lanes failed, and SELFTEST_FAULT is raised (R101, R184). -/
def failLane (result : SelfTestResult) (s : State) (l : LaneNum) : State :=
  if row result.lanes l then
    raiseEvent .selftestFault .part (selfTestDetail 0 l.val)
      { s.setLane l .outOfService with
        hwFaults := { s.hwFaults with lanesFailed := setRow s.hwFaults.lanesFailed l true } }
  else s

/-- A failed key store sets the key store fault indication (R184). -/
def failKeyStore (result : SelfTestResult) (s : State) : State :=
  if result.keyStore then
    raiseEvent .selftestFault .part (selfTestDetail 1 0) { s with hwFaults := { s.hwFaults with keyStore := true } }
  else s

/-- A failed buffer adds its port to the ports with a buffer fault (R184). -/
def failBuffer (result : SelfTestResult) (s : State) (p : PortNum) : State :=
  if row result.buffers p then
    raiseEvent .selftestFault .part (selfTestDetail 2 p.val)
      { s with hwFaults := { s.hwFaults with buffers := setRow s.hwFaults.buffers p true } }
  else s

/-- The part state after the self-test (R184). -/
def stateAfterTest (result : SelfTestResult) : PartState :=
  if result.keyStore || allLanes.all fun l => row result.lanes l then .halted else .running

/-- The self-test completes (R184). -/
def completeSelfTest (result : SelfTestResult) (s : State) : State :=
  let s1 := failKeyStore result (allLanes.foldl (failLane result) s)
  { allPorts.foldl (failBuffer result) s1 with partState := stateAfterTest result }

/-- The 32nd fine pulse since the self-test began has been given, which the fine count shows because it started at 0 with the
self-test (R183, R184), and the self-test has not ended. -/
def selfTestDue (s : State) : Bool := s.partState == .testing && s.fineCount == Config.selfTestPulses

/-- SELFTEST_COMPLETE (R184): in TESTING, at the 32nd fine pulse since the reset, after the users of that pulse, DESIGN CHOICE
(assumption 9). -/
def execSelftestComplete (result : SelfTestResult) (s : State) : Result :=
  unlessHeld s <| if selfTestDue s then .next (completeSelfTest result s) else .refused .eventCannotOccur

/-- What the n-th self-test finds that ends without a command (assumption 9). -/
def openResult (n : Nat) : SelfTestResult :=
  { lanes := Vector.ofFn (Config.selfTestLane n), keyStore := Config.selfTestKeyStore n,
    buffers := Vector.ofFn (Config.selfTestBuffer n) }

/-- A self-test that is due does not outlast the moment of its pulse: it ends after the users of that pulse and before
time goes on, with an open result (R184, assumption 9). -/
def endDueSelfTest (s : State) : State :=
  if selfTestDue s then
    { completeSelfTest (openResult s.openSelfTests) s with openSelfTests := s.openSelfTests + 1 }
  else s

end Sys2Proof.Machine
end

