-- ==== Sys2Proof/Machine/Pulses.lean ====
section
/-! DEFINITION. Time: the lifetime divider and its users (R124 to R127), the scrubber (R80 to R82), attempt timers (R143,
R144), the gap limit (R164), and the quantum timer with the pause times (R106, R112, R118, R122).

FINE_PULSE and QUANTUM_TICK do everything the rules give one pulse. The commands that the table names for one user of a
pulse (LIFETIME_EXPIRY, ATTEMPT_TIMEOUT, GAP_EXPIRY, PAUSE_REFRESH_DUE, CAMPUS_PAUSE_END, RACK_PAUSE_END, and LINK_SETTLED)
hand the pulse to that user alone, when it is the one that ends its count; otherwise nothing is due (assumption 19). -/

namespace Sys2Proof.Machine

/-! ## The scrubber -/

/-- A slot that enters FAULTED: zeroised, with epoch, key size, check value and in-flight count kept (R64, R79). -/
def Slot.faulted (x : Slot) : Slot :=
  { x with state := .faulted, owner := none, key := List.replicate x.key.length 0, salt := 0, expandedKey := [],
           integrityCode := 0 }

/-- The detail of SCRUB_FAULT: the state the slot failed in (R176). -/
def scrubDetail : SlotState → BitVec 16
  | .ready => 0
  | .active => 1
  | .draining => 2
  | .empty => 0
  | .loaded => 0
  | .faulted => 0

/-- The states in which a slot is scrubbed (R80). -/
def SlotState.scrubbed : SlotState → Bool
  | .ready | .active | .draining => true
  | .empty | .loaded | .faulted => false

/-- The stored code agrees with the contents (R80). -/
def Slot.intact (x : Slot) : Bool := Config.integrityCode x.key x.salt x.expandedKey == x.integrityCode

/-- One more scrub failure in the hardware fault record, stopping at 255 (R81, R179). -/
def countScrubFault (s : State) : State :=
  { s with hwFaults := { s.hwFaults with scrubFaults := min (s.hwFaults.scrubFaults + 1) 255 } }

/-- The association whose slot has failed, by the slot's former role (R81). -/
def loseKey (was : Slot) (k : SlotNum) (s : State) : State :=
  match was.owner, was.state with
  | some a, .active => if (s.assoc a).current = some k then loseCurrent a s else s
  | some a, .ready => if (s.assoc a).next = some k then loseNext a s else s
  | _, _ => s

/-- A scrub failure (R81, R82). DESIGN CHOICE (assumption 28): the condemned entries leave port by port, lowest first, and what
R97 and R98 let leave after them, a marked DONE head of another slot that they uncover, with the KEY_RETIRED it may bring (R77),
goes before the owner loses the key, so before its SWITCH_ABORTED, ASSOC_FAULTED or KEY_WANTED. -/
def scrubFailure (k : SlotNum) (s : State) : State :=
  let was := s.slot k
  let s1 := raiseEvent .scrubFault (.slot k) (scrubDetail was.state) (s.updSlot k Slot.faulted)
  loseKey was k (condemnEntries k (countScrubFault s1))

/-- The scrubber takes the slot its pointer names, and the pointer advances (R80). -/
def scrub (s : State) : State :=
  let k := s.scrubPointer
  let x := s.slot k
  let s1 := if x.state.scrubbed && !x.intact then scrubFailure k s else s
  { s1 with scrubPointer := k + 1 }

/-- A byte of a list changed by a mask. -/
def flipByte (bs : Bytes) (i : Nat) (mask : BitVec 32) : Bytes := bs.modify i (· ^^^ mask.setWidth 8)

/-- The stored contents of a slot after a change (assumption 10). -/
def Slot.drifted (d : KeyDrift) (x : Slot) : Slot :=
  if x.state.scrubbed then
    match d.field with
    | .key i => { x with key := flipByte x.key i d.mask }
    | .salt => { x with salt := x.salt ^^^ d.mask }
    | .expandedKey i => { x with expandedKey := flipByte x.expandedKey i d.mask }
    | .integrityCode => { x with integrityCode := x.integrityCode ^^^ d.mask.toNat }
  else x

/-- The change of stored contents that a pulse command carries takes place. -/
def applyDrift (drift : Option KeyDrift) (s : State) : State :=
  match drift with
  | some d => s.updSlot d.slot (Slot.drifted d)
  | none => s

/-! ## Attempt timers and the gap limit -/

/-- A fine pulse reaches the timer of an association's attempt (R143, R144). -/
def attemptPulse (s : State) (a : Anum) : State :=
  match (s.assoc a).attempt with
  | some t =>
    if t.status = .issued then
      if t.pulses ≤ 1 then endAttempt a s
      else s.updAssoc a fun x => { x with attempt := some { t with pulses := t.pulses - 1 } }
    else s
  | none => s

/-- The record being received is abandoned as a FRAMING fault, with its tag if the tag byte was received (R164). The bytes
got are those that came with a good stop bit: a tag byte that itself carries the framing error counts as not received, a
DESIGN CHOICE where R164 is silent (assumption 31). -/
def abandonRecord (got : Bytes) (s : State) : State := recordFault .framing got[3]? { s with receiver := .hunt }

/-- A fine pulse reaches the receiver's gap limit (R164). -/
def gapPulse (s : State) : State :=
  match s.receiver with
  | .record got gap => if gap ≤ 1 then abandonRecord got s else { s with receiver := .record got (gap - 1) }
  | .hunt => s

/-! ## Lifetimes -/

/-- A pulse of the given scale reaches the lifetime of an association (R127). -/
def lifetimePulse (scale : LifetimeScale) (s : State) (a : Anum) : State :=
  let x := s.assoc a
  if x.lifetimeScale = scale ∧ x.state.inService = true ∧ 0 < x.lifetimeReload then
    let s1 := s.updAssoc a fun y => { y with lifetimeRemaining := y.lifetimeRemaining - 1 }
    if x.lifetimeRemaining ≤ 1 then handTrigger a .expiry s1 else s1
  else s

/-! ## The divider (R124) -/

/-- A fine pulse reaches every user, in the order of the table of R124 (assumption 11). -/
def pulseUsers (s : State) : State :=
  let s1 := allPorts.foldl settlePulse s
  let s2 := allAnums.foldl attemptPulse (scrub s1)
  allAnums.foldl (lifetimePulse .fine) (gapPulse s2)

/-- A fine pulse: the clock count wraps and the fine count advances; when that wraps, the pulse is also a coarse pulse
(R124). The self-test that this pulse brings to its end (R184) ends after it: the pulse's own users come first, so that a
LINK_UP or a gap-limit MGMT_FAULT of the 32nd pulse precedes SELFTEST_FAULT, DESIGN CHOICE (assumption 9). -/
def finePulse (s : State) : State :=
  let count := (s.fineCount + 1) % Config.finePerCoarse
  let s1 := pulseUsers { s with clockCount := 0, fineCount := count }
  if count = 0 then allAnums.foldl (lifetimePulse .coarse) s1 else s1

/-- The clock count rises, and wraps with a fine pulse (R124). -/
def countClock (s : State) : State :=
  if Config.clocksPerFine ≤ s.clockCount + 1 then finePulse s else { s with clockCount := s.clockCount + 1 }

/-- One cycle of the reference clock, which is what a step on an empty queue is (R124, assumption 16); a self-test that is
due ends before it (R184, assumption 9). -/
def clockTick (s : State) : State := if s.pins.resetLow then s else countClock (endDueSelfTest s)

/-- FINE_PULSE (R124); a self-test that is due ends before it (R184, assumption 9). -/
def execFinePulse (drift : Option KeyDrift) (s : State) : Result :=
  unlessHeld s <| .next (finePulse (applyDrift drift (endDueSelfTest s)))

/-- COARSE_PULSE (R124): the fine pulse at which the fine count passes from 1023 to 0; at any other count no coarse pulse is
due (assumption 20). -/
def execCoarsePulse (drift : Option KeyDrift) (s : State) : Result :=
  unlessHeld s <|
    if (s.fineCount + 1) % Config.finePerCoarse = 0 then .next (finePulse (applyDrift drift s)) else .next s

/-- LIFETIME_EXPIRY (R127): the pulse that brings lifetime remaining from 1 to 0, or finds it at 0 (a lapse), as it reaches
this association. -/
def execLifetimeExpiry (a : Anum) (s : State) : Result :=
  unlessHeld s <|
    if (s.assoc a).lifetimeRemaining ≤ 1 then .next (lifetimePulse (s.assoc a).lifetimeScale s a) else .next s

/-- ATTEMPT_TIMEOUT (R144): the fine pulse that brings the pulses of an ISSUED attempt to 0, as it reaches this attempt. -/
def execAttemptTimeout (a : Anum) (s : State) : Result :=
  unlessHeld s <|
    if (s.assoc a).attempt.any fun t => decide (t.pulses ≤ 1) then .next (attemptPulse s a) else .next s

/-- GAP_EXPIRY (R164): the fine pulse that brings gap remaining to 0, as it reaches the receiver. -/
def execGapExpiry (s : State) : Result :=
  unlessHeld s <| if s.gapRemaining ≤ 1 then .next (gapPulse s) else .next s

/-! ## The quantum timer -/

/-- The refresh count of a class reaches the refresh interval at the next quantum (R112). -/
def Port.refreshDue (x : Port) (k : ClassNum) : Bool := row x.holding k && row x.refresh k + 1 == x.refreshInterval

/-- A quantum reaches the refresh count of a class: it counts up to the interval (R112). -/
def Port.refreshAfter (x : Port) (k : ClassNum) : Nat :=
  if row x.holding k = true ∧ row x.refresh k < x.refreshInterval then row x.refresh k + 1 else row x.refresh k

/-- A quantum tick on one port (R112, R118, R122). -/
def Port.quantum (x : Port) : Port :=
  { x with
    pauseOwed := x.pauseOwed || classesDown.any fun k => x.refreshDue k && !(x.priosOf k).isEmpty
    refresh := Vector.ofFn x.refreshAfter
    campusPause := mapRows x.campusPause (· - 1)
    rackPause := mapRows x.rackPause (· - 1) }

/-- QUANTUM_TICK (R106). -/
def execQuantumTick (s : State) : Result := unlessHeld s <| .next { s with ports := mapRows s.ports Port.quantum }

/-- PAUSE_REFRESH_DUE (R112): the quantum that brings the class's refresh count to the interval, as it reaches that count. -/
def execPauseRefreshDue (p : PortNum) (k : ClassNum) (s : State) : Result :=
  unlessHeld s <|
    if (s.port p).refreshDue k then
      .next (s.updPort p fun x => { x with
        refresh := setRow x.refresh k x.refreshInterval
        pauseOwed := x.pauseOwed || !(x.priosOf k).isEmpty })
    else .next s

/-- CAMPUS_PAUSE_END (R118): the quantum that brings the campus pause time of a priority to 0, as it reaches that time. -/
def execCampusPauseEnd (p : PortNum) (q : Prio) (s : State) : Result :=
  unlessHeld s <|
    if row (s.port p).campusPause q = 1 then
      .next (s.updPort p fun x => { x with campusPause := setRow x.campusPause q 0 })
    else .next s

/-- RACK_PAUSE_END (R122): the quantum that brings the rack pause time of a priority to 0, as it reaches that time. -/
def execRackPauseEnd (p : PortNum) (q : Prio) (s : State) : Result :=
  unlessHeld s <|
    if row (s.port p).rackPause q = 1 then
      .next (s.updPort p fun x => { x with rackPause := setRow x.rackPause q 0 })
    else .next s

end Sys2Proof.Machine
end

