-- ==== Sys2Proof/Machine/Startup.lean ====
section
/-! DEFINITION. Start-up control: the resets (R183) and the inhibit input (R187, R188). -/

namespace Sys2Proof.Machine

/-! ## Resets -/

/-- A port whose C-side link is reported good as a reset ends enters SETTLING at once (R14). -/
def settleIfGood (s : State) (p : PortNum) : State := if row s.pins.campusLink p then startSettling p s else s

/-- The end of every reset: links reported good settle, and the inhibit state takes the level of INHIBIT_N, with INHIBIT_ON
raised if that is low (R14, R187). -/
def endReset (s : State) : State :=
  let s1 := allPorts.foldl settleIfGood s
  if s.pins.inhibitLow then raiseEvent .inhibitOn .part 0 { s1 with inhibit := .asserted }
  else { s1 with inhibit := .released }

/-- Power-on and pin reset: every piece of state takes its reset value, the straps are latched, and the part enters TESTING
(R183). The pins keep their levels, and the queue of commands and the model's count are not the part's. -/
def hardReset (pins : Pins) (straps : Straps) (s : State) : State :=
  endReset { State.reset with
    pending := s.pending, openSelfTests := s.openSelfTests, pins := pins, straps := straps }

/-- A steering entry after a soft reset: a locked one keeps all but its hit counter (R25). -/
def SteerEntry.softReset (e : SteerEntry) : SteerEntry := if e.locked then { e with hits := 0 } else SteerEntry.reset

/-- A lane after a soft reset: lanes out of service stay so (R102). -/
def Lane.softReset (l : Lane) : Lane := if l = .outOfService then .outOfService else .idle

/-- A soft reset keeps the straps, the hardware fault record, the lanes out of service, the part state, the divider's counts
and the locked steering entries (R183). -/
def softReset (s : State) : State :=
  endReset { State.reset with
    pending := s.pending
    openSelfTests := s.openSelfTests
    pins := s.pins
    straps := s.straps
    partState := s.partState
    clockCount := s.clockCount
    fineCount := s.fineCount
    hwFaults := s.hwFaults
    steering := mapRows s.steering SteerEntry.softReset
    lanes := mapRows s.lanes Lane.softReset }

/-- POWER_ON (R183): power-on ends, with the pins at the levels given. -/
def execPowerOn (pins : PowerOnPins) (s : State) : Result :=
  .next (hardReset
    { resetLow := false, inhibitLow := pins.inhibitLow, campusLink := pins.campusLink, rackLink := pins.rackLink }
    { rate := pins.rate, clear := pins.clear } s)

/-- A frame in transmission and a reply are cut off (R15, R113, R121, R167). -/
def Port.cutOff (x : Port) : Port := { x with campusTx := none, rackTx := none }

/-- PIN_RESET_ASSERT (R183): RESET_N goes low; what the part is sending is cut off, and it sends nothing. -/
def execPinResetAssert (s : State) : Result :=
  if s.pins.resetLow then .refused .eventCannotOccur
  else .next { s with
    pins := { s.pins with resetLow := true }
    ports := mapRows s.ports Port.cutOff
    replyOwed := none
    busyOwed := none }

/-- PIN_RESET_RELEASE (R183): RESET_N goes high, with the straps at the levels given. -/
def execPinResetRelease (rate : Fin 4) (clear : Bool) (s : State) : Result :=
  if s.pins.resetLow then .next (hardReset { s.pins with resetLow := false } { rate := rate, clear := clear } s)
  else .refused .eventCannotOccur

/-! ## The inhibit input -/

/-- The level of INHIBIT_N is taken. -/
def setInhibitPin (low : Bool) (s : State) : State := { s with pins := { s.pins with inhibitLow := low } }

/-- A DISCARD port in PROTECT flushes its class queues as inhibit drops (R105, R187). -/
def inhibitFlush (s : State) (p : PortNum) : State :=
  if (s.port p).mode = .protect ∧ (s.port p).settings.inhibitAction = .discard then flushQueues p .inhibitDrops s else s

/-- A DONE entry is marked for inhibit discard (R97). -/
def Entry.markDone (e : Entry) : Entry := if e.status = .done then { e with inhibitDiscard := true } else e

/-- Every DONE entry of a port is marked (R187). -/
def markEntries (s : State) (p : PortNum) : State :=
  s.updPort p fun x => { x with sequence := x.sequence.map Entry.markDone }

/-- INHIBIT becomes ASSERTED (R187): raised, DISCARD ports flushed, DONE entries marked, exchanges abandoned in ascending
ANUM order; marked heads leave at once (R97). R187 gives the marked heads that leave no place in its order: here they leave
after every exchange is abandoned, ports in ascending order, so that a KEY_RETIRED they raise enters the event list after
every SWITCH_ABORTED (DESIGN CHOICE, assumption 28). -/
def assertInhibit (s : State) : State :=
  let s1 := raiseEvent .inhibitOn .part 0 { s with inhibit := .asserted }
  let s2 := allPorts.foldl markEntries (allPorts.foldl inhibitFlush s1)
  let s3 := allAnums.foldl (abandonExchange .inhibit) s2
  allPorts.foldl (fun s p => discardHeads p s) s3

/-- INHIBIT_ASSERT (R187). -/
def execInhibitAssert (s : State) : Result :=
  if s.pins.resetLow then .next (setInhibitPin true s)
  else if s.inhibit = .asserted then .refused .eventCannotOccur
  else .next (assertInhibit (setInhibitPin true s))

/-- INHIBIT becomes RELEASED (R188): raised, switches held pending begin, ports under FLUSH whose link is not UP take the
link-down flush (R109), ports in ascending order; the heads that a port then discards leave after its flush (assumption
28). -/
def releaseInhibit (s : State) : State :=
  let s1 := raiseEvent .inhibitOff .part 0 { s with inhibit := .released }
  let s2 := allAnums.foldl beginIfPending s1
  allPorts.foldl (fun s p => discardHeads p (linkDownFlush p s)) s2

/-- INHIBIT_RELEASE (R188). -/
def execInhibitRelease (s : State) : Result :=
  if s.pins.resetLow then .next (setInhibitPin false s)
  else if s.inhibit = .released then .refused .eventCannotOccur
  else .next (releaseInhibit (setInhibitPin false s))

end Sys2Proof.Machine
end

