-- ==== Sys2Proof/Machine/Requests.lean ====
section
/-! DEFINITION. How a request is taken and answered (R165 to R168, R172): what every request shares. The requests' own
checks and effects stand in PortRequests, SteerRequests, AssocRequests, KeyRequests and ReportRequests. -/

namespace Sys2Proof.Machine

/-- A request as taken: its status, the reply fields that follow OK, and the state after its effects (R167, R168). -/
structure Served where
  status : Status
  fields : Bytes
  state : State

/-- A request refused with a status: no effect, and the reply carries the status alone (R167). -/
def refuse (status : Status) (s : State) : Served := { status := status, fields := [], state := s }

/-- A request taken and done (R170). -/
def done (fields : Bytes) (s : State) : Served := { status := .ok, fields := fields, state := s }

/-- The kind of a reply: the request's kind + 0x80 below 0x80, else 0xFF (R167). -/
def replyKind (kind : Byte) : Byte := if kind.toNat < 0x80 then kind + 0x80 else 0xFF

/-- A reply record (R167). -/
def makeReply (kind tag : Byte) (status : Status) (fields : Bytes) : Reply :=
  { kind := replyKind kind, tag := tag, body := status.code :: (if status = .ok then fields else []) }

/-- The bytes of a reply on the line, with its check (R162, R167). -/
def Reply.bytes (r : Reply) : Bytes :=
  let covered := toLE 2 (r.body.length + 2) ++ [r.kind, r.tag] ++ r.body
  [0xC3] ++ covered ++ toBE 2 (crc16 covered).toNat

/-- The BUSY reply, built when its transmission begins (R167). -/
def BusyMark.reply (m : BusyMark) : Reply := makeReply m.kind m.tag .busy []

/-- The record the part is sending on the management line (R166). -/
def State.sending (s : State) : Option Reply :=
  match s.replyOwed, s.busyOwed with
  | some r, _ => some r
  | none, some m => some m.reply
  | none, none => none

/-- A reply becomes owed (R165). -/
def oweReply (kind tag : Byte) (r : Served) : State :=
  { r.state with replyOwed := some (makeReply kind tag r.status r.fields) }

/-- A complete record reaches the part: the request count rises, the receiver hunts, and what the part owes decides whether
the record is dealt with, marked BUSY, or lost as OVERRUN (R163, R165, R166, R172). The request inbox holds the record only
while it is dealt with (R165). -/
def recordArrives (kind tag : Byte) (deal : State → Served) (s : State) : State :=
  let s1 := { s with requestCount := s.requestCount + 1, receiver := .hunt }
  match s.lineState with
  | .idle => oweReply kind tag (deal s1)
  | .serving => { s1 with busyOwed := some { kind := kind, tag := tag } }
  | .servingBusy | .sendingBusy => recordFault .overrun (some tag) s1

/-- The part states in which a kind is taken: all in RUNNING, three in HALTED, none in TESTING (R168, R185). -/
def RequestKind.takenIn (kind : RequestKind) : PartState → Bool
  | .testing => false
  | .running => true
  | .halted => kind == .identify || kind == .faultsRead || kind == .reset

/-- Steps 2 to 4 of R168 for a request of a known kind with a body of the given length. -/
def takeRequest (kind : RequestKind) (bodyLength : Nat) (serve : State → Served) (s : State) : Served :=
  if kind.takenIn s.partState = false then refuse .notReady s
  else if bodyLength < kind.bodyRange.1 ∨ kind.bodyRange.2 < bodyLength then refuse .badLength s
  else serve s

/-- A request command: a complete record of the kind, whose check is good, arrives (assumption 5). While RESET_N is low its
bytes are discarded (R183). -/
def requestArrives (kind : RequestKind) (tag : Byte) (bodyLength : Nat) (serve : State → Served) (s : State) : Result :=
  unlessHeld s <| .next (recordArrives kind.code tag (takeRequest kind bodyLength serve) s)

end Sys2Proof.Machine
end

