-- ==== Sys2Proof/Machine/PortRequests.lean ====
section
/-! DEFINITION. The requests on ports: PORT_SET (R2), PORT_MODE (R5, R6), PORT_GET (R3), PORT_FLOW (R107), PORT_SWITCH
(R138). -/

namespace Sys2Proof.Machine

/-! ## PORT_SET -/

/-- An individual address: the least significant bit of its first byte is 0 (R2 check 3). -/
def individual (address : BitVec 48) : Bool := !address.getLsbD 40

/-- A CLP type code that R1 permits (R2 check 4). -/
def clpTypeOk (t : BitVec 16) : Bool := decide (0x0600 ≤ t.toNat) && t != 0x8100 && t != 0x8808

/-- Eight class map entries, each 0..3 (R2 check 5). -/
def classesOf (v : Vector Byte 8) : Option (Vector ClassNum 8) :=
  if v.toList.all fun b => decide (b.toNat < 4) then some (Vector.ofFn fun i => Fin.ofNat 4 (row v i).toNat) else none

/-- The frame ceiling is clamped, not refused (R2). -/
def clampCeiling (n : Nat) : Nat := max 64 (min n 9216)

/-- A default action that R2 check 7 accepts. -/
def defaultActionOk (s : State) (p : PortNum) : Action → Bool
  | .drop => true
  | .pass => s.straps.clear
  | .protect a => (s.assoc a).state == .idle || (s.assoc a).port == p

/-- The settings a PORT_SET body gives, if it passes checks 3 to 7 of R2. -/
def settingsOf (s : State) (p : PortNum) (b : PortSetBody) : Option PortSettings := do
  guard (individual b.portAddress && individual b.peerAddress && clpTypeOk b.clpType)
  let classMap ← classesOf b.classes
  let untaggedClass ← inRange 4 b.untaggedClass
  guard (b.settle != 0)
  let linkDownPolicy ← LinkDownPolicy.ofCode b.linkDownPolicy
  let inhibitAction ← InhibitAction.ofCode b.inhibitAction
  let defaultAction ← (Action.ofCode b.action b.actionAnum).filter (defaultActionOk s p)
  pure { portAddress := b.portAddress, peerAddress := b.peerAddress, frameCeiling := clampCeiling b.frameCeiling.toNat,
         clpType := b.clpType, classMap := classMap, untaggedClass := untaggedClass, defaultAction := defaultAction,
         settle := b.settle.toNat, linkDownPolicy := linkDownPolicy, inhibitAction := inhibitAction }

/-- PORT_SET in RUNNING (R2). -/
def servePortSet (b : PortSetBody) (s : State) : Served :=
  match inRange 4 b.port with
  | none => refuse .badValue s
  | some p =>
    if (s.port p).mode ≠ .off then refuse .portActive s
    else match settingsOf s p b with
      | none => refuse .badValue s
      | some settings =>
        done (toLE 2 settings.frameCeiling) (s.updPort p fun x => { x with settings := settings })

/-- PORT_SET (R2). -/
def execPortSet (tag : Byte) (b : PortSetBody) (s : State) : Result :=
  requestArrives .portSet tag (writePortSet b).length (servePortSet b) s

/-! ## PORT_MODE -/

/-- The associations of a port abandon their exchanges, in ascending ANUM order (R6 step 3). -/
def abandonPort (p : PortNum) (s : State) : State :=
  allAnums.foldl (fun s a => if (s.assoc a).port = p then abandonExchange .portOff s a else s) s

/-- A port leaves PROTECT (R6), and the heads that R7 does not send leave at once, after the steps of R6 (assumption 28). -/
def portOff (p : PortNum) (s : State) : State :=
  let s1 := s.updPort p fun x => { x with mode := .off }
  let s2 := abandonPort p (flushQueues p .portOffDrops s1)
  discardHeads p (removeEntries p (fun e => e.status == .waitingLane) .portOffDrops s2)

/-- A port enters PROTECT (R5): the link-down flush may come into force (R109), heads that are then not to be sent leave, and
after them switches held pending on the port begin (R132; this order is assumption 28). -/
def portProtect (p : PortNum) (s : State) : State :=
  let s1 := s.updPort p fun x => { x with mode := .protect }
  let s2 := discardHeads p (linkDownFlush p s1)
  allAnums.foldl (fun s a => if (s.assoc a).port = p then beginIfPending s a else s) s2

/-- PORT_MODE in RUNNING (R5). -/
def servePortMode (port mode : Byte) (s : State) : Served :=
  match inRange 4 port, PortMode.ofCode mode with
  | some p, some m =>
    if (s.port p).mode = m then done [m.code] s
    else match m with
      | .off => done [m.code] (portOff p s)
      | .protect => if row s.hwFaults.buffers p then refuse .faulted s else done [m.code] (portProtect p s)
  | _, _ => refuse .badValue s

/-- PORT_MODE (R5). -/
def execPortMode (tag port mode : Byte) (s : State) : Result :=
  requestArrives .portMode tag 2 (servePortMode port mode) s

/-! ## PORT_GET -/

/-- The PORT_SET fields after the port number (R171). -/
def settingsBytes (x : PortSettings) : Bytes :=
  toBE 6 x.portAddress.toNat ++ toBE 6 x.peerAddress.toNat ++ toLE 2 x.frameCeiling ++ toLE 2 x.clpType.toNat
    ++ allPrios.map (fun q => BitVec.ofNat 8 (row x.classMap q).val) ++ [BitVec.ofNat 8 x.untaggedClass.val]
    ++ x.defaultAction.bytes ++ [BitVec.ofNat 8 x.settle, x.linkDownPolicy.code, x.inhibitAction.code]

/-- PORT_GET in RUNNING (R3). -/
def servePortGet (port : Byte) (s : State) : Served :=
  match inRange 4 port with
  | none => refuse .badValue s
  | some p =>
    let x := s.port p
    done (settingsBytes x.settings ++ [x.mode.code, x.link.code, yesNo (row s.hwFaults.buffers p)]) s

/-- PORT_GET (R3). -/
def execPortGet (tag port : Byte) (s : State) : Result := requestArrives .portGet tag 1 (servePortGet port) s

/-! ## PORT_FLOW -/

/-- One class's ceiling and thresholds (R107 check 4). -/
def thresholdsOk (b : PortFlowBody) (k : ClassNum) : Bool :=
  decide (0 < (row b.lower k).toNat ∧ (row b.lower k).toNat < (row b.upper k).toNat
    ∧ (row b.upper k).toNat ≤ (row b.ceiling k).toNat ∧ (row b.ceiling k).toNat ≤ Config.bufferCells)

/-- The flow settings a PORT_FLOW body gives, if it passes checks 3 to 5 of R107; a Q of 0 becomes 1. -/
def flowOf (b : PortFlowBody) : Option FlowSettings := do
  let pauseEnable ← pauseEnableOfCode b.pauseEnable
  guard (classesDown.all (thresholdsOk b))
  guard (decide ((classesDown.map fun k => (row b.ceiling k).toNat).sum ≤ Config.bufferCells))
  pure { pauseEnable := pauseEnable, ceiling := Vector.ofFn fun k => (row b.ceiling k).toNat,
         upper := Vector.ofFn fun k => (row b.upper k).toNat, lower := Vector.ofFn fun k => (row b.lower k).toNat,
         quanta := max 1 b.quanta.toNat }

/-- Four cell counts, two bytes each. -/
def cellBytes (v : Vector Nat 4) : Bytes := ([0, 1, 2, 3] : List ClassNum).flatMap fun k => toLE 2 (row v k)

/-- The flow settings as reported (R171). -/
def flowBytes (f : FlowSettings) : Bytes :=
  [pauseEnableCode f.pauseEnable] ++ cellBytes f.ceiling ++ cellBytes f.upper ++ cellBytes f.lower ++ toLE 2 f.quanta

/-- PORT_FLOW in RUNNING (R107). -/
def servePortFlow (b : PortFlowBody) (s : State) : Served :=
  match inRange 4 b.port with
  | none => refuse .badValue s
  | some p =>
    if (s.port p).mode ≠ .off then refuse .portActive s
    else match flowOf b with
      | none => refuse .badValue s
      | some flow => done (flowBytes flow) (s.updPort p fun x => { x with flow := flow })

/-- PORT_FLOW (R107). -/
def execPortFlow (tag : Byte) (b : PortFlowBody) (s : State) : Result :=
  requestArrives .portFlow tag (writePortFlow b).length (servePortFlow b) s

/-! ## PORT_SWITCH -/

/-- A retry step above 7 becomes 7 (R138 step 3). -/
def clampStep (b : Byte) : Nat := min b.toNat 7

/-- PORT_SWITCH in RUNNING (R138). -/
def servePortSwitch (port first last : Byte) (s : State) : Served :=
  match inRange 4 port with
  | none => refuse .badValue s
  | some p =>
    if (s.port p).mode ≠ .off then refuse .portActive s
    else if clampStep last < clampStep first then refuse .badValue s
    else done [BitVec.ofNat 8 (clampStep first), BitVec.ofNat 8 (clampStep last)]
      (s.updPort p fun x => { x with firstStep := clampStep first, lastStep := clampStep last })

/-- PORT_SWITCH (R138). -/
def execPortSwitch (tag port first last : Byte) (s : State) : Result :=
  requestArrives .portSwitch tag 3 (servePortSwitch port first last) s

end Sys2Proof.Machine
end

