-- ==== Sys2Proof/Machine/SteerRequests.lean ====
section
/-! DEFINITION. The steering requests: STEER_SET (R34), STEER_GET (R35), STEER_LOCK (R36), STEER_CLEAR (R37). -/

namespace Sys2Proof.Machine

/-- A class override byte: 0xFF for absent, or a class (R34 check 6, R169). -/
def overrideOf (b : Byte) : Option (Option ClassNum) := if b = 0xFF then some none else (inRange 4 b).map some

/-- An action that STEER_SET accepts: PASS only while the clear strap is on (R34 check 5). -/
def steerActionOk (s : State) : Action → Bool
  | .pass => s.straps.clear
  | .drop => true
  | .protect _ => true

/-- A value and mask pair of a STEER_SET body passes check 3 of R34: each is at most the top, whatever the mask. R171 gives the
value of a field whose mask is zero as an example of a field that is not examined; where it meets this check, the model follows
the check of R34 (DESIGN CHOICE, assumption 30). -/
def pairOk (value mask top : Nat) : Bool := decide (value ≤ top) && decide (mask ≤ top)

/-- The entry a STEER_SET body gives, if it passes checks 3 to 6 of R34: valid, unlocked, hit counter 0, every value and mask
as written (R24). -/
def steerEntryOf (s : State) (b : SteerSetBody) : Option SteerEntry := do
  let tagging ← Tagging.ofCode b.tagging
  guard (decide (b.ports.toNat < 16) && pairOk b.vlanValue.toNat b.vlanMask.toNat 0xFFF
    && pairOk b.prioValue.toNat b.prioMask.toNat 7)
  guard (tagging != .untagged || (b.vlanMask == 0 && b.prioMask == 0))
  let action ← (Action.ofCode b.action b.actionAnum).filter (steerActionOk s)
  let classOverride ← overrideOf b.classOverride
  pure { valid := true, locked := false, ports := b.ports.setWidth 4, tagging := tagging,
         vlanValue := b.vlanValue.setWidth 12, vlanMask := b.vlanMask.setWidth 12, prioValue := b.prioValue.setWidth 3,
         prioMask := b.prioMask.setWidth 3, addressValue := b.addressValue, addressMask := b.addressMask,
         typeValue := b.typeValue, typeMask := b.typeMask, action := action, classOverride := classOverride, hits := 0 }

/-- STEER_SET in RUNNING (R34). -/
def serveSteerSet (b : SteerSetBody) (s : State) : Served :=
  match inRange 128 b.index with
  | none => refuse .badValue s
  | some i =>
    if (s.entry i).locked then refuse .locked s
    else match steerEntryOf s b with
      | none => refuse .badValue s
      | some e => done [] (s.updEntry i fun _ => e)

/-- STEER_SET (R34). -/
def execSteerSet (tag : Byte) (b : SteerSetBody) (s : State) : Result :=
  requestArrives .steerSet tag (writeSteerSet b).length (serveSteerSet b) s

/-- An entry as STEER_GET reports it (R35, R171). -/
def steerBytes (e : SteerEntry) : Bytes :=
  [yesNo e.valid, yesNo e.locked, e.ports.setWidth 8, e.tagging.code] ++ toLE 2 e.vlanValue.toNat ++ toLE 2 e.vlanMask.toNat
    ++ [e.prioValue.setWidth 8, e.prioMask.setWidth 8] ++ toBE 6 e.addressValue.toNat ++ toBE 6 e.addressMask.toNat
    ++ toLE 2 e.typeValue.toNat ++ toLE 2 e.typeMask.toNat ++ e.action.bytes ++ [optionByte e.classOverride]
    ++ toLE 6 e.hits

/-- STEER_GET in RUNNING (R35). -/
def serveSteerGet (index : Byte) (s : State) : Served :=
  match inRange 128 index with
  | none => refuse .badValue s
  | some i => done (steerBytes (s.entry i)) s

/-- STEER_GET (R35). -/
def execSteerGet (tag index : Byte) (s : State) : Result := requestArrives .steerGet tag 1 (serveSteerGet index) s

/-- STEER_LOCK in RUNNING (R36). -/
def serveSteerLock (index : Byte) (s : State) : Served :=
  match inRange 128 index with
  | none => refuse .badValue s
  | some i =>
    if (s.entry i).valid = false then refuse .state s
    else done [] (s.updEntry i fun e => { e with locked := true })

/-- STEER_LOCK (R36). -/
def execSteerLock (tag index : Byte) (s : State) : Result := requestArrives .steerLock tag 1 (serveSteerLock index) s

/-- STEER_CLEAR in RUNNING (R37). -/
def serveSteerClear (index : Byte) (s : State) : Served :=
  match inRange 128 index with
  | none => refuse .badValue s
  | some i => if (s.entry i).locked then refuse .locked s else done [] (s.updEntry i fun _ => SteerEntry.reset)

/-- STEER_CLEAR (R37). -/
def execSteerClear (tag index : Byte) (s : State) : Result := requestArrives .steerClear tag 1 (serveSteerClear index) s

end Sys2Proof.Machine
end

