-- ==== Sys2Proof/Machine/AssocRequests.lean ====
section
/-! DEFINITION. The requests on associations: ASSOC_SET (R44, R45), ASSOC_START (R46), ASSOC_SUSPEND (R47), ASSOC_RESUME
(R48), ASSOC_CLEAR (R49), ASSOC_GET (R50), TEST_CORRUPT (R100), SWITCH_NOW (R159). -/

namespace Sys2Proof.Machine

/-! ## ASSOC_SET -/

/-- Check 4 of R44: 1 ≤ switch mark < stop mark ≤ PN_MAX − 256. -/
def marksOk (switchMark stopMark : Nat) : Bool :=
  decide (1 ≤ switchMark ∧ switchMark < stopMark ∧ stopMark ≤ Config.stopMarkMax)

/-- Both flags of TEST_CORRUPT are cleared by an ASSOC_SET taken in IDLE, and left as they were in CONFIGURED (R45). -/
def Assoc.keptFlag (x : Assoc) (flag : Bool) : Bool := x.state != .idle && flag

/-- The record that an ASSOC_SET body gives, if it passes checks 3 and 4 of R44 (R45). -/
def configuredOf (b : AssocSetBody) (x : Assoc) : Option Assoc := do
  let port ← inRange 4 b.port
  let protection ← Protection.ofCode b.protection
  let vlan ← VlanHandling.ofCode b.vlan
  let triggerPolicy ← TriggerPolicy.ofCode b.triggerPolicy
  let confirmPolicy ← ConfirmPolicy.ofCode b.confirmPolicy
  let lifetimeScale ← LifetimeScale.ofCode b.lifetimeScale
  guard (marksOk b.switchMark.toNat b.stopMark.toNat)
  pure { x with
    state := .configured, port := port, protection := protection, vlan := vlan, label := b.label,
    firstEpoch := b.firstEpoch, currentEpoch := b.firstEpoch, nextPn := 1, switchMark := b.switchMark.toNat,
    stopMark := b.stopMark.toNat, triggerPolicy := triggerPolicy, confirmPolicy := confirmPolicy,
    lifetimeReload := b.lifetimeReload.toNat, lifetimeScale := lifetimeScale, lifetimeRemaining := 0,
    switchPending := false, switchDue := false, pendingKind := none,
    corruptOne := x.keptFlag x.corruptOne, corruptAll := x.keptFlag x.corruptAll,
    floorCurrent := 0, floorNext := 0 }

/-- Check 5 of R44: a next slot already held carries the first epoch. -/
def nextEpochOk (s : State) (a : Anum) (firstEpoch : Byte) : Bool :=
  match (s.assoc a).next with
  | some k => (s.slot k).epoch == firstEpoch
  | none => true

/-- ASSOC_SET in RUNNING (R44, R45). -/
def serveAssocSet (b : AssocSetBody) (s : State) : Served :=
  match inRange 64 b.anum with
  | none => refuse .badValue s
  | some a =>
    if (s.assoc a).state ≠ .idle ∧ (s.assoc a).state ≠ .configured then refuse .state s
    else match configuredOf b (s.assoc a) with
      | none => refuse .badValue s
      | some x => if nextEpochOk s a b.firstEpoch then done [] (s.updAssoc a fun _ => x) else refuse .nextPresent s

/-- ASSOC_SET (R44). -/
def execAssocSet (tag : Byte) (b : AssocSetBody) (s : State) : Result :=
  requestArrives .assocSet tag (writeAssocSet b).length (serveAssocSet b) s

/-! ## ASSOC_START, ASSOC_SUSPEND, ASSOC_RESUME -/

/-- The record of an association that starts under a slot of the given epoch (R46). -/
def Assoc.started (k : SlotNum) (epoch : Byte) (x : Assoc) : Assoc :=
  { x.clearFlags with
    state := .running, current := some k, next := none, currentEpoch := epoch, nextPn := 1,
    lifetimeRemaining := x.lifetimeReload, floorCurrent := 0, floorNext := 0 }

/-- ASSOC_START in RUNNING (R46). -/
def serveAssocStart (anum : Byte) (s : State) : Served :=
  match inRange 64 anum with
  | none => refuse .badValue s
  | some a =>
    if (s.assoc a).state ≠ .configured then refuse .state s
    else match (s.assoc a).next with
      | none => refuse .noKey s
      | some k =>
        if (s.slot k).state ≠ .ready then refuse .noKey s
        else
          let epoch := (s.slot k).epoch
          done [epoch] ((s.updSlot k fun x => { x with state := .active }).updAssoc a (Assoc.started k epoch))

/-- ASSOC_START (R46). -/
def execAssocStart (tag anum : Byte) (s : State) : Result := requestArrives .assocStart tag 1 (serveAssocStart anum) s

/-- ASSOC_SUSPEND in RUNNING (R47). -/
def serveAssocSuspend (anum : Byte) (s : State) : Served :=
  match inRange 64 anum with
  | none => refuse .badValue s
  | some a =>
    if (s.assoc a).state = .running then done [] (s.updAssoc a fun x => { x with state := .suspended })
    else refuse .state s

/-- ASSOC_SUSPEND (R47). -/
def execAssocSuspend (tag anum : Byte) (s : State) : Result :=
  requestArrives .assocSuspend tag 1 (serveAssocSuspend anum) s

/-- ASSOC_RESUME in RUNNING: a switch held pending begins if it can (R48, R132). -/
def serveAssocResume (anum : Byte) (s : State) : Served :=
  match inRange 64 anum with
  | none => refuse .badValue s
  | some a =>
    if (s.assoc a).state = .suspended then
      done [] (beginIfPending (s.updAssoc a fun x => { x with state := .running }) a)
    else refuse .state s

/-- ASSOC_RESUME (R48). -/
def execAssocResume (tag anum : Byte) (s : State) : Result := requestArrives .assocResume tag 1 (serveAssocResume anum) s

/-! ## ASSOC_CLEAR -/

/-- Every field except the counters takes its reset value (R41, R49 item 4). -/
def Assoc.cleared (x : Assoc) : Assoc := { Assoc.reset with counters := x.counters }

/-- The four items of R49, and the withdrawal of the association's verifications (R90). -/
def clearAssoc (a : Anum) (s : State) : State :=
  let s1 := abandonExchange .clear s a
  let s2 := match (s.assoc a).current with
    | some j => leaveService j s1
    | none => s1
  let s3 := match (s.assoc a).next with
    | some k => emptySlot k s2
    | none => s2
  withdrawVerifies a (s3.updAssoc a Assoc.cleared)

/-- ASSOC_CLEAR in RUNNING (R49). -/
def serveAssocClear (anum : Byte) (s : State) : Served :=
  match inRange 64 anum with
  | none => refuse .badValue s
  | some a => if (s.assoc a).state = .idle then done [] s else done [] (clearAssoc a s)

/-- ASSOC_CLEAR (R49). -/
def execAssocClear (tag anum : Byte) (s : State) : Result := requestArrives .assocClear tag 1 (serveAssocClear anum) s

/-! ## ASSOC_GET -/

/-- The attempt record as reported: present, number, step, fine pulses remaining, notice status (R171). -/
def attemptBytes : Option Attempt → Bytes
  | some t => [1, BitVec.ofNat 8 t.number, BitVec.ofNat 8 t.step, BitVec.ofNat 8 t.pulses, t.status.code]
  | none => [0, 0, 0, 0, 0]

/-- The pending trigger kind as reported, 0xFF when absent (R171). -/
def pendingKindByte : Option TriggerKind → Byte
  | some kind => kind.code
  | none => 0xFF

/-- next_pn in five bytes, 2^40 as zero, and the spent indication (R50). -/
def nextPnBytes (n : Nat) : Bytes := toLE 5 n ++ [yesNo (decide (Config.pnMax < n))]

/-- The 55 bytes of ASSOC_GET's reply (R50, R171). -/
def assocBytes (x : Assoc) : Bytes :=
  [x.state.code, BitVec.ofNat 8 x.port.val, x.protection.code, x.vlan.code] ++ toBE 4 x.label.toNat
    ++ [x.firstEpoch, x.currentEpoch, optionByte x.current, optionByte x.next] ++ nextPnBytes x.nextPn
    ++ toLE 5 x.switchMark ++ toLE 5 x.stopMark ++ [x.triggerPolicy.code, x.confirmPolicy.code]
    ++ toLE 2 x.lifetimeReload ++ [x.lifetimeScale.code] ++ toLE 2 x.lifetimeRemaining
    ++ [yesNo x.switchPending, yesNo x.switchDue, pendingKindByte x.pendingKind, yesNo x.corruptOne, yesNo x.corruptAll]
    ++ toLE 5 x.floorCurrent ++ toLE 5 x.floorNext ++ attemptBytes x.attempt

/-- ASSOC_GET in RUNNING (R50). -/
def serveAssocGet (anum : Byte) (s : State) : Served :=
  match inRange 64 anum with
  | none => refuse .badValue s
  | some a => done (assocBytes (s.assoc a)) s

/-- ASSOC_GET (R50). -/
def execAssocGet (tag anum : Byte) (s : State) : Result := requestArrives .assocGet tag 1 (serveAssocGet anum) s

/-! ## TEST_CORRUPT -/

/-- The record after a TEST_CORRUPT action ONE 0, ALL 1 or NONE 2 (R100). -/
def corruptAction (action : Byte) (x : Assoc) : Option Assoc :=
  match action.toNat with
  | 0 => some { x with corruptOne := true }
  | 1 => some { x with corruptAll := true }
  | 2 => some { x with corruptOne := false, corruptAll := false }
  | _ => none

/-- TEST_CORRUPT in RUNNING (R100). -/
def serveTestCorrupt (anum action : Byte) (s : State) : Served :=
  match inRange 64 anum with
  | none => refuse .badValue s
  | some a =>
    match corruptAction action (s.assoc a) with
    | none => refuse .badValue s
    | some x =>
      if (s.assoc a).state = .idle then refuse .state s
      else done [yesNo x.corruptOne, yesNo x.corruptAll] (s.updAssoc a fun _ => x)

/-- TEST_CORRUPT (R100). -/
def execTestCorrupt (tag anum action : Byte) (s : State) : Result :=
  requestArrives .testCorrupt tag 2 (serveTestCorrupt anum action) s

/-! ## SWITCH_NOW -/

/-- The reply fields of SWITCH_NOW: confirm policy, then attempt number and step, or new epoch and zero (R159, R171). -/
def switchNowBytes (x : Assoc) : Bytes :=
  match x.confirmPolicy, x.attempt with
  | .confirmed, some t => [ConfirmPolicy.confirmed.code, BitVec.ofNat 8 t.number, BitVec.ofNat 8 t.step]
  | .confirmed, none => [ConfirmPolicy.confirmed.code, 0, 0]
  | .unilateral, _ => [ConfirmPolicy.unilateral.code, x.currentEpoch, 0]

/-- The port of the association is OFF or INHIBIT_N is asserted (R159 step 6). -/
def switchBlocked (s : State) (a : Anum) : Bool := (s.port (s.assoc a).port).mode == .off || s.inhibited

/-- SWITCH_NOW in RUNNING (R159). -/
def serveSwitchNow (anum : Byte) (s : State) : Served :=
  match inRange 64 anum with
  | none => refuse .badValue s
  | some a =>
    let x := s.assoc a
    if x.state ≠ .running ∧ x.state ≠ .exhausted then refuse .state s
    else if x.attempt ≠ none then refuse .state s
    else if s.nextReady a = false then refuse .noKey s
    else if x.confirmPolicy = .confirmed ∧ switchBlocked s a = true then refuse .state s
    else
      let s1 := beginSwitch a s
      done (switchNowBytes (s1.assoc a)) s1

/-- SWITCH_NOW (R159). -/
def execSwitchNow (tag anum : Byte) (s : State) : Result := requestArrives .switchNow tag 1 (serveSwitchNow anum) s

end Sys2Proof.Machine
end

