-- ==== Sys2Proof/Machine/KeyRequests.lean ====
section
/-! DEFINITION. The requests on the key store: TRANSPORT_KEY (R68), KEY_LOAD (R69 to R71), KEY_ERASE (R74), SLOT_GET
(R75). -/

namespace Sys2Proof.Machine

/-! ## TRANSPORT_KEY -/

/-- The size of a key of a given length in bytes (R68, R70). -/
def keySizeOf (length : Nat) : KeySize := if length = 32 then .bits256 else .bits128

/-- TRANSPORT_KEY in RUNNING (R68). -/
def serveTransportKey (key : Bytes) (s : State) : Served :=
  if s.transportKey ≠ none then refuse .locked s
  else if key.length ≠ 16 ∧ key.length ≠ 32 then refuse .badLength s
  else done ([(keySizeOf key.length).code] ++ toBE 3 (checkValueOf key).toNat) { s with transportKey := some key }

/-- TRANSPORT_KEY (R68). -/
def execTransportKey (tag : Byte) (key : Bytes) (s : State) : Result :=
  requestArrives .transportKey tag key.length (serveTransportKey key) s

/-! ## KEY_LOAD -/

/-- 0xA6 repeated eight times (R69). -/
def wrapConstant : BitVec 64 := 0xA6A6A6A6A6A6A6A6

/-- The plaintext that a blob unwraps to, 8 bytes shorter than the blob (R69). -/
def unwrapText (transport blob : Bytes) : Bytes :=
  (List.range (blob.length - 8)).map fun i => Config.unwrapByte transport blob i

/-- What a plaintext holds: key, salt, and the four-byte binding (R69). -/
structure Unwrapped where
  key : Bytes
  salt : BitVec 32
  binding : Bytes
  deriving DecidableEq, Repr

/-- The layout of a plaintext (R69): the key, then 4 bytes of salt and 4 of binding. -/
def splitText (text : Bytes) : Unwrapped :=
  let n := text.length - 8
  { key := text.take n, salt := BitVec.ofNat 32 (beAt text n 4), binding := text.drop (n + 4) }

/-- Check 9 of R69: the integrity block is the fixed value, and the binding carries ANUM, epoch and two zero bytes. -/
def unwrapKey (transport blob : Bytes) (anum epoch : Byte) : Option Unwrapped :=
  let u := splitText (unwrapText transport blob)
  if Config.unwrapIntegrity transport blob = wrapConstant ∧ u.binding = [anum, epoch, 0, 0] then some u else none

/-- The slot as a KEY_LOAD leaves it (R70 items 1 and 2). -/
def Slot.loadedWith (a : Anum) (epoch : Byte) (u : Unwrapped) : Slot :=
  { state := .loaded, owner := some a, epoch := epoch, size := keySizeOf u.key.length, key := u.key, salt := u.salt,
    checkValue := checkValueOf u.key, expandedKey := [], integrityCode := 0, inFlight := 0 }

/-- A KEY_LOAD that passes every check (R70); the arbiter then looks at the expansion FIFO (R91). -/
def loadKey (k : SlotNum) (a : Anum) (epoch : Byte) (u : Unwrapped) (s : State) : State :=
  let s1 := s.updSlot k fun _ => Slot.loadedWith a epoch u
  let s2 := s1.updAssoc a fun x => { x with next := some k }
  arbitrate { s2 with expansionFifo := s2.expansionFifo ++ [k] }

/-- The reply fields of KEY_LOAD (R70, R171). -/
def keyLoadBytes (k : SlotNum) (epoch : Byte) (u : Unwrapped) : Bytes :=
  [BitVec.ofNat 8 k.val, epoch, (keySizeOf u.key.length).code] ++ toBE 3 (checkValueOf u.key).toNat

/-- Checks 4 to 9 of R69 for a slot and an association in range. -/
def serveLoad (transport : Bytes) (k : SlotNum) (a : Anum) (epoch : Byte) (blob : Bytes) (s : State) : Served :=
  let x := s.assoc a
  if (s.slot k).state ≠ .empty then refuse .slotBusy s
  else if x.state = .idle then refuse .state s
  else if x.next ≠ none then refuse .nextPresent s
  else if epoch ≠ x.expectedEpoch then refuse .epochOrder s
  else if blob.length ≠ 32 ∧ blob.length ≠ 48 then refuse .badLength s
  else match unwrapKey transport blob (BitVec.ofNat 8 a.val) epoch with
    | none => refuse .wrapFail s
    | some u => done (keyLoadBytes k epoch u) (loadKey k a epoch u s)

/-- KEY_LOAD in RUNNING (R69). -/
def serveKeyLoad (slot anum epoch : Byte) (blob : Bytes) (s : State) : Served :=
  match s.transportKey with
  | none => refuse .noTransportKey s
  | some transport =>
    match inRange 128 slot, inRange 64 anum with
    | some k, some a => serveLoad transport k a epoch blob s
    | _, _ => refuse .badValue s

/-- KEY_LOAD (R69). -/
def execKeyLoad (tag slot anum epoch : Byte) (blob : Bytes) (s : State) : Result :=
  requestArrives .keyLoad tag (blob.length + 3) (serveKeyLoad slot anum epoch blob) s

/-! ## KEY_ERASE -/

/-- A LOADED or READY slot is erased: its owner's next slot becomes absent, and verifications under it are withdrawn (R74,
R90). -/
def eraseNext (k : SlotNum) (s : State) : State :=
  match (s.slot k).owner with
  | some a => withdrawVerifies a (emptySlot k (s.updAssoc a fun x => { x with next := none }))
  | none => emptySlot k s

/-- The owner of a slot has an attempt record (R74). -/
def ownerInExchange (s : State) (k : SlotNum) : Bool :=
  match (s.slot k).owner with
  | some a => (s.assoc a).attempt.isSome
  | none => false

/-- KEY_ERASE in RUNNING (R74). -/
def serveKeyErase (slot : Byte) (s : State) : Served :=
  match inRange 128 slot with
  | none => refuse .badValue s
  | some k =>
    match (s.slot k).state with
    | .empty => done [] s
    | .loaded => done [] (eraseNext k s)
    | .ready => if ownerInExchange s k then refuse .inUse s else done [] (eraseNext k s)
    | .active => refuse .inUse s
    | .draining => refuse .inUse s
    | .faulted => if (s.slot k).inFlight = 0 then done [] (emptySlot k s) else refuse .inUse s

/-- KEY_ERASE (R74). -/
def execKeyErase (tag slot : Byte) (s : State) : Result := requestArrives .keyErase tag 1 (serveKeyErase slot) s

/-! ## SLOT_GET -/

/-- A slot as SLOT_GET reports it (R75, R171). -/
def slotBytes (s : State) (k : SlotNum) : Bytes :=
  let x := s.slot k
  [x.state.code, optionByte x.owner, x.epoch, x.size.code] ++ toBE 3 x.checkValue.toNat
    ++ [BitVec.ofNat 8 x.inFlight, (s.expansionStatus k).code, yesNo s.transportKey.isSome]

/-- SLOT_GET in RUNNING (R75). -/
def serveSlotGet (slot : Byte) (s : State) : Served :=
  match inRange 128 slot with
  | none => refuse .badValue s
  | some k => done (slotBytes s k) s

/-- SLOT_GET (R75). -/
def execSlotGet (tag slot : Byte) (s : State) : Result := requestArrives .slotGet tag 1 (serveSlotGet slot) s

end Sys2Proof.Machine
end

