-- ==== Sys2Proof/Machine/ReportRequests.lean ====
section
/-! DEFINITION. The requests on the part as a whole: IDENTIFY and RESET (R186), EVENTS_FETCH (R177), FAULTS_READ (R178,
R179), COUNTERS_READ (R181, R182). -/

namespace Sys2Proof.Machine

/-! ## IDENTIFY and RESET -/

/-- The reply fields of IDENTIFY (R186). -/
def identifyBytes (s : State) : Bytes :=
  [0x46] ++ toLE 2 0x0440 ++ [0x01, BitVec.ofNat 8 s.straps.rate.val, yesNo s.straps.clear, s.partState.code,
    setByte s.lanesInService]

/-- IDENTIFY in RUNNING or HALTED (R186). -/
def serveIdentify (s : State) : Served := done (identifyBytes s) s

/-- IDENTIFY (R186). -/
def execIdentify (tag : Byte) (s : State) : Result := requestArrives .identify tag 0 serveIdentify s

/-- RESET in RUNNING or HALTED changes no state; the soft reset follows its reply, at REPLY_SENT (R186). -/
def serveReset (s : State) : Served := done [] s

/-- RESET (R186). -/
def execReset (tag : Byte) (s : State) : Result := requestArrives .reset tag 0 serveReset s

/-! ## EVENTS_FETCH -/

/-- An event entry as reported: kind, source kind, source, occurrence count, detail (R171). -/
def eventBytes (e : Event) : Bytes :=
  [BitVec.ofNat 8 e.kind.code] ++ e.source.bytes ++ [BitVec.ofNat 8 e.count] ++ toLE 2 e.detail.toNat

/-- At most 32 entries are fetched at once (R177). -/
def fetchMax : Nat := 32

/-- The event mask after a fetch: bits 21 to 31 of the body are not stored (R177 step 5). -/
def maskAfter (write : Byte) (mask : BitVec 32) (old : BitVec 21) : BitVec 21 :=
  if write = 1 then mask.setWidth 21 else old

/-- EVENTS_FETCH in RUNNING (R177). -/
def serveEventsFetch (countWanted maskWrite : Byte) (mask : BitVec 32) (s : State) : Served :=
  if 1 < maskWrite.toNat then refuse .badValue s
  else
    let used := min countWanted.toNat fetchMax
    let taken := s.events.take used
    let newMask := maskAfter maskWrite mask s.eventMask
    done ([BitVec.ofNat 8 used, yesNo s.eventsLost] ++ toLE 4 newMask.toNat ++ [BitVec.ofNat 8 taken.length]
        ++ taken.flatMap eventBytes)
      { s with events := s.events.drop used, eventsLost := false, eventMask := newMask }

/-- EVENTS_FETCH (R177). -/
def execEventsFetch (tag countWanted maskWrite : Byte) (mask : BitVec 32) (s : State) : Result :=
  requestArrives .eventsFetch tag 6 (serveEventsFetch countWanted maskWrite mask) s

/-! ## FAULTS_READ -/

/-- A fault entry as reported: kind, tag present, tag, request count (R171, R178). -/
def faultBytes (e : MgmtFault) : Bytes :=
  [e.kind.code, yesNo e.tag.isSome, e.tag.getD 0] ++ toLE 2 e.requestCount.toNat

/-- The hardware fault record as reported (R171, R179). -/
def hwFaultBytes (h : HwFaults) : Bytes :=
  [setByte h.lanesFailed.toList, yesNo h.keyStore, setByte h.buffers.toList, BitVec.ofNat 8 h.scrubFaults]

/-- FAULTS_READ in RUNNING or HALTED (R178). -/
def serveFaultsRead (s : State) : Served :=
  done ([BitVec.ofNat 8 s.faultList.length] ++ s.faultList.flatMap faultBytes ++ hwFaultBytes s.hwFaults)
    { s with faultList := [] }

/-- FAULTS_READ (R178). -/
def execFaultsRead (tag : Byte) (s : State) : Result := requestArrives .faultsRead tag 0 serveFaultsRead s

/-! ## COUNTERS_READ -/

/-- The three blocks of counters (R181). -/
inductive CounterBlock | port | assoc | steer
  deriving DecidableEq, Repr

def CounterBlock.ofCode (b : Byte) : Option CounterBlock := [CounterBlock.port, .assoc, .steer][b.toNat]?
def CounterBlock.code : CounterBlock → Byte | .port => 0 | .assoc => 1 | .steer => 2

/-- The records of a block. -/
def CounterBlock.size : CounterBlock → Nat | .port => 4 | .assoc => 64 | .steer => 128

/-- The most records that one request returns (R181 step 3). -/
def CounterBlock.most : CounterBlock → Nat | .port => 4 | .assoc => 21 | .steer => 128

/-- A record number lies in the range read. -/
def inCounterRange (first used i : Nat) : Bool := decide (first ≤ i ∧ i < first + used)

/-- Counters in six bytes each (R171). -/
def counterBytes (counters : List Nat) : Bytes := counters.flatMap (toLE 6)

/-- The counters of the range, record by record (R181). -/
def counterSnapshot (block : CounterBlock) (first used : Nat) (s : State) : List Nat :=
  match block with
  | .port => (allPorts.filter fun p => inCounterRange first used p.val).flatMap fun p => (s.port p).counters.toList
  | .assoc => (allAnums.filter fun a => inCounterRange first used a.val).flatMap fun a => (s.assoc a).counters.toList
  | .steer => (allEntries.filter fun i => inCounterRange first used i.val).map fun i => (s.entry i).hits

/-- A table whose rows in the range are changed. -/
def mapRange {α : Type} {n : Nat} (first used : Nat) (f : α → α) (v : Vector α n) : Vector α n :=
  Vector.ofFn fun i => if inCounterRange first used i.val then f (row v i) else row v i

/-- Every counter of the range becomes 0 (R181). -/
def clearCounters (block : CounterBlock) (first used : Nat) (s : State) : State :=
  match block with
  | .port => { s with ports := mapRange first used (fun x => { x with counters := Vector.replicate 32 0 }) s.ports }
  | .assoc => { s with assocs := mapRange first used (fun x => { x with counters := Vector.replicate 8 0 }) s.assocs }
  | .steer => { s with steering := mapRange first used (fun x => { x with hits := 0 }) s.steering }

/-- COUNTERS_READ in RUNNING (R181). -/
def serveCountersRead (block first count clear : Byte) (s : State) : Served :=
  match CounterBlock.ofCode block with
  | none => refuse .badValue s
  | some b =>
    if 1 < clear.toNat then refuse .badValue s
    else if b.size ≤ first.toNat then refuse .badValue s
    else
      let used := min (min count.toNat b.most) (b.size - first.toNat)
      done ([b.code, first, BitVec.ofNat 8 used, clear] ++ counterBytes (counterSnapshot b first.toNat used s))
        (if clear = 1 then clearCounters b first.toNat used s else s)

/-- COUNTERS_READ (R181). -/
def execCountersRead (tag block first count clear : Byte) (s : State) : Result :=
  requestArrives .countersRead tag 4 (serveCountersRead block first count clear) s

end Sys2Proof.Machine
end

