-- ==== Sys2Proof/Machine/Line.lean ====
section
/-! DEFINITION. The management line: MGMT_BYTE_RECEIVED (R161 to R164), RECORD_COMPLETE (R165, R168), REPLY_SENT (R166,
R183). -/

namespace Sys2Proof.Machine

/-! ## Records -/

/-- Step 4 of R168 for a request command; a command that is no request is none, and is never served. -/
def serveCommand (i : Instr) (s : State) : Served :=
  match i with
  | .identify _ => serveIdentify s
  | .reset _ => serveReset s
  | .portSet _ b => servePortSet b s
  | .portMode _ port mode => servePortMode port mode s
  | .portGet _ port => servePortGet port s
  | .portFlow _ b => servePortFlow b s
  | .portSwitch _ port first last => servePortSwitch port first last s
  | .steerSet _ b => serveSteerSet b s
  | .steerGet _ index => serveSteerGet index s
  | .steerLock _ index => serveSteerLock index s
  | .steerClear _ index => serveSteerClear index s
  | .assocSet _ b => serveAssocSet b s
  | .assocStart _ anum => serveAssocStart anum s
  | .assocSuspend _ anum => serveAssocSuspend anum s
  | .assocResume _ anum => serveAssocResume anum s
  | .assocClear _ anum => serveAssocClear anum s
  | .assocGet _ anum => serveAssocGet anum s
  | .testCorrupt _ anum action => serveTestCorrupt anum action s
  | .switchNow _ anum => serveSwitchNow anum s
  | .transportKey _ key => serveTransportKey key s
  | .keyLoad _ slot anum epoch blob => serveKeyLoad slot anum epoch blob s
  | .keyErase _ slot => serveKeyErase slot s
  | .slotGet _ slot => serveSlotGet slot s
  | .eventsFetch _ count maskWrite mask => serveEventsFetch count maskWrite mask s
  | .faultsRead _ => serveFaultsRead s
  | .countersRead _ block first count clear => serveCountersRead block first count clear s
  | .powerOn _ | .pinResetAssert | .pinResetRelease _ _ | .selftestComplete _ | .inhibitAssert | .inhibitRelease
  | .finePulse _ | .coarsePulse _ | .lifetimeExpiry _ | .linkGood _ | .linkSettled _ | .linkLost _ | .rackLinkLost _
  | .rackLinkGood _ | .rsideFrameReceived _ _ | .csideFrameReceived _ _ | .transformComplete _ | .expandComplete _
  | .verifyComplete _ | .attemptTimeout _ | .dequeueDecision _ | .noticePlacement _ | .csideTxStart _
  | .csideTxComplete _ | .rsideTxStart _ | .rsideTxComplete _ | .quantumTick | .pauseRefreshDue _ _
  | .campusPauseEnd _ _ | .rackPauseEnd _ _ | .mgmtByteReceived _ _ | .gapExpiry | .recordComplete _ | .replySent =>
    refuse .unknownKind s

/-- A record whose check is good is taken (R168). -/
def takeRecord (r : Record) (s : State) : Served :=
  match RequestKind.ofCode r.kind with
  | some kind => takeRequest kind r.body.length (serveCommand (kind.command r.tag r.body)) s
  | none => refuse .unknownKind (recordFault .unknownKind (some r.tag) s)

/-- A record that finds nothing owed: its check is judged, and it is taken or answered BAD_CHECK (R165). -/
def dealRecord (r : Record) (s : State) : Served :=
  if crc16 (recordCovered r) = r.check then takeRecord r s
  else refuse .badCheck (recordFault .badCheck (some r.tag) s)

/-- A complete record reaches the part (R165). -/
def completeRecord (r : Record) (s : State) : State := recordArrives r.kind r.tag (dealRecord r) s

/-- RECORD_COMPLETE (R165): the last check byte of the record arrives. -/
def execRecordComplete (r : Record) (s : State) : Result := unlessHeld s <| .next (completeRecord r s)

/-! ## Bytes -/

/-- The sync byte (R162). -/
def syncByte : Byte := 0xC3

/-- The number of gap units that every byte of a record loads (R164). -/
def gapLoad : Nat := 2

/-- The record in the bytes received since the sync byte: length, kind, tag, body, check (R162). -/
def recordOf (got : Bytes) : Record :=
  { kind := byteAt got 2, tag := byteAt got 3, body := (got.drop 4).take (got.length - 6),
    check := BitVec.ofNat 16 (beAt got (got.length - 2) 2) }

/-- A byte joins the record being received (R163): a bad length ends it, the last check byte completes it. -/
def recordByte (got : Bytes) (s : State) : State :=
  let length := leAt got 0 2
  if got.length < 2 then { s with receiver := .record got gapLoad }
  else if length < 2 ∨ 1026 < length then recordFault .badLength none { s with receiver := .hunt }
  else if got.length < length + 4 then { s with receiver := .record got gapLoad }
  else completeRecord (recordOf got) s

/-- A byte reaches the receiver (R163, R164). A byte with a framing error abandons the record and joins nothing, so that a tag
byte that carries the error leaves the fault's tag absent (DESIGN CHOICE, assumption 31). -/
def receiveByte (b : Byte) (stopBit : Bool) (s : State) : State :=
  match s.receiver with
  | .hunt => if stopBit = true ∧ b = syncByte then { s with receiver := .record [] gapLoad } else s
  | .record got _ => if stopBit then recordByte (got ++ [b]) s else abandonRecord got s

/-- MGMT_BYTE_RECEIVED (R163). -/
def execMgmtByteReceived (b : Byte) (stopBit : Bool) (s : State) : Result :=
  unlessHeld s <| .next (receiveByte b stopBit s)

/-! ## The end of a reply -/

/-- The reply to a RESET that was taken (R167, R186). -/
def Reply.isReset (r : Reply) : Bool := r.kind == replyKind RequestKind.reset.code && r.body == [Status.ok.code]

/-- REPLY_SENT (R166): the last byte of what the part is sending has been sent. After the reply to RESET the soft reset
takes effect (R167, R183), and an owed BUSY is removed. -/
def execReplySent (s : State) : Result :=
  unlessHeld s <|
    match s.replyOwed, s.busyOwed with
    | none, none => .refused .eventCannotOccur
    | some r, _ => if r.isReset then .next (softReset s) else .next { s with replyOwed := none }
    | none, some _ => .next { s with busyOwed := none }

end Sys2Proof.Machine
end

