-- ==== Sys2Proof/Machine/Dispatch.lean ====
section
/-! DEFINITION. The effect of each command on everything but the queue: one arm per command, in the order of the table. -/

namespace Sys2Proof.Machine

/-- The effect of a command (spec/opcode_table.json). -/
def exec (i : Instr) (s : State) : Host.Outcome State Fault Refusal :=
  match i with
  | .powerOn pins => Sys2Proof.Machine.execPowerOn pins s
  | .pinResetAssert => Sys2Proof.Machine.execPinResetAssert s
  | .pinResetRelease rate clear => Sys2Proof.Machine.execPinResetRelease rate clear s
  | .selftestComplete result => Sys2Proof.Machine.execSelftestComplete result s
  | .inhibitAssert => Sys2Proof.Machine.execInhibitAssert s
  | .inhibitRelease => Sys2Proof.Machine.execInhibitRelease s
  | .finePulse drift => Sys2Proof.Machine.execFinePulse drift s
  | .coarsePulse drift => Sys2Proof.Machine.execCoarsePulse drift s
  | .lifetimeExpiry anum => Sys2Proof.Machine.execLifetimeExpiry anum s
  | .linkGood port => Sys2Proof.Machine.execLinkGood port s
  | .linkSettled port => Sys2Proof.Machine.execLinkSettled port s
  | .linkLost port => Sys2Proof.Machine.execLinkLost port s
  | .rackLinkLost port => Sys2Proof.Machine.execRackLinkLost port s
  | .rackLinkGood port => Sys2Proof.Machine.execRackLinkGood port s
  | .rsideFrameReceived port frame => Sys2Proof.Machine.execRsideFrameReceived port frame s
  | .csideFrameReceived port frame => Sys2Proof.Machine.execCsideFrameReceived port frame s
  | .transformComplete lane => Sys2Proof.Machine.execTransformComplete lane s
  | .expandComplete lane => Sys2Proof.Machine.execExpandComplete lane s
  | .verifyComplete lane => Sys2Proof.Machine.execVerifyComplete lane s
  | .attemptTimeout anum => Sys2Proof.Machine.execAttemptTimeout anum s
  | .dequeueDecision port => Sys2Proof.Machine.execDequeueDecision port s
  | .noticePlacement port => Sys2Proof.Machine.execNoticePlacement port s
  | .csideTxStart port => Sys2Proof.Machine.execCsideTxStart port s
  | .csideTxComplete port => Sys2Proof.Machine.execCsideTxComplete port s
  | .rsideTxStart port => Sys2Proof.Machine.execRsideTxStart port s
  | .rsideTxComplete port => Sys2Proof.Machine.execRsideTxComplete port s
  | .quantumTick => Sys2Proof.Machine.execQuantumTick s
  | .pauseRefreshDue port cls => Sys2Proof.Machine.execPauseRefreshDue port cls s
  | .campusPauseEnd port prio => Sys2Proof.Machine.execCampusPauseEnd port prio s
  | .rackPauseEnd port prio => Sys2Proof.Machine.execRackPauseEnd port prio s
  | .mgmtByteReceived byte stopBit => Sys2Proof.Machine.execMgmtByteReceived byte stopBit s
  | .gapExpiry => Sys2Proof.Machine.execGapExpiry s
  | .recordComplete record => Sys2Proof.Machine.execRecordComplete record s
  | .replySent => Sys2Proof.Machine.execReplySent s
  | .identify tag => Sys2Proof.Machine.execIdentify tag s
  | .reset tag => Sys2Proof.Machine.execReset tag s
  | .portSet tag body => Sys2Proof.Machine.execPortSet tag body s
  | .portMode tag port mode => Sys2Proof.Machine.execPortMode tag port mode s
  | .portGet tag port => Sys2Proof.Machine.execPortGet tag port s
  | .portFlow tag body => Sys2Proof.Machine.execPortFlow tag body s
  | .portSwitch tag port firstStep lastStep => Sys2Proof.Machine.execPortSwitch tag port firstStep lastStep s
  | .steerSet tag body => Sys2Proof.Machine.execSteerSet tag body s
  | .steerGet tag index => Sys2Proof.Machine.execSteerGet tag index s
  | .steerLock tag index => Sys2Proof.Machine.execSteerLock tag index s
  | .steerClear tag index => Sys2Proof.Machine.execSteerClear tag index s
  | .assocSet tag body => Sys2Proof.Machine.execAssocSet tag body s
  | .assocStart tag anum => Sys2Proof.Machine.execAssocStart tag anum s
  | .assocSuspend tag anum => Sys2Proof.Machine.execAssocSuspend tag anum s
  | .assocResume tag anum => Sys2Proof.Machine.execAssocResume tag anum s
  | .assocClear tag anum => Sys2Proof.Machine.execAssocClear tag anum s
  | .assocGet tag anum => Sys2Proof.Machine.execAssocGet tag anum s
  | .testCorrupt tag anum action => Sys2Proof.Machine.execTestCorrupt tag anum action s
  | .switchNow tag anum => Sys2Proof.Machine.execSwitchNow tag anum s
  | .transportKey tag key => Sys2Proof.Machine.execTransportKey tag key s
  | .keyLoad tag slot anum epoch blob => Sys2Proof.Machine.execKeyLoad tag slot anum epoch blob s
  | .keyErase tag slot => Sys2Proof.Machine.execKeyErase tag slot s
  | .slotGet tag slot => Sys2Proof.Machine.execSlotGet tag slot s
  | .eventsFetch tag countWanted maskWrite mask => Sys2Proof.Machine.execEventsFetch tag countWanted maskWrite mask s
  | .faultsRead tag => Sys2Proof.Machine.execFaultsRead tag s
  | .countersRead tag block first count clear => Sys2Proof.Machine.execCountersRead tag block first count clear s

end Sys2Proof.Machine
end

