-- ==== Sys2Proof/Safety.lean ====
section
/-! DEFINITION. What the spec says of every state the part can be in: the forms of its lists, counters, buffers,
associations, slots, lanes and control queues. Statements about every step take these as invariants. -/

namespace Sys2Proof.Machine

/-! ## Lists and counts that have a bound -/

/-- At most 64 entries, never two with the same kind and source, each count 1..255 (R174). -/
def EventsOk (s : State) : Prop :=
  s.events.length ≤ Config.eventCapacity ∧ (s.events.map fun e => (e.kind, e.source)).Nodup
    ∧ ∀ e ∈ s.events, 1 ≤ e.count ∧ e.count ≤ 255

/-- The management fault list holds at most 4 entries (R178). -/
def FaultListOk (s : State) : Prop := s.faultList.length ≤ Config.faultCapacity

/-- Every counter is at most 2^48 − 1 (R180). -/
def CountersOk (s : State) : Prop :=
  (∀ p c, row (s.port p).counters c ≤ Config.counterMax) ∧ (∀ a c, row (s.assoc a).counters c ≤ Config.counterMax)
    ∧ ∀ i, (s.entry i).hits ≤ Config.counterMax

/-- The divider's counts and the scrub fault count stay in their ranges (R124, R179), and a self-test does not outlast its 32
fine pulses (R184). -/
def CountsOk (s : State) : Prop :=
  s.clockCount < Config.clocksPerFine ∧ s.fineCount < Config.finePerCoarse ∧ s.hwFaults.scrubFaults ≤ 255
    ∧ (s.partState = .testing → s.fineCount ≤ Config.selfTestPulses)

/-! ## Ports -/

/-- The entries of a port that are IN_LANE (R93). -/
def Port.inLaneCount (x : Port) : Nat := (x.sequence.filter (·.status.isInLane)).length

/-- The four places of a reply inbox hold at most one frame each (R123), a return FIFO at most 512 cells (R120), a transform
sequence at most 4 entries with at most 2 in lanes (R91, R93), every class queue at most its ceiling (R104), and a port in
OFF holds no queued frame (R6). -/
def Port.Ok (x : Port) : Prop :=
  x.sequence.length ≤ Config.sequenceCapacity ∧ x.inLaneCount ≤ Config.portLaneCap
    ∧ x.inbox.length ≤ Config.inboxCapacity ∧ (x.inbox.map Captured.place).Nodup
    ∧ (x.returnFifo.map cellsOf).sum ≤ Config.returnCells
    ∧ (∀ k, x.occupancy k ≤ row x.flow.ceiling k)
    ∧ (x.mode = .off → ∀ k, row x.queues k = [])

def PortsOk (s : State) : Prop := ∀ p, (s.port p).Ok

/-- While the part is not RUNNING every port is OFF (R185). -/
def HeldOff (s : State) : Prop := s.partState ≠ .running → ∀ p, (s.port p).mode = .off

/-! ## Associations -/

/-- What the state of an association says that it holds (R42): an attempt record only in SWITCHING or EXHAUSTED and always
in SWITCHING, a current slot exactly while a key is in service, no next slot in IDLE; a pending kind exactly with switch
pending (R135); next_pn in its range, and at most the stop mark while data frames are numbered (R55, R57). -/
def Assoc.Ok (x : Assoc) : Prop :=
  (x.attempt ≠ none → x.state = .switching ∨ x.state = .exhausted)
    ∧ (x.state = .switching → x.attempt ≠ none)
    ∧ (x.current ≠ none ↔ x.state.inService = true)
    ∧ (x.state = .idle → x.next = none)
    ∧ (x.pendingKind ≠ none ↔ x.switchPending = true)
    ∧ 1 ≤ x.nextPn ∧ x.nextPn ≤ Config.pnMax + 1
    ∧ (x.state = .running ∨ x.state = .switching ∨ x.state = .suspended → x.nextPn ≤ x.stopMark)
    ∧ 1 ≤ x.switchMark ∧ x.switchMark < x.stopMark ∧ x.stopMark ≤ Config.stopMarkMax

def AssocsOk (s : State) : Prop := ∀ a, (s.assoc a).Ok

/-! ## Slots -/

/-- A slot in EMPTY or FAULTED holds no key and no salt, and no owner; in the other states it has an owner (R63, R64). -/
def Slot.Ok (x : Slot) : Prop :=
  if x.state = .empty ∨ x.state = .faulted then
    x.owner = none ∧ (∀ b ∈ x.key, b = 0) ∧ x.salt = 0 ∧ x.expandedKey = [] ∧ x.integrityCode = 0
  else x.owner ≠ none

def SlotsOk (s : State) : Prop := ∀ k, (s.slot k).Ok

/-- A current slot is ACTIVE and a next slot LOADED or READY, each owned by the association that names it, and the owner of a
LOADED, READY or ACTIVE slot names it so, which binds no slot twice (R42, R66); while an exchange runs the next slot is
READY (R74, R136). -/
def Bound (s : State) (a : Anum) : Prop :=
  (∀ k, (s.assoc a).current = some k → (s.slot k).state = .active ∧ (s.slot k).owner = some a)
    ∧ (∀ k, (s.assoc a).next = some k →
        ((s.slot k).state = .loaded ∨ (s.slot k).state = .ready) ∧ (s.slot k).owner = some a)
    ∧ (∀ k, (s.slot k).owner = some a →
        ((s.slot k).state = .loaded ∨ (s.slot k).state = .ready → (s.assoc a).next = some k)
        ∧ ((s.slot k).state = .active → (s.assoc a).current = some k))
    ∧ ((s.assoc a).attempt ≠ none → s.nextReady a = true)

def SlotsBound (s : State) : Prop := ∀ a, Bound s a

/-- The entries of the transform sequences recorded against a slot (R76). -/
def entriesAgainst (s : State) (k : SlotNum) : Nat :=
  (allPorts.map fun p => ((s.port p).sequence.filter fun e => e.slot? == some k).length).sum

/-- The in-flight count is the number of entries recorded against the slot (R76); EMPTY, LOADED and READY slots have none,
and a DRAINING slot has at least one (R64). -/
def InFlightOk (s : State) : Prop :=
  ∀ k, (s.slot k).inFlight = entriesAgainst s k
    ∧ ((s.slot k).state = .empty ∨ (s.slot k).state = .loaded ∨ (s.slot k).state = .ready → (s.slot k).inFlight = 0)
    ∧ ((s.slot k).state = .draining → 1 ≤ (s.slot k).inFlight)

/-- The packet number of an entry; a PASS entry has none (R93). -/
def Entry.pn? (e : Entry) : Option Nat :=
  match e.body with
  | .data _ _ pn _ _ _ => some pn
  | .notice _ _ pn => some pn
  | .pass => none

/-- No number is used twice under one load of a slot (R57): the entries of a sequence recorded against one slot carry rising
numbers in 1..PN_MAX, those against a current slot numbers below next_pn, and they all stand on the association's port. -/
def NumbersOk (s : State) : Prop :=
  (∀ p, (s.port p).sequence.Pairwise fun e g => ∀ k m n, e.slot? = some k → g.slot? = some k → e.pn? = some m →
      g.pn? = some n → m < n)
    ∧ (∀ p, ∀ e ∈ (s.port p).sequence, ∀ n, e.pn? = some n → 1 ≤ n ∧ n ≤ Config.pnMax)
    ∧ ∀ p, ∀ e ∈ (s.port p).sequence, ∀ a k n, (s.assoc a).current = some k → e.slot? = some k → e.pn? = some n →
        n < (s.assoc a).nextPn ∧ (s.assoc a).port = p

/-! ## Lanes and control queues -/

/-- A lane is BUSY with the TRANSFORM of a port exactly while an entry of that port is IN_LANE in it (R83, R94), at most two
lanes are BUSY with expansions (R91), and in TESTING none is BUSY (R184, R185). -/
def LanesOk (s : State) : Prop :=
  (∀ l p, (∃ copy clp, s.lane l = .busy (.transform p copy clp)) ↔ ∃ e ∈ (s.port p).sequence, e.status = .inLane l)
    ∧ expandCount s ≤ Config.expandCap
    ∧ (s.partState = .testing → ∀ l op, s.lane l ≠ .busy op)

/-- An association waits in the control queue of its port, once, exactly while its attempt record is QUEUED (R140). -/
def ControlQueuesOk (s : State) : Prop :=
  ∀ p, (s.port p).controlQueue.Nodup
    ∧ ∀ a, a ∈ (s.port p).controlQueue ↔
        (s.assoc a).port = p ∧ ((s.assoc a).attempt.any fun t => t.status == .queued) = true

/-! ## The whole -/

/-- The states in which no command faults: associations, slots and control queues agree. -/
def Coherent (s : State) : Prop := AssocsOk s ∧ SlotsBound s ∧ ControlQueuesOk s

/-- A command is a request of R171. -/
def isRequest (i : Instr) : Bool := (requestRecord i).isSome

/-- The part takes a request at once: RESET_N is high, nothing is owed on the management line (R166), and the part is
RUNNING (R168). -/
def TakesRequests (s : State) : Prop :=
  s.pins.resetLow = false ∧ s.replyOwed = none ∧ s.busyOwed = none ∧ s.partState = .running

/-- The part can deal with a request, and is not RUNNING (R168, R185). -/
def NotRunning (s : State) : Prop :=
  s.pins.resetLow = false ∧ s.replyOwed = none ∧ s.busyOwed = none ∧ s.partState ≠ .running

/-- A complete record has been counted, and the receiver hunts (R163, R172). -/
def counted (s : State) : State := { s with requestCount := s.requestCount + 1, receiver := .hunt }

/-- A reply with status OK is owed (R165, R167): its kind, the request's tag, 0x00 and the reply fields. -/
def owingOk (kind tag : Byte) (fields : Bytes) (s : State) : State :=
  { s with replyOwed := some { kind := kind, tag := tag, body := 0x00 :: fields } }

/-- A reply with another status is owed, which carries the status alone (R167). -/
def owingRefusal (kind tag status : Byte) (s : State) : State :=
  { s with replyOwed := some { kind := kind, tag := tag, body := [status] } }

/-! ## Vocabulary of the statements -/

/-- An action byte with its ANUM byte names an action (R169): PROTECT 0 with an association, PASS 1, DROP 2. -/
def CodesAction (action anum : Byte) : Action → Prop
  | .protect a => action = 0 ∧ anum.toNat = a.val
  | .pass => action = 1
  | .drop => action = 2

/-- A switch of an association can start (R131), its port and the inhibit state being as given. -/
def SwitchCanStart (s : State) (a : Anum) (portMode : PortMode) (inhibit : InhibitState) : Prop :=
  ((s.assoc a).state = .running ∨ (s.assoc a).state = .exhausted) ∧ (s.assoc a).attempt = none ∧ s.nextReady a = true
    ∧ ((s.assoc a).confirmPolicy = .unilateral ∨ (portMode = .protect ∧ inhibit = .released))

/-- The record of an association whose switch has begun under CONFIRMED with the port's first step (R133, R136). -/
def Assoc.announced (firstStep : Nat) (x : Assoc) : Assoc :=
  { x with
    switchPending := false, switchDue := false, pendingKind := none
    attempt := some { number := 1, step := firstStep, pulses := 2 ^ firstStep, status := .queued }
    state := if x.state = .running then .switching else x.state }

/-- The record of an association that has cut over to a slot of the given epoch (R157). -/
def Assoc.switched (k : SlotNum) (epoch : Byte) (x : Assoc) : Assoc :=
  { x with
    state := .running, current := some k, next := none, currentEpoch := epoch, nextPn := 1
    lifetimeRemaining := x.lifetimeReload, floorCurrent := x.floorNext, floorNext := 0, attempt := none }

/-- A slot that has left service (R77): DRAINING while entries count against it, else EMPTY. -/
def Slot.outgoing (x : Slot) : Slot := if x.inFlight = 0 then Slot.empty else { x with state := .draining }

/-- The slot the scrubber looks at next passes its scrub or is skipped (R80). -/
def ScrubPasses (s : State) : Prop :=
  (s.slot s.scrubPointer).state.scrubbed = true → (s.slot s.scrubPointer).intact = true

/-- The occupancy of a class queue that takes a frame makes the class hold (R111). -/
def Port.holdsAt (x : Port) (k : ClassNum) (occupancy : Nat) : Bool :=
  x.flow.pauseEnable && (if row x.holding k then decide (row x.flow.lower k < occupancy)
    else decide (row x.flow.upper k ≤ occupancy))

/-- A frame that the R-side receiver accepts for steering (R9, R11, R12). -/
def AcceptedForSteering (s : State) (p : PortNum) (f : Bytes) : Prop :=
  s.pins.resetLow = false ∧ row s.pins.rackLink p = true ∧ (s.port p).mode = .protect
    ∧ 64 ≤ f.length ∧ f.length ≤ (s.port p).settings.frameCeiling ∧ fcsGood f = true ∧ isMacControl f = false
    ∧ ¬(s.inhibit = .asserted ∧ (s.port p).settings.inhibitAction = .discard)

/-- A received R-side frame is counted before any check (R8). -/
def countedIn (p : PortNum) (f : Bytes) (s : State) : State :=
  bumpPort p .octetsIn f.length (bumpPort p .framesIn 1 s)

/-- The scheduler of a port serves it (R108): PROTECT, link UP, inhibit released, room in the sequence. -/
def SchedulerServes (s : State) (p : PortNum) : Prop :=
  s.pins.resetLow = false ∧ (s.port p).mode = .protect ∧ (s.port p).link = .up ∧ s.inhibit = .released
    ∧ (s.port p).sequence.length < Config.sequenceCapacity

/-- The frame record a dequeue decision takes next is the head of a class queue, with no notice before it (R108). -/
def TakesNext (s : State) (p : PortNum) (k : ClassNum) (r : FrameRecord) : Prop :=
  SchedulerServes s p ∧ (s.port p).controlQueue = [] ∧ (row (s.port p).queues k).head? = some r
    ∧ (s.port p).campusPaused k = false
    ∧ ∀ j : ClassNum, k < j → row (s.port p).queues j = [] ∨ (s.port p).campusPaused j = true

/-- The failed units of a self-test as the details of SELFTEST_FAULT, in the order of R184 (R176). -/
def failedUnits (r : SelfTestResult) : List (BitVec 16) :=
  ((allLanes.filter fun l => row r.lanes l).map fun l => BitVec.ofNat 16 (256 * l.val))
    ++ (if r.keyStore then [1] else [])
    ++ ((allPorts.filter fun p => row r.buffers p).map fun p => BitVec.ofNat 16 (2 + 256 * p.val))

/-- Bytes arrive on the management line one after another, each with a good stop bit (R161). -/
def receiveAll (bytes : Bytes) (s : State) : Host.Outcome State Fault Refusal :=
  bytes.foldl (fun o b => match o with
    | .next t => exec (.mgmtByteReceived b true) t
    | .fault f => .fault f
    | .refused r => .refused r) (.next s)

/-- A soft reset keeps nothing of a port, an association or a slot but the reports of the links (R183, R14). -/
def portAfterReset (linkGood : Bool) : Port :=
  if linkGood then { Port.reset with link := .settling, settleRemaining := 10 } else Port.reset

/-- Two states that differ in the key material of the slots alone (R64). -/
def SameButKeys (s t : State) : Prop :=
  (∀ k, { s.slot k with key := [], salt := 0, expandedKey := [], integrityCode := 0 }
      = { t.slot k with key := [], salt := 0, expandedKey := [], integrityCode := 0 })
    ∧ { s with slots := t.slots } = t

/-- The head record of a class queue has left, its cells are freed, and the holding indication follows the new occupancy
(R105, R111); nothing else has changed. -/
def HeadTaken (p : PortNum) (c : ClassNum) (s t : State) : Prop :=
  let x := s.port p
  let occupancy := ((row x.queues c).tail.map FrameRecord.cells).sum
  (∀ k, row (t.port p).queues k = if k = c then (row x.queues k).tail else row x.queues k)
    ∧ (∀ k, row (t.port p).holding k = if k = c then x.holdsAt k occupancy else row x.holding k)
    ∧ (t.port p).pauseOwed = (x.pauseOwed || row x.holding c != x.holdsAt c occupancy)
    ∧ (∀ k, row (t.port p).refresh k
        = if k = c ∧ row x.holding k = false ∧ x.holdsAt k occupancy = true then 0 else row x.refresh k)
    ∧ { t.port p with queues := x.queues, holding := x.holding, pauseOwed := x.pauseOwed, refresh := x.refresh } = x
    ∧ (∀ q, q ≠ p → t.port q = s.port q) ∧ { t with ports := s.ports } = s

/-- A management fault has been recorded (R172, R178): its entry at the tail of the list, from which the oldest left if four
stood there, and MGMT_FAULT raised with the fault kind's code. -/
def withFault (kind : FaultKind) (code : BitVec 16) (tag : Option Byte) (s : State) : State :=
  raiseEvent .mgmtFault .part code
    { s with faultList := (if s.faultList.length < 4 then s.faultList else s.faultList.tail)
        ++ [{ kind := kind, tag := tag, requestCount := s.requestCount }] }

/-- An association but for corrupt-one, which any DATA grant may clear (R99). -/
def Assoc.sans (x : Assoc) : Assoc := { x with corruptOne := false }

/-- One more switch done (R62, R157). -/
def Assoc.withSwitchDone (x : Assoc) : Assoc :=
  { x with counters := updRow x.counters AssocCounter.switchesDone.index (addCount · 1) }

/-- No entry of a transform sequence carries the inhibit-discard mark (R97). -/
def Unmarked (x : Port) : Prop := ∀ e ∈ x.sequence, e.inhibitDiscard = false

/-- A slot after an entry recorded against it has left (R76, R78). -/
def Slot.released (x : Slot) : Slot :=
  if x.state = .draining ∧ x.inFlight ≤ 1 then Slot.empty else { x with inFlight := x.inFlight - 1 }

/-- An event kind and source stand in the event list (R174). -/
def Listed (kind : EventKind) (source : EventSource) (s : State) : Prop :=
  ∃ e ∈ s.events, e.kind = kind ∧ e.source = source

/-- The event list can take a new entry of every kind (R175). -/
def EventsOpen (s : State) : Prop := s.eventMask = BitVec.allOnes 21 ∧ s.events.length < 32

/-! ### How a switch begins, and what a trigger does -/

/-- The record with switch pending and switch due cleared (R133). -/
def Assoc.unflagged (x : Assoc) : Assoc := { x with switchPending := false, switchDue := false, pendingKind := none }

/-- The cut-over of R157 has been made to a slot at the beginning of a switch (R137): the record, the two slots, the event.
Corrupt-one is left out, since a grant of the same step may spend it (R99). -/
def CutOver (a : Anum) (k : SlotNum) (s t : State) : Prop :=
  (t.assoc a).sans = ((s.assoc a).unflagged.switched k (s.slot k).epoch).withSwitchDone.sans
    ∧ (∀ b, b ≠ a → (t.assoc b).sans = (s.assoc b).sans)
    ∧ t.slot k = { s.slot k with state := .active }
    ∧ (∀ j, (s.assoc a).current = some j → t.slot j = (s.slot j).outgoing
      ∧ ((s.slot j).inFlight = 0 → EventsOpen s → Listed .keyRetired (.slot j) t))
    ∧ (∀ j, j ≠ k → (s.assoc a).current ≠ some j → t.slot j = s.slot j)
    ∧ (EventsOpen s → Listed .switchDone (.assoc a) t)
    ∧ ∀ p, (t.port p).controlQueue = (s.port p).controlQueue

/-- A switch has begun (R133): under CONFIRMED attempt 1 is QUEUED and its notice waits (R136), under UNILATERAL the
association has cut over to its next slot (R137). -/
def SwitchBegun (a : Anum) (s t : State) : Prop :=
  let x := s.assoc a
  (x.confirmPolicy = .confirmed →
    (t.assoc a).sans = (x.announced (s.port x.port).firstStep).sans ∧ (∀ b, b ≠ a → (t.assoc b).sans = (s.assoc b).sans)
    ∧ (∀ p, (t.port p).controlQueue
        = if p = x.port then (s.port p).controlQueue ++ [a] else (s.port p).controlQueue)
    ∧ t.slots = s.slots ∧ t.events = s.events)
  ∧ ∀ k, x.confirmPolicy = .unilateral → x.next = some k → x.current ≠ some k → CutOver a k s t

/-- What a trigger of a kind does by the table of R130, from the state in which it reaches its association: ignored outside
RUNNING, EXHAUSTED and SUSPENDED and while an exchange runs; under MANUAL switch due, with SWITCH_DUE when it was clear; under
AUTO the switch begins if it can start (R131), else switch pending with the kind of the trigger that set it, and KEY_WANTED
when it was clear and the next slot is not READY. -/
def TriggerOutcome (kind : TriggerKind) (detail : BitVec 16) (a : Anum) (s t : State) : Prop :=
  let x := s.assoc a
  let acts : Prop := (x.state = .running ∨ x.state = .exhausted ∨ x.state = .suspended) ∧ x.attempt = none
  let starts : Prop := SwitchCanStart s a (s.port x.port).mode s.inhibit
  let only (y : Assoc) (u : State) : Prop := (t.assoc a).sans = y.sans
    ∧ (∀ b, b ≠ a → (t.assoc b).sans = (s.assoc b).sans) ∧ t.slots = s.slots ∧ t.events = u.events
    ∧ ∀ p, (t.port p).controlQueue = (s.port p).controlQueue
  (¬acts → only x s)
  ∧ (acts → x.triggerPolicy = .manual →
      only { x with switchDue := true } (if x.switchDue then s else raiseEvent .switchDue (.assoc a) detail s))
  ∧ (acts → x.triggerPolicy = .auto → starts → SwitchBegun a s t)
  ∧ (acts → x.triggerPolicy = .auto → ¬starts → x.switchPending = true → only x s)
  ∧ (acts → x.triggerPolicy = .auto → ¬starts → x.switchPending = false →
      only { x with switchPending := true, pendingKind := some kind }
        (if s.nextReady a then s else raiseEvent .keyWanted (.assoc a) detail s))

/-! ### Entries and records that leave unsent -/

/-- The frames in a port's class queues, which a flush removes and counts (R105). -/
def Port.queued (x : Port) : Nat :=
  (row x.queues 0).length + (row x.queues 1).length + (row x.queues 2).length + (row x.queues 3).length

/-- The class queues of a port have been flushed (R105): each that held a frame has its holding indication evaluated at
occupancy 0, which ends it; a change owes a pause frame, and restarts the refresh count of a class that now holds (R111, R112). -/
def QueuesFlushed (x y : Port) : Prop :=
  (∀ k, row y.queues k = [])
    ∧ (∀ k, row y.holding k = if row x.queues k = [] then row x.holding k else x.holdsAt k 0)
    ∧ (y.pauseOwed = true ↔ x.pauseOwed = true ∨ ∃ k, row y.holding k ≠ row x.holding k)
    ∧ ∀ k, row y.refresh k = if row x.holding k = false ∧ row y.holding k = true then 0 else row x.refresh k

/-- The class queues of a port stand, and so does what follows their occupancy. -/
def QueuesKept (x y : Port) : Prop :=
  y.queues = x.queues ∧ y.holding = x.holding ∧ y.pauseOwed = x.pauseOwed ∧ y.refresh = x.refresh

/-- An entry that leaves the head of a sequence as an inhibit drop: DONE, and marked (R97, R98) or in OFF under inhibit
(R7). -/
def Port.inhibitDrop (x : Port) (inhibit : InhibitState) (e : Entry) : Bool :=
  e.status == .done && (e.inhibitDiscard || x.mode == .off && inhibit == .asserted)

/-- An entry that leaves the head of a sequence as a link-down flush: DONE with the link not UP, in OFF (R7) or under FLUSH
(R16), when it is no inhibit drop. -/
def Port.linkDrop (x : Port) (inhibit : InhibitState) (e : Entry) : Bool :=
  e.status == .done && !x.inhibitDrop inhibit e && x.link != .up
    && (x.mode == .off || x.settings.linkDownPolicy == .flush)

/-- An entry that leaves the head of a sequence unsent (R98). -/
def Port.unsent (x : Port) (inhibit : InhibitState) (e : Entry) : Bool := x.inhibitDrop inhibit e || x.linkDrop inhibit e

/-- A counter after a number of drops: it stops at the top value (R180). -/
def drops (counter n : Nat) : Nat := if n = 0 then counter else min (counter + n) Config.counterMax

/-- The link-down flush is in force on a port whose mode, link and inhibit state are as given (R109). -/
def Port.flushes (x : Port) (inhibit : InhibitState) : Prop :=
  x.mode = .protect ∧ x.settings.linkDownPolicy = .flush ∧ x.link ≠ .up ∧ inhibit = .released

/-- The unsent heads of a sequence have left a port, each counted by its kind, beside the drops already counted on the link-down
flush and inhibit drop counters; `x` is the port as it stands when they leave (R98, R105). -/
def HeadsLeft (x : Port) (inhibit : InhibitState) (linkDrops inhibitDrops : Nat) (y : Port) : Prop :=
  y.sequence = x.sequence.dropWhile (x.unsent inhibit)
    ∧ row y.counters PortCounter.linkDownFlush.index = drops (row x.counters PortCounter.linkDownFlush.index)
        (linkDrops + ((x.sequence.takeWhile (x.unsent inhibit)).countP (x.linkDrop inhibit)))
    ∧ row y.counters PortCounter.inhibitDrops.index = drops (row x.counters PortCounter.inhibitDrops.index)
        (inhibitDrops + ((x.sequence.takeWhile (x.unsent inhibit)).countP (x.inhibitDrop inhibit)))

/-- Every counter of a port but those listed stands as it stood. -/
def SameCountersBut (moved : List PortCounter) (x y : Port) : Prop :=
  ∀ c : PortCounter, c ∉ moved → row y.counters c.index = row x.counters c.index

/-- A port but for its class queues and their indications, its sequence, its control queue, its inbox and its counters. -/
def Port.core (x : Port) : Port :=
  { x with
    queues := Vector.replicate 4 [], holding := Vector.replicate 4 false, refresh := Vector.replicate 4 0
    pauseOwed := false, sequence := [], controlQueue := [], inbox := [], counters := Vector.replicate 32 0 }

/-- Slots that no entry has left, and that are not exempted, stand as they stood (R76). -/
def SlotsStandBut (moved : SlotNum → Prop) (s t : State) : Prop :=
  ∀ k, ¬moved k → entriesAgainst t k = entriesAgainst s k → t.slot k = s.slot k

end Sys2Proof.Machine
end

