-- ==== Sys2Proof/Certificates/Slice0/Obligations.lean ====
section
/-! DEFINITION. The statements for the provers, each formalising rules of spec/ (named in its docstring). -/

section Statements

open Sys2Proof Sys2Proof.Machine

/-! ## The queue, the clock and the resets -/

/-- Commands act one at a time, first in first out: a step is the effect of the command at the front of the queue on the
state with the queue's rest (the queue is the model's own, assumption 1). -/
def Obligations.StepRunsFrontCommand : Prop :=
  ∀ (c : Instr) (rest : List Instr) (s : State), s.pending = c :: rest → step s = exec c { s with pending := rest }

/-- With no command waiting, a step is one cycle of the reference clock (R124; the model's choice, assumption 16): the clock
count rises, at 131071 the fine pulse is given, and in reset nothing happens. A self-test that is due at its 32nd fine pulse
ends before the clock counts on, with some result (R184; which one is the model's open value, assumption 9). -/
def Obligations.IdleStepIsOneClock : Prop :=
  ∀ s : State, s.pending = [] →
    (s.pins.resetLow = true → step s = .next s)
    ∧ (s.pins.resetLow = false → ¬(s.partState = .testing ∧ s.fineCount = 32) →
      (s.clockCount < 131071 → step s = .next { s with clockCount := s.clockCount + 1 })
      ∧ (131071 ≤ s.clockCount → step s = exec (.finePulse none) s))
    ∧ (s.pins.resetLow = false → s.partState = .testing → s.fineCount = 32 → ∃ (r : SelfTestResult) (t : State),
      exec (.selftestComplete r) s = .next t ∧ t.partState ≠ .testing
      ∧ step s = step { t with openSelfTests := s.openSelfTests + 1 })

/-- The values that the spec gives after reset: port settings (R1), mode (R4), link (R14), flow settings (R106), retry steps
(R138), steering entries (R24), associations (R41), key store (R67), events (R174), management line (R173); and every
invariant that the statements use holds right after reset. -/
def Obligations.ResetValues : Prop :=
  (∀ p, let x := State.reset.port p
    x.settings.portAddress = 0 ∧ x.settings.peerAddress = 0 ∧ x.settings.frameCeiling = 1518
    ∧ x.settings.clpType = 0x89C4 ∧ x.settings.classMap = #v[0, 0, 1, 1, 2, 2, 3, 3] ∧ x.settings.untaggedClass = 0
    ∧ x.settings.defaultAction = .drop ∧ x.settings.settle = 10 ∧ x.settings.linkDownPolicy = .hold
    ∧ x.settings.inhibitAction = .hold ∧ x.mode = .off ∧ x.link = .down ∧ x.firstStep = 3 ∧ x.lastStep = 7
    ∧ x.flow.pauseEnable = true ∧ x.flow.ceiling = #v[512, 512, 512, 512] ∧ x.flow.upper = #v[384, 384, 384, 384]
    ∧ x.flow.lower = #v[256, 256, 256, 256] ∧ x.flow.quanta = 65535)
  ∧ (∀ i, (State.reset.entry i).valid = false ∧ (State.reset.entry i).locked = false ∧ (State.reset.entry i).hits = 0)
  ∧ (∀ a, let x := State.reset.assoc a
      x.state = .idle ∧ x.current = none ∧ x.next = none ∧ x.nextPn = 1 ∧ x.switchMark = 1 ∧ x.stopMark = 2
      ∧ x.triggerPolicy = .auto ∧ x.confirmPolicy = .confirmed ∧ x.floorCurrent = 0 ∧ x.floorNext = 0
      ∧ x.attempt = none)
  ∧ (∀ k, (State.reset.slot k).state = .empty ∧ (State.reset.slot k).owner = none ∧ (State.reset.slot k).inFlight = 0)
  ∧ State.reset.transportKey = none ∧ State.reset.scrubPointer = 0 ∧ State.reset.events = []
  ∧ State.reset.eventsLost = false ∧ State.reset.receiver = .hunt ∧ State.reset.replyOwed = none
  ∧ State.reset.busyOwed = none ∧ State.reset.requestCount = 0 ∧ State.reset.partState = .testing
  ∧ EventsOk State.reset ∧ FaultListOk State.reset ∧ CountersOk State.reset ∧ CountsOk State.reset ∧ PortsOk State.reset
  ∧ HeldOff State.reset ∧ AssocsOk State.reset ∧ SlotsOk State.reset ∧ SlotsBound State.reset ∧ InFlightOk State.reset
  ∧ NumbersOk State.reset ∧ LanesOk State.reset ∧ ControlQueuesOk State.reset

/-- POWER_ON, and PIN_RESET_RELEASE with the same effect: the straps are latched, the hardware fault record and the divider
are cleared, every lane is in service, the part is TESTING, and everything else takes its reset value (R183); links reported
good settle (R14), and INHIBIT_N low shows as INHIBIT_ON (R187). That a link left DOWN has settle remaining 0 is the model's
choice (assumption 3), and so is its own count of self-tests, which a reset keeps (assumption 9). -/
def Obligations.PowerOnAndPinReset : Prop :=
  (∀ (pins : PowerOnPins) (s : State), ∃ t, exec (.powerOn pins) s = .next t
    ∧ t.pending = s.pending ∧ t.openSelfTests = s.openSelfTests
    ∧ t.pins = { resetLow := false, inhibitLow := pins.inhibitLow, campusLink := pins.campusLink,
                 rackLink := pins.rackLink }
    ∧ t.straps = { rate := pins.rate, clear := pins.clear } ∧ t.partState = .testing
    ∧ t.clockCount = 0 ∧ t.fineCount = 0 ∧ t.hwFaults = HwFaults.cleared ∧ (∀ l, t.lane l = .idle)
    ∧ (∀ p, t.port p = portAfterReset (row pins.campusLink p)) ∧ (∀ i, t.entry i = SteerEntry.reset)
    ∧ (∀ a, t.assoc a = Assoc.reset) ∧ (∀ k, t.slot k = Slot.empty) ∧ t.transportKey = none ∧ t.expansionFifo = []
    ∧ t.scrubPointer = 0 ∧ t.verifyQueue = [] ∧ t.roundRobin = 0 ∧ t.eventsLost = false
    ∧ t.eventMask = BitVec.allOnes 21 ∧ t.faultList = [] ∧ t.receiver = .hunt ∧ t.requestInbox = none
    ∧ t.requestCount = 0 ∧ t.replyOwed = none ∧ t.busyOwed = none
    ∧ t.inhibit = (if pins.inhibitLow then .asserted else .released)
    ∧ t.events = (if pins.inhibitLow then [{ kind := .inhibitOn, source := .part, count := 1, detail := 0 }] else []))
  ∧ ∀ (rate : Fin 4) (clear : Bool) (s : State), s.pins.resetLow = true →
      exec (.pinResetRelease rate clear) s
        = exec (.powerOn
            { rate := rate, clear := clear, inhibitLow := s.pins.inhibitLow, campusLink := s.pins.campusLink,
              rackLink := s.pins.rackLink }) s

/-- PIN_RESET_ASSERT cuts off what the part is sending, and while RESET_N is low every command but the two that end the
reset changes nothing but the levels of pins; the part sends nothing, and ALERT_N is high (R183; what is reset only at the
release is the model's choice, assumption 15). -/
def Obligations.PinResetHoldsThePart : Prop :=
  (∀ s : State, s.pins.resetLow = false → ∃ t, exec .pinResetAssert s = .next t
    ∧ t.pins = { s.pins with resetLow := true }
    ∧ (∀ p, t.port p = { s.port p with campusTx := none, rackTx := none })
    ∧ t.replyOwed = none ∧ t.busyOwed = none ∧ t.sending = none ∧ t.alertHigh = true
    ∧ { t with pins := s.pins, ports := s.ports, replyOwed := s.replyOwed, busyOwed := s.busyOwed } = s)
  ∧ ∀ (c : Instr) (s : State), s.pins.resetLow = true → c ≠ .pinResetAssert → (∀ pins, c ≠ .powerOn pins) →
      (∀ rate clear, c ≠ .pinResetRelease rate clear) →
      ∃ t, exec c s = .next t ∧ { t with pins := s.pins } = s ∧ t.pins.resetLow = true

/-- SELFTEST_COMPLETE at the 32nd fine pulse: failed lanes go OUT_OF_SERVICE, the hardware fault record takes the failures,
SELFTEST_FAULT is raised once for each failed unit in the order of R184 (later ones merging into the first), and the part
is HALTED if the key store or all six lanes failed, else RUNNING (R184). At any other count, and outside TESTING, it is
refused; and a FINE_PULSE that finds the self-test due first ends it with some result. That the end is a command of its own
at the moment of the 32nd pulse, that the fine count shows this moment, and the open result are the model's (assumption
9). -/
def Obligations.SelfTestEnds : Prop :=
  ∀ (r : SelfTestResult) (s : State), s.pins.resetLow = false →
    (s.partState = .testing → s.fineCount = 32 →
      (∃ t, exec (.selftestComplete r) s = .next t
      ∧ (∀ l, t.lane l = if row r.lanes l then .outOfService else s.lane l)
      ∧ (∀ l, row t.hwFaults.lanesFailed l = (row r.lanes l || row s.hwFaults.lanesFailed l))
      ∧ t.hwFaults.keyStore = (r.keyStore || s.hwFaults.keyStore)
      ∧ (∀ p, row t.hwFaults.buffers p = (row r.buffers p || row s.hwFaults.buffers p))
      ∧ t.hwFaults.scrubFaults = s.hwFaults.scrubFaults
      ∧ (t.partState = .halted ↔ r.keyStore = true ∨ ∀ l, row r.lanes l = true)
      ∧ (t.partState = .halted ∨ t.partState = .running)
      ∧ (s.events = [] → s.eventMask = BitVec.allOnes 21 → t.events = match failedUnits r with
          | [] => []
          | d :: ds => [{ kind := .selftestFault, source := .part, count := ds.length + 1, detail := d }])
      ∧ { t with lanes := s.lanes, hwFaults := s.hwFaults, partState := s.partState, events := s.events,
                 eventsLost := s.eventsLost } = s)
      ∧ ∀ drift, ∃ (found : SelfTestResult) (t : State), exec (.selftestComplete found) s = .next t
        ∧ exec (.finePulse drift) s = exec (.finePulse drift) { t with openSelfTests := s.openSelfTests + 1 })
    ∧ ((s.partState ≠ .testing ∨ s.fineCount ≠ 32) → exec (.selftestComplete r) s = .refused .eventCannotOccur)

/-! ## The inhibit input -/

/-- INHIBIT_ASSERT: the state becomes ASSERTED and INHIBIT_ON is raised; DISCARD ports in PROTECT flush their class queues;
every DONE entry is marked, and DONE entries at the head leave at once; what is flushed and what leaves is counted as inhibit
drops; a flush ends holding and owes the pause frames of R112; every exchange is abandoned with SWITCH_ABORTED, detail INHIBIT
(R187, R97, R105, R111, R112, R156). -/
def Obligations.InhibitAsserts : Prop :=
  ∀ s : State, s.pins.resetLow = false → s.inhibit = .released → ∃ t, exec .inhibitAssert s = .next t
    ∧ t.inhibit = .asserted ∧ t.pins = { s.pins with inhibitLow := true }
    ∧ (s.eventMask.getLsbD 17 = true → (∀ e ∈ s.events, e.kind ≠ .inhibitOn) → s.events.length < 64 →
        { kind := .inhibitOn, source := .part, count := 1, detail := 0 } ∈ t.events)
    ∧ (∀ a, t.assoc a = if (s.assoc a).attempt = none then s.assoc a
        else { s.assoc a with attempt := none, state := if (s.assoc a).state = .switching then .running else (s.assoc a).state })
    ∧ (∀ a, (s.assoc a).attempt ≠ none → s.eventMask = BitVec.allOnes 21 →
        (∀ e ∈ s.events, ¬(e.kind = .switchAborted ∧ e.source = .assoc a)) →
        { kind := .switchAborted, source := .assoc a, count := 1, detail := 1 } ∈ t.events ∨ t.eventsLost = true)
    ∧ (∀ p, ((s.port p).mode = .protect ∧ (s.port p).settings.inhibitAction = .discard → QueuesFlushed (s.port p) (t.port p))
        ∧ (¬((s.port p).mode = .protect ∧ (s.port p).settings.inhibitAction = .discard) → QueuesKept (s.port p) (t.port p)))
    ∧ (∀ p, (t.port p).sequence = ((s.port p).sequence.dropWhile fun e => e.status == .done).map fun e =>
        if e.status = .done then { e with inhibitDiscard := true } else e)
    ∧ (∀ p, row (t.port p).counters PortCounter.inhibitDrops.index
        = drops (row (s.port p).counters PortCounter.inhibitDrops.index)
            ((if (s.port p).mode = .protect ∧ (s.port p).settings.inhibitAction = .discard then (s.port p).queued else 0)
              + ((s.port p).sequence.takeWhile fun e => e.status == .done).length)
        ∧ SameCountersBut [.inhibitDrops] (s.port p) (t.port p))
    ∧ (∀ p, (t.port p).controlQueue = (s.port p).controlQueue.filter fun a =>
        !((s.assoc a).port == p && (s.assoc a).attempt.isSome))
    ∧ (∀ p, { t.port p with queues := (s.port p).queues, holding := (s.port p).holding, refresh := (s.port p).refresh,
                            pauseOwed := (s.port p).pauseOwed, sequence := (s.port p).sequence,
                            controlQueue := (s.port p).controlQueue, counters := (s.port p).counters } = s.port p)
    ∧ (∀ k, entriesAgainst t k = entriesAgainst s k → t.slot k = s.slot k)
    ∧ { t with inhibit := s.inhibit, pins := s.pins, ports := s.ports, assocs := s.assocs, slots := s.slots,
               expansionFifo := s.expansionFifo, lanes := s.lanes, events := s.events, eventsLost := s.eventsLost } = s

/-- INHIBIT_RELEASE: the state becomes RELEASED and INHIBIT_OFF is raised first; every association under AUTO with switch
pending whose switch can now start begins it, by an exchange under CONFIRMED and by a cut-over under UNILATERAL, the others
stay as they are; ports in PROTECT under FLUSH whose link is not UP take the link-down flush; heads that are marked, or that
such a link or a port in OFF does not send, leave; all of it is counted, and nothing else of a port changes but its reply inbox,
which a verification withdrawn by a cut-over leaves; a flush ends holding and owes the pause frames of R112 (R188, R132, R133,
R157, R77, R109, R7, R16, R98, R105, R111, R112). -/
def Obligations.InhibitReleases : Prop :=
  ∀ s : State, Coherent s → s.pins.resetLow = false → s.inhibit = .asserted →
    let begins (a : Anum) : Prop := (s.assoc a).triggerPolicy = .auto ∧ (s.assoc a).switchPending = true
      ∧ SwitchCanStart s a (s.port (s.assoc a).port).mode .released
    ∃ t, exec .inhibitRelease s = .next t
    ∧ t.inhibit = .released ∧ t.pins = { s.pins with inhibitLow := false }
    ∧ (s.eventMask.getLsbD 18 = true → (∀ e ∈ s.events, e.kind ≠ .inhibitOff) → s.events.length < 64 →
        t.events[s.events.length]? = some { kind := .inhibitOff, source := .part, count := 1, detail := 0 })
    ∧ (∀ a, begins a → (s.assoc a).confirmPolicy = .confirmed →
        t.assoc a = (s.assoc a).announced (s.port (s.assoc a).port).firstStep)
    ∧ (∀ a k, begins a → (s.assoc a).confirmPolicy = .unilateral → (s.assoc a).next = some k →
        t.assoc a = ((s.assoc a).unflagged.switched k (s.slot k).epoch).withSwitchDone
        ∧ (entriesAgainst t k = entriesAgainst s k → t.slot k = { s.slot k with state := .active })
        ∧ (∀ j, (s.assoc a).current = some j → entriesAgainst t j = entriesAgainst s j → t.slot j = (s.slot j).outgoing)
        ∧ (s.eventMask = BitVec.allOnes 21 → Listed .switchDone (.assoc a) t ∨ t.eventsLost = true))
    ∧ (∀ a, ¬begins a → t.assoc a = s.assoc a)
    ∧ SlotsStandBut (fun k => ∃ a, begins a ∧ (s.assoc a).confirmPolicy = .unilateral
        ∧ ((s.assoc a).current = some k ∨ (s.assoc a).next = some k)) s t
    ∧ (∀ p, (s.port p).controlQueue <+: (t.port p).controlQueue ∧ (t.port p).controlQueue.Nodup
        ∧ ∀ a, a ∈ (t.port p).controlQueue ↔ a ∈ (s.port p).controlQueue
          ∨ begins a ∧ (s.assoc a).confirmPolicy = .confirmed ∧ (s.assoc a).port = p)
    ∧ (∀ p, ((s.port p).flushes .released → QueuesFlushed (s.port p) (t.port p)
          ∧ HeadsLeft (s.port p) .released (s.port p).queued 0 (t.port p))
        ∧ (¬(s.port p).flushes .released → QueuesKept (s.port p) (t.port p)
          ∧ HeadsLeft (s.port p) .released 0 0 (t.port p))
        ∧ SameCountersBut [.linkDownFlush, .inhibitDrops, .staleReplies] (s.port p) (t.port p)
        ∧ (t.port p).core = (s.port p).core)
    ∧ t.steering = s.steering ∧ t.transportKey = s.transportKey ∧ t.partState = s.partState ∧ t.faultList = s.faultList

/-! ## Pulses and quanta -/

/-- FINE_PULSE: the clock count wraps and the fine count advances; link settling, attempt timers, the gap limit, the scrub
pointer and FINE lifetimes each count one (R124, R14, R80, R143, R164, R127). COARSE_PULSE is the fine pulse at which the
fine count wraps, and COARSE lifetimes count it. That FINE_PULSE clears the clock count whatever it stands at is the model's
choice (assumption 16), and that COARSE_PULSE at 1023 is that fine pulse the model's reading (assumption 20). The self-test is
not due here; SelfTestEnds says what a FINE_PULSE does then. -/
def Obligations.FinePulseReachesItsUsers : Prop :=
  (∀ s : State, s.pins.resetLow = false → ¬(s.partState = .testing ∧ s.fineCount = 32) →
    ∃ t, exec (.finePulse none) s = .next t
    ∧ t.clockCount = 0 ∧ t.fineCount = (s.fineCount + 1) % 1024 ∧ t.scrubPointer = s.scrubPointer + 1
    ∧ (∀ p, (s.port p).link = .settling → (s.port p).settleRemaining ≤ 1 → (t.port p).link = .up)
    ∧ (∀ p, (s.port p).link = .settling → 1 < (s.port p).settleRemaining →
        (t.port p).link = .settling ∧ (t.port p).settleRemaining = (s.port p).settleRemaining - 1)
    ∧ (∀ p, (s.port p).link ≠ .settling → (t.port p).link = (s.port p).link)
    ∧ (s.receiver = .hunt → t.receiver = .hunt)
    ∧ (∀ got gap, s.receiver = .record got gap → 1 < gap → t.receiver = .record got (gap - 1))
    ∧ (∀ got gap, s.receiver = .record got gap → gap ≤ 1 → t.receiver = .hunt)
    ∧ (ScrubPasses s →
        (∀ a x, (s.assoc a).attempt = some x → x.status = .issued → 1 < x.pulses →
          (t.assoc a).attempt = some { x with pulses := x.pulses - 1 })
        ∧ (∀ a x, (s.assoc a).attempt = some x → x.status = .queued → (t.assoc a).attempt = some x)
        ∧ (∀ a, (s.assoc a).lifetimeScale = .fine → (s.assoc a).state.inService = true → 0 < (s.assoc a).lifetimeReload →
          1 < (s.assoc a).lifetimeRemaining → (t.assoc a).lifetimeRemaining = (s.assoc a).lifetimeRemaining - 1)
        ∧ (∀ a, (s.assoc a).lifetimeScale = .coarse → (s.assoc a).state.inService = true →
          0 < (s.assoc a).lifetimeReload → 1 < (s.assoc a).lifetimeRemaining → (t.assoc a).lifetimeRemaining
            = (s.assoc a).lifetimeRemaining - (if (s.fineCount + 1) % 1024 = 0 then 1 else 0)))
    ∧ t.steering = s.steering ∧ t.transportKey = s.transportKey ∧ t.partState = s.partState ∧ t.inhibit = s.inhibit
    ∧ t.pins = s.pins ∧ t.replyOwed = s.replyOwed ∧ t.busyOwed = s.busyOwed)
  ∧ ∀ (d : Option KeyDrift) (s : State), s.pins.resetLow = false → s.fineCount = 1023 →
      exec (.coarsePulse d) s = exec (.finePulse d) s ∧ ∃ t, exec (.coarsePulse d) s = .next t ∧ t.fineCount = 0

/-- A slot whose integrity code does not match is put in FAULTED and zeroised, with epoch, key size and check value kept;
the scrub fault count rises; entries recorded against it leave unless they are IN_LANE; an association that had it as
current slot is FAULTED, one that had it as next slot loses it and its exchange; each entry that leaves is an association-state
drop; SCRUB_FAULT with the slot's state as detail, ASSOC_FAULTED, SWITCH_ABORTED with the key that was lost, and under AUTO with
switch pending KEY_WANTED with the pending kind are raised (R80, R81, R82, R58, R59, R134, R156). -/
def Obligations.ScrubFailureTakesTheSlot : Prop :=
  ∀ s : State, SlotsBound s → s.pins.resetLow = false → s.partState ≠ .testing →
    (s.slot s.scrubPointer).state.scrubbed = true →
    Config.integrityCode (s.slot s.scrubPointer).key (s.slot s.scrubPointer).salt (s.slot s.scrubPointer).expandedKey
      ≠ (s.slot s.scrubPointer).integrityCode →
    ∃ t, exec (.finePulse none) s = .next t
    ∧ { t.slot s.scrubPointer with inFlight := 0 }
      = { s.slot s.scrubPointer with
          state := .faulted, owner := none, key := List.replicate (s.slot s.scrubPointer).key.length 0, salt := 0,
          expandedKey := [], integrityCode := 0, inFlight := 0 }
    ∧ t.hwFaults = { s.hwFaults with scrubFaults := min (s.hwFaults.scrubFaults + 1) 255 }
    ∧ (∀ p, ∀ e ∈ (t.port p).sequence, e.slot? = some s.scrubPointer → e.status.isInLane = true)
    ∧ (∀ p, row (t.port p).counters PortCounter.assocStateDrops.index
        = drops (row (s.port p).counters PortCounter.assocStateDrops.index)
            ((s.port p).sequence.countP fun e => e.slot? == some s.scrubPointer && !e.status.isInLane))
    ∧ (s.events = [] → s.eventMask = BitVec.allOnes 21 → (∀ p, (s.port p).sequence.length ≤ 4) →
        let raised (kind : EventKind) (source : EventSource) (detail : BitVec 16) : Prop :=
          { kind := kind, source := source, count := 1, detail := detail } ∈ t.events
        raised .scrubFault (.slot s.scrubPointer)
          (if (s.slot s.scrubPointer).state = .ready then 0 else if (s.slot s.scrubPointer).state = .active then 1 else 2)
        ∧ (∀ a, (s.assoc a).current = some s.scrubPointer → raised .assocFaulted (.assoc a) 0
          ∧ ((s.assoc a).attempt ≠ none → raised .switchAborted (.assoc a) 3))
        ∧ ∀ a, (s.assoc a).next = some s.scrubPointer →
          ((s.assoc a).attempt ≠ none → raised .switchAborted (.assoc a) 4)
          ∧ ∀ kind, (s.assoc a).triggerPolicy = .auto → (s.assoc a).switchPending = true →
            (s.assoc a).pendingKind = some kind →
            raised .keyWanted (.assoc a) (match kind with | .mark => 0 | .expiry => 1 | .request => 2))
    ∧ (∀ a, (s.assoc a).current = some s.scrubPointer →
        (t.assoc a).state = .faulted ∧ (t.assoc a).current = none ∧ (t.assoc a).attempt = none
        ∧ (t.assoc a).switchPending = false ∧ (t.assoc a).switchDue = false ∧ (t.assoc a).nextPn = (s.assoc a).nextPn)
    ∧ (∀ a, (s.assoc a).next = some s.scrubPointer →
        (t.assoc a).next = none ∧ (t.assoc a).attempt = none ∧ (t.assoc a).current = (s.assoc a).current
        ∧ (t.assoc a).nextPn = (s.assoc a).nextPn)

/-- LIFETIME_EXPIRY hands an EXPIRY trigger (R127), and the trigger acts by the table of R130: ignored while an exchange
runs; under MANUAL switch due with SWITCH_DUE when it was clear; under AUTO the switch begins if it can start (R131, R133), by
an exchange under CONFIRMED (R136) and by a cut-over under UNILATERAL (R137), else switch pending, with KEY_WANTED when it was
clear and the next slot is not READY. That the command hands the pulse to this lifetime alone is the model's reading
(assumption 19). -/
def Obligations.ExpiryTriggerFollowsTheTable : Prop :=
  ∀ (a : Anum) (s : State),
    let x := s.assoc a
    let s1 := s.updAssoc a fun y => { y with lifetimeRemaining := 0 }
    s.pins.resetLow = false → x.state.inService = true → 0 < x.lifetimeReload → x.lifetimeRemaining ≤ 1 →
    (x.attempt ≠ none → exec (.lifetimeExpiry a) s = .next s1)
    ∧ (x.attempt = none → x.state ≠ .switching → x.triggerPolicy = .manual → x.switchDue = true →
        exec (.lifetimeExpiry a) s = .next s1)
    ∧ (x.attempt = none → x.state ≠ .switching → x.triggerPolicy = .manual → x.switchDue = false →
        exec (.lifetimeExpiry a) s
          = .next (raiseEvent .switchDue (.assoc a) 1 (s1.updAssoc a fun y => { y with switchDue := true })))
    ∧ (x.attempt = none → x.state ≠ .switching → x.triggerPolicy = .auto →
        ¬SwitchCanStart s a (s.port x.port).mode s.inhibit → x.switchPending = true →
        exec (.lifetimeExpiry a) s = .next s1)
    ∧ (x.attempt = none → x.state ≠ .switching → x.triggerPolicy = .auto →
        ¬SwitchCanStart s a (s.port x.port).mode s.inhibit → x.switchPending = false → s.nextReady a = true →
        exec (.lifetimeExpiry a) s
          = .next (s1.updAssoc a fun y => { y with switchPending := true, pendingKind := some .expiry }))
    ∧ (x.attempt = none → x.state ≠ .switching → x.triggerPolicy = .auto → x.switchPending = false →
        s.nextReady a = false →
        exec (.lifetimeExpiry a) s = .next (raiseEvent .keyWanted (.assoc a) 1
          (s1.updAssoc a fun y => { y with switchPending := true, pendingKind := some .expiry })))
    ∧ (x.triggerPolicy = .auto → x.confirmPolicy = .confirmed → SwitchCanStart s a (s.port x.port).mode s.inhibit →
        ∃ t, exec (.lifetimeExpiry a) s = .next t
        ∧ t.assoc a = { x with lifetimeRemaining := 0 }.announced (s.port x.port).firstStep
        ∧ t.port x.port = { s.port x.port with controlQueue := (s.port x.port).controlQueue ++ [a] }
        ∧ { t with ports := s.ports, assocs := s.assocs } = s
        ∧ (∀ b, b ≠ a → t.assoc b = s.assoc b) ∧ ∀ p, p ≠ x.port → t.port p = s.port p)
    ∧ (∀ k, x.triggerPolicy = .auto → x.confirmPolicy = .unilateral →
        SwitchCanStart s a (s.port x.port).mode s.inhibit → x.next = some k → x.current ≠ some k →
        ∃ t, exec (.lifetimeExpiry a) s = .next t ∧ CutOver a k s1 t
        ∧ (∀ b, (t.assoc b).corruptOne = (s.assoc b).corruptOne)
        ∧ ∀ p, (t.port p).sequence = (s.port p).sequence ∧ (t.port p).queues = (s.port p).queues)

/-- ATTEMPT_TIMEOUT: below the port's last step the next attempt begins at the next step and its notice is queued; at the
last step, or above it, the exchange gives up with SWITCH_FAILED, detail TIMEOUT (R144, R155). That the command hands the
pulse which ends the attempt to this attempt alone, while the divider and everything else stand, is the model's reading
(assumption 19). -/
def Obligations.AttemptTimesOut : Prop :=
  ∀ (a : Anum) (x : Attempt) (s : State), s.pins.resetLow = false → (s.assoc a).attempt = some x → x.status = .issued →
    x.pulses ≤ 1 →
    (x.step < (s.port (s.assoc a).port).lastStep →
      let following : Attempt :=
        { number := x.number + 1, step := x.step + 1, pulses := 2 ^ (x.step + 1), status := .queued }
      exec (.attemptTimeout a) s = .next ((s.updAssoc a fun y => { y with attempt := some following }).updPort
        (s.assoc a).port fun y => { y with controlQueue := y.controlQueue ++ [a] }))
    ∧ ((s.port (s.assoc a).port).lastStep ≤ x.step → ∃ t,
        exec (.attemptTimeout a) s = .next t
        ∧ t.assoc a = { s.assoc a with
            attempt := none
            state := if (s.assoc a).state = .switching then .running else (s.assoc a).state
            counters := updRow (s.assoc a).counters AssocCounter.giveUps.index (addCount · 1) }
        ∧ (∀ b, b ≠ a → t.assoc b = s.assoc b)
        ∧ t.ports = (s.updPort (s.assoc a).port fun y =>
            { y with controlQueue := y.controlQueue.filter (· != a) }).ports
        ∧ t.events = (raiseEvent .switchFailed (.assoc a) 0 s).events
        ∧ { t with ports := s.ports, assocs := s.assocs, events := s.events, eventsLost := s.eventsLost } = s)

/-- QUANTUM_TICK: campus and rack pause times above 0 fall by 1; the refresh count of a holding class rises to its
interval ⌊Q/2⌋, at least 1, and reaching it owes a pause frame if a priority maps to the class (R112, R118, R122). The
commands that the table names for one count of a quantum do the same to that count alone when it is the one that ends (the
model's reading, assumption 19). -/
def Obligations.QuantumTicks : Prop :=
  (∀ s : State, s.pins.resetLow = false → ∃ t, exec .quantumTick s = .next t ∧ { t with ports := s.ports } = s
    ∧ ∀ p, let x := s.port p
      let interval := max 1 (x.flow.quanta / 2)
      (∀ q, row (t.port p).campusPause q = row x.campusPause q - 1)
      ∧ (∀ q, row (t.port p).rackPause q = row x.rackPause q - 1)
      ∧ (∀ k, row (t.port p).refresh k
          = if row x.holding k = true ∧ row x.refresh k < interval then row x.refresh k + 1 else row x.refresh k)
      ∧ ((t.port p).pauseOwed = true ↔ x.pauseOwed = true ∨ ∃ k, row x.holding k = true ∧ row x.refresh k + 1 = interval
          ∧ ∃ q, row x.settings.classMap q = k)
      ∧ { t.port p with campusPause := x.campusPause, rackPause := x.rackPause, refresh := x.refresh,
                        pauseOwed := x.pauseOwed } = x)
  ∧ ∀ (p : PortNum) (k : ClassNum) (q : Prio) (s : State), s.pins.resetLow = false →
    (row (s.port p).holding k = true → row (s.port p).refresh k + 1 = max 1 ((s.port p).flow.quanta / 2) →
      (∃ r, row (s.port p).settings.classMap r = k) →
      exec (.pauseRefreshDue p k) s = .next (s.updPort p fun x =>
        { x with refresh := setRow x.refresh k (max 1 (x.flow.quanta / 2)), pauseOwed := true }))
    ∧ (row (s.port p).campusPause q = 1 → exec (.campusPauseEnd p q) s
        = .next (s.updPort p fun x => { x with campusPause := setRow x.campusPause q 0 }))
    ∧ (row (s.port p).rackPause q = 1 → exec (.rackPauseEnd p q) s
        = .next (s.updPort p fun x => { x with rackPause := setRow x.rackPause q 0 }))

/-! ## Links -/

/-- LINK_GOOD starts settling with the settle value, LINK_SETTLED enters UP and raises LINK_UP, and LINK_LOST enters DOWN,
raises LINK_DOWN only from UP, clears the campus pauses and cuts off a frame in transmission, which counts as a link-down
flush (R14, R15, R118); the class queues stay under HOLD, and are flushed under FLUSH in PROTECT unless inhibited (R16, R109);
the DONE heads leave under FLUSH and in OFF as link-down flushes, in OFF under inhibit as inhibit drops, and marked ones
everywhere as inhibit drops (R7, R16, R98), each drop counted (R105). The rack link: lost, the R-side transmitter's frame is
cut off, an owed pause frame is owed again and a return frame is lost uncounted; good again, nothing else changes (R115). A
flush ends holding and owes the pause frames of R112 (R105, R111). That settle remaining keeps its value when a link is lost
is the model's choice (assumption 3). That LINK_SETTLED hands the pulse which ends the settling to this port alone, while the
divider stands, is the model's reading (assumption 19). -/
def Obligations.LinkChanges : Prop :=
  (∀ (p : PortNum) (s : State), s.pins.resetLow = false →
    ((s.port p).link = .down → exec (.linkGood p) s
      = .next ({ s with pins := { s.pins with campusLink := setRow s.pins.campusLink p true } }.updPort p fun x =>
          { x with link := .settling, settleRemaining := x.settings.settle }))
    ∧ ((s.port p).link = .settling → (s.port p).settleRemaining ≤ 1 → exec (.linkSettled p) s
      = .next (raiseEvent .linkUp (.port p) 0 (s.updPort p fun x => { x with link := .up, settleRemaining := 0 })))
    ∧ ((s.port p).link ≠ .down → ∃ t, exec (.linkLost p) s = .next t
      ∧ (t.port p).link = .down ∧ (t.port p).campusTx = none ∧ (∀ q, row (t.port p).campusPause q = 0)
      ∧ row t.pins.campusLink p = false
      ∧ ((s.port p).link = .up → s.events = [] → s.eventMask = BitVec.allOnes 21 →
          { kind := .linkDown, source := .port p, count := 1, detail := 0 } ∈ t.events)
      ∧ (let x : Port := { s.port p with link := .down }
         let cut := if (s.port p).campusTx = none then 0 else 1
         (x.flushes s.inhibit → QueuesFlushed x (t.port p) ∧ HeadsLeft x s.inhibit (cut + x.queued) 0 (t.port p))
         ∧ (¬x.flushes s.inhibit → QueuesKept x (t.port p) ∧ HeadsLeft x s.inhibit cut 0 (t.port p)))
      ∧ SameCountersBut [.linkDownFlush, .inhibitDrops] (s.port p) (t.port p)
      ∧ (t.port p).core
        = { s.port p with link := .down, campusTx := none, campusPause := Vector.replicate 8 0 }.core
      ∧ (t.port p).controlQueue = (s.port p).controlQueue ∧ (t.port p).inbox = (s.port p).inbox
      ∧ SlotsStandBut (fun _ => False) s t
      ∧ (∀ q, q ≠ p → t.port q = s.port q) ∧ t.assocs = s.assocs ∧ t.steering = s.steering))
  ∧ ∀ (p : PortNum) (s : State), s.pins.resetLow = false →
    (row s.pins.rackLink p = true → ∃ t, exec (.rackLinkLost p) s = .next t
      ∧ t.pins = { s.pins with rackLink := setRow s.pins.rackLink p false }
      ∧ t.port p = { s.port p with
          rackTx := none
          pauseOwed := (s.port p).pauseOwed || (match (s.port p).rackTx with | some (.pause _) => true | _ => false) }
      ∧ (∀ q, q ≠ p → t.port q = s.port q) ∧ { t with pins := s.pins, ports := s.ports } = s)
    ∧ (row s.pins.rackLink p = false → exec (.rackLinkGood p) s
      = .next { s with pins := { s.pins with rackLink := setRow s.pins.rackLink p true } })

/-! ## Frames received -/

/-- RSIDE_FRAME_RECEIVED: every frame is counted in; then the checks of R9 in order, each with its counter; a MAC control
frame writes the rack pause times (R122); under inhibit a DISCARD port drops the frame (R12). -/
def Obligations.RackFrameChecks : Prop :=
  ∀ (p : PortNum) (f : Bytes) (s : State), s.pins.resetLow = false → row s.pins.rackLink p = true →
    let x := s.port p
    let s1 := countedIn p f s
    (x.mode = .off → exec (.rsideFrameReceived p f) s = .next (bumpPort p .portOffDrops 1 s1))
    ∧ (x.mode = .protect → f.length < 64 → exec (.rsideFrameReceived p f) s = .next (bumpPort p .runtDrops 1 s1))
    ∧ (x.mode = .protect → 64 ≤ f.length → x.settings.frameCeiling < f.length →
        exec (.rsideFrameReceived p f) s = .next (bumpPort p .oversizeDrops 1 s1))
    ∧ (x.mode = .protect → 64 ≤ f.length → f.length ≤ x.settings.frameCeiling → fcsGood f = false →
        exec (.rsideFrameReceived p f) s = .next (bumpPort p .fcsDrops 1 s1))
    ∧ (x.mode = .protect → 64 ≤ f.length → f.length ≤ x.settings.frameCeiling → fcsGood f = true →
        frameTagged f = false → frameType f = 0x8808 →
        (be16At f 14 = 0x0001 → exec (.rsideFrameReceived p f) s = .next (s1.updPort p fun y =>
            { y with rackPause := Vector.replicate 8 (be16At f 16).toNat }))
        ∧ (be16At f 14 = 0x0101 → exec (.rsideFrameReceived p f) s = .next (s1.updPort p fun y =>
            { y with rackPause := Vector.ofFn fun q : Fin 8 =>
                if (be16At f 16).getLsbD q.val then (be16At f (18 + 2 * q.val)).toNat else row y.rackPause q }))
        ∧ (be16At f 14 ≠ 0x0001 → be16At f 14 ≠ 0x0101 → exec (.rsideFrameReceived p f) s = .next s1))
    ∧ (x.mode = .protect → 64 ≤ f.length → f.length ≤ x.settings.frameCeiling → fcsGood f = true →
        isMacControl f = false → s.inhibit = .asserted → x.settings.inhibitAction = .discard →
        exec (.rsideFrameReceived p f) s = .next (bumpPort p .inhibitDrops 1 s1))

/-- Steering: the lowest candidate decides, its hits rise, two or more candidates are an overlap; DROP and no-match are
counted and dropped; PASS is counted and handed over; PROTECT goes through the association checks of R31 in order, and a
kept frame is handed to the egress buffer with its class (R28 to R33). -/
def Obligations.SteeringDecides : Prop :=
  ∀ (p : PortNum) (f : Bytes) (s : State), AcceptedForSteering s p f →
    let x := s.port p
    let keep (cls : ClassNum) (outcome : Disposition) (t : State) : State :=
      admitFrame p { frame := f, cells := (f.length + 127) / 128, cls := cls, outcome := outcome } t
    let protect (a : Anum) (cls : ClassNum) (t : State) : State :=
      if (s.assoc a).state = .idle then bumpPort p .assocStateDrops 1 t
      else if (s.assoc a).port ≠ p then bumpPort p .misdirectedDrops 1 t
      else if (s.assoc a).state = .configured ∨ (s.assoc a).state = .suspended ∨ (s.assoc a).state = .faulted then
        bumpAssoc a .stateDrops 1 (bumpPort p .assocStateDrops 1 t)
      else keep cls (.protect a) t
    let plainClass : ClassNum := if frameTagged f then row x.settings.classMap (framePrio f) else x.settings.untaggedClass
    (∀ (i : EntryIdx), (s.entry i).candidate p f = true → (∀ j, j < i → (s.entry j).candidate p f = false) →
      let s1 := (countedIn p f s).updEntry i fun e => { e with hits := addCount e.hits 1 }
      let cls := (s.entry i).classOverride.getD plainClass
      (∀ s2, ((∀ j, j ≠ i → (s.entry j).candidate p f = false) ∧ s2 = s1
            ∨ ∃ j, i < j ∧ (s.entry j).candidate p f = true ∧ (∀ k, i < k → k < j → (s.entry k).candidate p f = false)
              ∧ s2 = raiseEvent .steerOverlap (.port p) (BitVec.ofNat 16 (i.val + 256 * j.val))
                  (bumpPort p .overlaps 1 s1)) →
        ((s.entry i).action = .drop → exec (.rsideFrameReceived p f) s = .next (bumpPort p .steerDrops 1 s2))
        ∧ ((s.entry i).action = .pass → exec (.rsideFrameReceived p f) s
            = .next (keep cls .pass (bumpPort p .passFrames 1 s2)))
        ∧ (∀ a, (s.entry i).action = .protect a → exec (.rsideFrameReceived p f) s = .next (protect a cls s2))))
    ∧ ((∀ i, (s.entry i).candidate p f = false) →
        (x.settings.defaultAction = .drop →
          exec (.rsideFrameReceived p f) s = .next (bumpPort p .noMatchDrops 1 (countedIn p f s)))
        ∧ (x.settings.defaultAction = .pass → exec (.rsideFrameReceived p f) s
            = .next (keep plainClass .pass (bumpPort p .passFrames 1 (countedIn p f s))))
        ∧ (∀ a, x.settings.defaultAction = .protect a →
          exec (.rsideFrameReceived p f) s = .next (protect a plainClass (countedIn p f s))))

/-- An entry is a candidate for a frame exactly under the conditions of R27: valid, the port in its set, the tagging
condition, and no bit that its masks select differing; an untagged frame meets VLAN and priority masks only if both are
zero. -/
def Obligations.CandidatesMatchByValueAndMask : Prop :=
  ∀ (e : SteerEntry) (p : PortNum) (f : Bytes), e.candidate p f = true ↔
    e.valid = true ∧ e.ports.getLsbD p.val = true
    ∧ (match e.tagging with
        | .tagged => frameTagged f = true
        | .untagged => frameTagged f = false
        | .any => True)
    ∧ (frameTagged f = true → (∀ n, n < 12 → e.vlanMask.getLsbD n = true → e.vlanValue.getLsbD n = (frameVlan f).getLsbD n)
        ∧ ∀ n, n < 3 → e.prioMask.getLsbD n = true → e.prioValue.getLsbD n = (BitVec.ofNat 3 (framePrio f).val).getLsbD n)
    ∧ (frameTagged f = false → e.vlanMask = 0 ∧ e.prioMask = 0)
    ∧ (∀ n, n < 48 → e.addressMask.getLsbD n = true → e.addressValue.getLsbD n = (frameDA f).getLsbD n)
    ∧ ∀ n, n < 16 → e.typeMask.getLsbD n = true → e.typeValue.getLsbD n = (frameType f).getLsbD n

/-- A kept frame is discarded as a link-down flush while that is in force (R109), else joins the tail of its class queue if
it fits under the class ceiling, with the holding indication taken from the new occupancy (R104, R111), else is
tail-dropped with BUFFER_DROP; nothing else changes. -/
def Obligations.EgressAdmission : Prop :=
  ∀ (p : PortNum) (r : FrameRecord) (s : State),
    let x := s.port p
    let flushed := x.mode = .protect ∧ x.settings.linkDownPolicy = .flush ∧ x.link ≠ .up ∧ s.inhibit = .released
    let occupancy := x.occupancy r.cls + r.cells
    (flushed → admitFrame p r s = bumpPort p .linkDownFlush 1 s)
    ∧ (¬flushed → row x.flow.ceiling r.cls < occupancy → admitFrame p r s
        = raiseEvent .bufferDrop (.port p) (BitVec.ofNat 16 r.cls.val) (bumpPort p (.bufferDrops r.cls) 1 s))
    ∧ (¬flushed → occupancy ≤ row x.flow.ceiling r.cls → ∃ t, admitFrame p r s = t
        ∧ (∀ k, row (t.port p).queues k = if k = r.cls then row x.queues k ++ [r] else row x.queues k)
        ∧ (∀ k, row (t.port p).holding k = if k = r.cls then x.holdsAt k occupancy else row x.holding k)
        ∧ (t.port p).pauseOwed = (x.pauseOwed || row x.holding r.cls != x.holdsAt r.cls occupancy)
        ∧ (∀ k, row (t.port p).refresh k
            = if k = r.cls ∧ row x.holding k = false ∧ x.holdsAt k occupancy = true then 0 else row x.refresh k)
        ∧ { t.port p with queues := x.queues, holding := x.holding, pauseOwed := x.pauseOwed, refresh := x.refresh } = x
        ∧ (∀ q, q ≠ p → t.port q = s.port q) ∧ { t with ports := s.ports } = s)

/-- CSIDE_FRAME_RECEIVED: nothing while the link is not UP, a port-off drop in OFF (R4); in PROTECT a bad or misfit frame is
a return FCS drop, a MAC control frame writes the campus pause times (R117), a control frame is captured (R123), and every
other frame joins the return FIFO if its cells are free (R120). -/
def Obligations.CampusFrameSteps : Prop :=
  ∀ (p : PortNum) (f : Bytes) (s : State), s.pins.resetLow = false →
    let x := s.port p
    (x.link ≠ .up → exec (.csideFrameReceived p f) s = .next s)
    ∧ (x.link = .up → x.mode = .off → exec (.csideFrameReceived p f) s = .next (bumpPort p .portOffDrops 1 s))
    ∧ (x.link = .up → x.mode = .protect → (fcsGood f = false ∨ f.length < 64 ∨ 9248 < f.length) →
        exec (.csideFrameReceived p f) s = .next (bumpPort p .returnFcsDrops 1 s))
    ∧ (x.link = .up → x.mode = .protect → fcsGood f = true → 64 ≤ f.length → f.length ≤ 9248 →
        (frameTagged f = false → frameType f = 0x8808 →
          (be16At f 14 = 0x0001 → exec (.csideFrameReceived p f) s = .next (bumpPort p .campusPauseReceived 1
              (s.updPort p fun y => { y with campusPause := Vector.replicate 8 (be16At f 16).toNat })))
          ∧ (be16At f 14 = 0x0101 → exec (.csideFrameReceived p f) s = .next (bumpPort p .campusPauseReceived 1
              (s.updPort p fun y =>
                { y with campusPause := Vector.ofFn fun q : Fin 8 =>
                    if (be16At f 16).getLsbD q.val then (be16At f (18 + 2 * q.val)).toNat else row y.campusPause q })))
          ∧ (be16At f 14 ≠ 0x0001 → be16At f 14 ≠ 0x0101 → exec (.csideFrameReceived p f) s = .next s))
        ∧ (isMacControl f = false → isControl x f = false →
          let held := (x.returnFifo.map fun g => (g.length + 127) / 128).sum
          (held + (f.length + 127) / 128 ≤ 512 → exec (.csideFrameReceived p f) s
            = .next (s.updPort p fun y => { y with returnFifo := y.returnFifo ++ [f] }))
          ∧ (512 < held + (f.length + 127) / 128 → exec (.csideFrameReceived p f) s
            = .next (raiseEvent .returnDrop (.port p) 0 (bumpPort p .returnDrops 1 s)))))

/-- A control frame is captured into the reply inbox, or with four frames there is an inbox drop with INBOX_DROP (R123); a
captured frame meets the checks of R145 in order, each failure counted and the frame out of the inbox again; one that passes
is named in a verification request under the slot of its role (R148, R89). -/
def Obligations.ControlFramesAreChecked : Prop :=
  ∀ (p : PortNum) (f : Bytes) (s : State), s.pins.resetLow = false → (s.port p).link = .up → (s.port p).mode = .protect →
    fcsGood f = true → isMacControl f = false → isControl (s.port p) f = true →
    ∃ t, exec (.csideFrameReceived p f) s = .next t
    ∧ (∀ a, { t.assoc a with corruptOne := false } = { s.assoc a with corruptOne := false }) ∧ t.slots = s.slots
    ∧ (4 ≤ (s.port p).inbox.length → (t.port p).inbox = (s.port p).inbox
        ∧ (t.port p).counters = (bumpPort p .inboxDrops 1 s |>.port p).counters
        ∧ t.events = (raiseEvent .inboxDrop (.port p) 0 s).events)
    ∧ ((s.port p).inbox.length < 4 → t.events = s.events)
    ∧ ((s.port p).inbox.length < 4 → ((s.port p).inbox.map Captured.place).Nodup →
        let failed (c : PortCounter) : Prop := (t.port p).inbox = (s.port p).inbox
          ∧ (t.port p).counters = (bumpPort p c 1 (bumpPort p .controlCaptured 1 s) |>.port p).counters
        let x := s.port p
        let wellFormed : Prop := frameSA f = x.settings.peerAddress ∧ (ctlSubtype f = 0x02 ∨ ctlSubtype f = 0x03)
          ∧ ctlBodyAnum f = ctlTagAnum f ∧ ctlBodyLabel f = ctlTagLabel f
          ∧ (ctlSubtype f = 0x02 → (ctlResult f).toNat ≤ 2 ∧ ctlAnnounced f = ctlTagEpoch f)
          ∧ (ctlSubtype f = 0x03 → ctlResult f = 0)
        (¬wellFormed → failed .foreignControl)
        ∧ (wellFormed → (∀ a : Anum, a.val = (ctlTagAnum f).toNat →
            ¬((s.assoc a).state ≠ .idle ∧ (s.assoc a).port = p ∧ (s.assoc a).label = ctlTagLabel f)) →
            failed .unknownChannel)
        ∧ ∀ a : Anum, a.val = (ctlTagAnum f).toNat → wellFormed → (s.assoc a).state ≠ .idle → (s.assoc a).port = p →
            (s.assoc a).label = ctlTagLabel f →
            (ctlSubtype f = 0x02 →
              ¬((s.assoc a).attempt ≠ none ∧ ∃ k, (s.assoc a).next = some k ∧ (s.slot k).epoch = ctlTagEpoch f) →
              failed .staleReplies)
            ∧ (ctlSubtype f = 0x03 → ¬((s.assoc a).current ≠ none ∧ (s.assoc a).currentEpoch = ctlTagEpoch f) →
              failed .staleReplies)
            ∧ ∀ k : SlotNum,
              (ctlSubtype f = 0x02 ∧ (s.assoc a).attempt ≠ none ∧ (s.assoc a).next = some k
                  ∧ (s.slot k).epoch = ctlTagEpoch f
                ∨ ctlSubtype f = 0x03 ∧ (s.assoc a).current = some k ∧ (s.assoc a).currentEpoch = ctlTagEpoch f) →
              let role : KeyRole := if ctlSubtype f = 0x02 then .next else .current
              let floor := if ctlSubtype f = 0x02 then (s.assoc a).floorNext else (s.assoc a).floorCurrent
              (ctlTagPn f ≤ floor → failed .staleReplies)
              ∧ (floor < ctlTagPn f → ∃ place,
                  let r : VerifyReq := { port := p, place := place, frame := f, anum := a, role := role, slot := k }
                  (t.port p).inbox = (s.port p).inbox ++ [{ place := place, frame := f }]
                  ∧ (t.port p).counters = (bumpPort p .controlCaptured 1 s |>.port p).counters
                  ∧ (r ∈ t.verifyQueue ∨ ∃ l copy, t.lane l = .busy (.verify r copy false))))

/-! ## The cipher lanes -/

/-- TRANSFORM_COMPLETE: the entry becomes DONE with the finished frame in its place (R94, R85, R86), and stays while it can
still be sent; under inhibit it is marked, and at the head it leaves as an inhibit drop (R97, R98); at the head with the link
not UP, in OFF or under FLUSH, it leaves as a link-down flush (R7, R16); if its slot has failed its scrub, it is removed and
counted instead (R82); with no other work waiting the lane becomes IDLE (R83). The grants that follow (R91, with R95 and R99):
the lowest IDLE lane takes the oldest verification, else, with fewer than two lanes expanding, the oldest expansion, else the
oldest waiting entry of the first port with one, from the round-robin pointer on, that has fewer than two entries in lanes; a
DATA grant spends corrupt-one and marks the entry, and PASS entries directly behind it become DONE; grants repeat until none
can be made. -/
def Obligations.TransformCompletes : Prop :=
  (∀ (l : LaneNum) (p : PortNum) (copy : KeyCopy) (clp : BitVec 16) (e : Entry) (s : State),
    s.pins.resetLow = false → s.lane l = .busy (.transform p copy clp) → e ∈ (s.port p).sequence → e.status = .inLane l →
    (∀ g ∈ (s.port p).sequence, g.status = .inLane l → g = e) → e.inhibitDiscard = false →
    let x := s.port p
    let done : Entry := { e with status := .done, frame := transformed p copy clp e }
    let sound : Prop := ∀ k, e.slot? = some k → (s.slot k).state ≠ .faulted
    let alone (rest : List Entry) : Prop := x.sequence = e :: rest ∧ (∀ g ∈ rest, g.status ≠ .inLane l)
      ∧ ∀ g ∈ rest.head?, g.status.isInLane = true
    let leaves (rest : List Entry) (c : PortCounter) (t : State) : Prop :=
      (t.port p).sequence.map (fun g => (g.body, g.frame)) = rest.map (fun g => (g.body, g.frame))
      ∧ row (t.port p).counters c.index = addCount (row x.counters c.index) 1 ∧ SameCountersBut [c] x (t.port p)
      ∧ ∀ k, t.slot k = if e.slot? = some k then (s.slot k).released else s.slot k
    (sound → s.inhibit = .released → (x.link = .up ∨ x.mode = .protect ∧ x.settings.linkDownPolicy = .hold) →
      ∃ t, exec (.transformComplete l) s = .next t ∧ done ∈ (t.port p).sequence
      ∧ ((∀ q, ∀ g ∈ (s.port q).sequence, g.status ≠ .waitingLane) → s.verifyQueue = [] → s.expansionFifo = [] →
          t.lane l = .idle)
      ∧ t.steering = s.steering ∧ (∀ a, (t.assoc a).sans = (s.assoc a).sans) ∧ t.transportKey = s.transportKey)
    ∧ (sound → s.inhibit = .asserted → ∀ g rest m, x.sequence = g :: rest → g.status = .inLane m → m ≠ l →
      ∃ t, exec (.transformComplete l) s = .next t ∧ { done with inhibitDiscard := true } ∈ (t.port p).sequence)
    ∧ (sound → s.inhibit = .asserted → ∀ rest, alone rest →
      ∃ t, exec (.transformComplete l) s = .next t ∧ leaves rest .inhibitDrops t)
    ∧ (sound → s.inhibit = .released → x.link ≠ .up → (x.mode = .off ∨ x.settings.linkDownPolicy = .flush) →
      ∀ rest, alone rest → ∃ t, exec (.transformComplete l) s = .next t ∧ leaves rest .linkDownFlush t)
    ∧ (∀ k, e.slot? = some k → (s.slot k).state = .faulted → ∃ t, exec (.transformComplete l) s = .next t
      ∧ (x.sequence.countP (fun g => g.status == .inLane l) = 1 →
          row (t.port p).counters PortCounter.assocStateDrops.index
            = addCount (row x.counters PortCounter.assocStateDrops.index) 1)
      ∧ (t.port p).sequence.length < x.sequence.length ∧ (t.slot k).state = .faulted))
  ∧ ∀ s : State,
    let copyOf (k : SlotNum) : KeyCopy :=
      { expandedKey := (s.slot k).expandedKey, salt := (s.slot k).salt, epoch := (s.slot k).epoch }
    let expanding := ((List.finRange 6).filter fun m =>
      match s.lane m with | .busy (.expand _ _ _) => true | _ => false).length
    -- the oldest waiting entry of a port that may take a lane, with what stands before and behind it
    let offers (p : PortNum) (before : List Entry) (e : Entry) (behind : List Entry) : Prop :=
      (s.port p).sequence = before ++ e :: behind ∧ (∀ g ∈ before, g.status ≠ .waitingLane) ∧ e.status = .waitingLane
      ∧ e.body ≠ .pass ∧ (s.port p).sequence.countP (fun g => g.status.isInLane) < 2
    (grantOne s = none → arbitrate s = s) ∧ (∀ t, grantOne s = some t → arbitrate s = arbitrate t)
    ∧ grantOne (arbitrate s) = none
    ∧ ((∀ l, s.lane l ≠ .idle) → grantOne s = none)
    ∧ ∀ l, s.lane l = .idle → (∀ m, m < l → s.lane m ≠ .idle) →
      (∀ r rest, s.verifyQueue = r :: rest → grantOne s
        = some ({ s with verifyQueue := rest }.setLane l (.busy (.verify r (copyOf r.slot) false))))
      ∧ (∀ k rest, s.verifyQueue = [] → s.expansionFifo = k :: rest → expanding < 2 → grantOne s
        = some ({ s with expansionFifo := rest }.setLane l (.busy (.expand k (s.slot k).key true))))
      ∧ (s.verifyQueue = [] → (s.expansionFifo = [] ∨ 2 ≤ expanding) →
        ((∀ p before e behind, ¬offers p before e behind) → grantOne s = none)
        ∧ ∀ (i : PortNum) before e passes behind,
          let p := s.roundRobin + i
          offers p before e (passes ++ behind) →
          (∀ j, j < i → ∀ before e behind, ¬offers (s.roundRobin + j) before e behind) →
          (∀ g ∈ passes, g.body = .pass ∧ g.status = .waitingLane) →
          (∀ g ∈ behind.head?, g.body ≠ .pass ∧ g.status = .waitingLane) →
          ∃ t, grantOne s = some t
          ∧ (t.port p).sequence
            = before ++ { e with
                status := .inLane l
                corrupted := e.corrupted || match e.body with
                  | .data a _ _ _ _ _ => (s.assoc a).corruptOne || (s.assoc a).corruptAll
                  | _ => false }
              :: (passes.map fun g =>
                  { g with status := .done, inhibitDiscard := g.inhibitDiscard || s.inhibit == .asserted })
              ++ behind
          ∧ { t.port p with sequence := (s.port p).sequence } = s.port p ∧ (∀ q, q ≠ p → t.port q = s.port q)
          ∧ (∀ a, t.assoc a = match e.body with
              | .data b _ _ _ _ _ => if a = b then { s.assoc a with corruptOne := false } else s.assoc a
              | _ => s.assoc a)
          ∧ (∀ k, e.slot? = some k →
              t.lane l = .busy (.transform p (copyOf k) (s.port p).settings.clpType))
          ∧ (∀ m, m ≠ l → t.lane m = s.lane m) ∧ t.roundRobin = p + 1
          ∧ { t with ports := s.ports, assocs := s.assocs, lanes := s.lanes, roundRobin := s.roundRobin } = s)

/-- The protected data frame: clear header, CLP tag, body and ICV, with a frame check sequence, 32 bytes longer than the
frame it protects; the ICV's first byte is inverted on a marked entry (R18 to R20, R85, R99). The finished NOTICE: the 44 bytes
of its placement, the ICV over them with nothing ciphered, under the nonce of its own CLP tag, and a frame check sequence, 64
bytes in all (R19, R86). -/
def Obligations.ProtectedFrameLayout : Prop :=
  (∀ (p : PortNum) (copy : KeyCopy) (clp : BitVec 16) (e : Entry) (a : Anum) (k : SlotNum) (pn : Nat) (m : Protection)
    (v : VlanHandling) (label : BitVec 32),
    e.body = .data a k pn m v label → 20 ≤ e.frame.length →
    let f := e.frame
    let clear := frameTagged f && v == .keepClear
    let head := f.take (if clear then 16 else 12)
    let body := (f.take (f.length - 4)).drop head.length
    let flags : Byte := (if m = .confidential then 0x40#8 else 0) ||| (if clear then 0x20#8 else 0)
    let tag := toBE 2 clp.toNat ++ [1, flags, BitVec.ofNat 8 a.val, copy.epoch] ++ toBE 5 pn ++ toBE 4 label.toNat ++ [0]
    let nonce := toBE 4 copy.salt.toNat ++ [BitVec.ofNat 8 a.val, copy.epoch] ++ toBE 5 pn ++ [BitVec.ofNat 8 p.val]
    let plain := if m = .confidential then body else []
    let ad := if m = .confidential then head ++ tag else head ++ tag ++ body
    let sent := if m = .confidential then
        (List.range body.length).map fun i => Config.cipherByte copy.expandedKey nonce ad plain i
      else body
    let icv := toBE 16 (Config.icv copy.expandedKey nonce ad plain).toNat
    let icvSent := if e.corrupted then icv.modifyHead (fun b => ~~~ b) else icv
    let bytes := head ++ tag ++ sent ++ icvSent
    transformed p copy clp e = bytes ++ toLE 4 (crc32 bytes).toNat
    ∧ (transformed p copy clp e).length = f.length + 32)
  ∧ ∀ (p : PortNum) (copy : KeyCopy) (clp : BitVec 16) (e : Entry) (a : Anum) (k : SlotNum) (pn : Nat),
    e.body = .notice a k pn → e.frame.length = 44 →
    let f := e.frame
    let nonce := toBE 4 copy.salt.toNat ++ [byteAt f 16, byteAt f 17] ++ (f.drop 18).take 5 ++ [BitVec.ofNat 8 p.val]
    let bytes := f ++ toBE 16 (Config.icv copy.expandedKey nonce f []).toNat
    transformed p copy clp e = bytes ++ toLE 4 (crc32 bytes).toNat ∧ (transformed p copy clp e).length = 64

/-- EXPAND_COMPLETE: the slot takes its expanded key and integrity code, becomes READY, and KEY_READY is raised (R73, R88);
an owner under AUTO that holds a switch pending begins it if it can start, by an exchange under CONFIRMED and a cut-over under
UNILATERAL (R131 to R133), else its record stands; a result whose load no longer stands is discarded (R73). -/
def Obligations.ExpansionCompletes : Prop :=
  ∀ (l : LaneNum) (k : SlotNum) (key : Bytes) (live : Bool) (s : State),
    s.pins.resetLow = false → s.lane l = .busy (.expand k key live) →
    let expanded := Config.roundKeys key ++ toBE 16 (Config.blockCipher key (List.replicate 16 0)).toNat
    let code := Config.integrityCode (s.slot k).key (s.slot k).salt expanded
    let s1 := raiseEvent .keyReady (.slot k) 0
      (s.updSlot k fun x => { x with expandedKey := expanded, integrityCode := code, state := .ready })
    (live = true → (s.slot k).state = .loaded → ∀ a, (s.slot k).owner = some a →
      let begins : Prop := (s.assoc a).triggerPolicy = .auto ∧ (s.assoc a).switchPending = true
        ∧ SwitchCanStart s1 a (s.port (s.assoc a).port).mode s.inhibit
      (¬begins → ∃ t, exec (.expandComplete l) s = .next t
        ∧ t.slots = s1.slots ∧ t.events = s1.events ∧ (∀ b, (t.assoc b).sans = (s.assoc b).sans)
        ∧ ∀ p, (t.port p).controlQueue = (s.port p).controlQueue)
      ∧ (begins → ∃ t, exec (.expandComplete l) s = .next t ∧ SwitchBegun a s1 t))
    ∧ ((live = false ∨ (s.slot k).state ≠ .loaded) → ∃ t, exec (.expandComplete l) s = .next t
      ∧ t.slots = s.slots ∧ t.events = s.events ∧ (∀ b, (t.assoc b).sans = (s.assoc b).sans))

/-- VERIFY_COMPLETE applies the verdict in the order of R149: withdrawn and late frames are stale, a FAIL is an authentication
failure, else the peer floor rises; a REQUEST hands its trigger (R151), which acts by the table of R130, and a REPLY that
passes the attempt check of R150 cuts over on ACCEPT (R152, R157), ends its attempt on NOT_READY, at the last step with a
give-up (R153, R155), or gives up on EPOCH_MISMATCH (R154); otherwise it is stale. The verdict is PASS exactly when the
frame's 16 bytes of ICV are those computed over its first 44 bytes with nothing ciphered, under the nonce of its CLP tag with
direction-port byte 0x80 + P (R19, R87). -/
def Obligations.VerdictsTakeEffect : Prop :=
  ∀ (l : LaneNum) (r : VerifyReq) (copy : KeyCopy) (withdrawn : Bool) (s : State),
    s.pins.resetLow = false → s.lane l = .busy (.verify r copy withdrawn) →
    let x := s.assoc r.anum
    let pn := ctlTagPn r.frame
    let floor := if r.role = .next then x.floorNext else x.floorCurrent
    let nonce := toBE 4 copy.salt.toNat ++ [byteAt r.frame 16, byteAt r.frame 17] ++ (r.frame.drop 18).take 5
      ++ [BitVec.ofNat 8 (0x80 + r.port.val)]
    let passes : Prop := BitVec.ofNat 128 (ofBE ((r.frame.drop 44).take 16))
      = Config.icv copy.expandedKey nonce (r.frame.take 44) []
    let left (t : State) : Prop := ∀ c ∈ (t.port r.port).inbox, c.place ≠ r.place
    let only (c : PortCounter) (t : State) : Prop := (t.port r.port).counters = (bumpPort r.port c 1 s |>.port r.port).counters
    let same (t : State) : Prop := (∀ b, (t.assoc b).sans = (s.assoc b).sans) ∧ t.slots = s.slots ∧ t.events = s.events
    let raised (y : Assoc) : Assoc := if r.role = .next then { y with floorNext := pn } else { y with floorCurrent := pn }
    let gaveUp : Assoc := Assoc.sans { raised x with
      attempt := none, state := if x.state = .switching then .running else x.state
      counters := updRow x.counters AssocCounter.giveUps.index (addCount · 1) }
    ∃ t, exec (.verifyComplete l) s = .next t ∧ left t
    ∧ (withdrawn = true → only .staleReplies t ∧ same t)
    ∧ (withdrawn = false → ¬passes → only .replyAuthFailures t ∧ same t)
    ∧ (withdrawn = false → passes → pn ≤ floor → only .staleReplies t ∧ same t)
    ∧ (withdrawn = false → passes → floor < pn → r.role = .current →
        TriggerOutcome .request 2 r.anum (s.updAssoc r.anum raised) t)
    ∧ (withdrawn = false → passes → floor < pn → r.role = .next → ∀ k, x.next = some k →
        (∀ a, x.attempt = some a → a.status = .issued → a.number = ctlAttempt r.frame →
          (s.slot k).checkValue = ctlCheckValue r.frame →
          ((ctlResult r.frame).toNat = 0 → x.current ≠ some k →
            (t.assoc r.anum).sans = ((raised x).switched k (s.slot k).epoch).sans.withSwitchDone
            ∧ t.slot k = { s.slot k with state := .active }
            ∧ (∀ j, x.current = some j → t.slot j = (s.slot j).outgoing
              ∧ ((s.slot j).inFlight = 0 → EventsOpen s → Listed .keyRetired (.slot j) t))
            ∧ (EventsOpen s → Listed .switchDone (.assoc r.anum) t))
          ∧ ((ctlResult r.frame).toNat = 1 → a.step < (s.port x.port).lastStep →
            (t.assoc r.anum).attempt = some
              { number := a.number + 1, step := a.step + 1, pulses := 2 ^ (a.step + 1), status := .queued }
            ∧ (t.assoc r.anum).state = x.state ∧ (t.assoc r.anum).floorNext = pn ∧ t.slots = s.slots
            ∧ (t.port x.port).controlQueue = (s.port x.port).controlQueue ++ [r.anum])
          ∧ ((ctlResult r.frame).toNat = 1 → (s.port x.port).lastStep ≤ a.step → (t.assoc r.anum).sans = gaveUp
            ∧ t.events = (raiseEvent .switchFailed (.assoc r.anum) 0 s).events ∧ t.slots = s.slots)
          ∧ ((ctlResult r.frame).toNat = 2 → (t.assoc r.anum).sans = gaveUp
            ∧ t.events = (raiseEvent .switchRefused (.assoc r.anum) (BitVec.ofNat 16 a.number) s).events
            ∧ t.slots = s.slots))
        ∧ ((∀ a, x.attempt = some a → ¬(a.status = .issued ∧ a.number = ctlAttempt r.frame
              ∧ (s.slot k).checkValue = ctlCheckValue r.frame)) →
          only .staleReplies t ∧ (t.assoc r.anum).sans = (raised x).sans ∧ t.slots = s.slots))

/-! ## The schedulers and the transmitters -/

/-- DEQUEUE_DECISION below the stop mark: a data frame of a RUNNING or SWITCHING association takes next_pn, joins the tail of
the transform sequence under the current slot, and next_pn and the slot's in-flight count rise by 1 (R52 check 5, R53); below
the switch mark nothing else follows, and at or above it the number is a MARK trigger, which acts by the table of R130 from the
state so numbered (R54). -/
def Obligations.DataFramesAreNumbered : Prop :=
  ∀ (p : PortNum) (c : ClassNum) (r : FrameRecord) (a : Anum) (k : SlotNum) (s : State),
    let x := s.assoc a
    let s1 := (s.updAssoc a fun y => { y with nextPn := y.nextPn + 1 }).updSlot k fun y =>
      { y with inFlight := y.inFlight + 1 }
    TakesNext s p c r → r.outcome = .protect a → (x.state = .running ∨ x.state = .switching) → x.port = p →
    x.current = some k → x.nextPn < x.stopMark → x.switchMark < x.stopMark → Unmarked (s.port p) →
    ∃ t, exec (.dequeueDecision p) s = .next t
    ∧ (t.port p).sequence.map (fun e => (e.body, e.frame))
      = (s.port p).sequence.map (fun e => (e.body, e.frame))
        ++ [(.data a k x.nextPn x.protection x.vlan x.label, r.frame)]
    ∧ (x.nextPn < x.switchMark →
      (t.assoc a).sans = { x with nextPn := x.nextPn + 1 }.sans ∧ (∀ b, b ≠ a → (t.assoc b).sans = (s.assoc b).sans)
      ∧ t.slot k = { s.slot k with inFlight := (s.slot k).inFlight + 1 } ∧ (∀ j, j ≠ k → t.slot j = s.slot j)
      ∧ (t.port p).counters = (s.port p).counters ∧ t.events = s.events)
    ∧ (x.switchMark ≤ x.nextPn → TriggerOutcome .mark 0 a s1 t)
    ∧ (∀ j, row (t.port p).queues j = if j = c then (row (s.port p).queues j).tail else row (s.port p).queues j)
    ∧ (∀ q, q ≠ p → (t.port q).queues = (s.port q).queues)
    ∧ t.steering = s.steering ∧ t.transportKey = s.transportKey

/-- A data frame that takes the stop mark is sent all the same, its association enters EXHAUSTED, and EXHAUSTED is raised
(R55); its number is a MARK trigger too, which acts by the table of R130 from the state so exhausted (R54). Under CONFIRMED or
MANUAL nothing cuts over at once. -/
def Obligations.StopMarkExhausts : Prop :=
  ∀ (p : PortNum) (c : ClassNum) (r : FrameRecord) (a : Anum) (k : SlotNum) (s : State),
    let x := s.assoc a
    let s1 := raiseEvent .exhausted (.assoc a) 0
      ((s.updAssoc a fun y => { y with nextPn := y.nextPn + 1, state := .exhausted }).updSlot k fun y =>
        { y with inFlight := y.inFlight + 1 })
    TakesNext s p c r → r.outcome = .protect a → (x.state = .running ∨ x.state = .switching) → x.port = p →
    x.current = some k → x.nextPn = x.stopMark → x.switchMark < x.stopMark → Unmarked (s.port p) →
    ∃ t, exec (.dequeueDecision p) s = .next t
    ∧ (t.port p).sequence.map (fun e => (e.body, e.frame))
      = (s.port p).sequence.map (fun e => (e.body, e.frame))
        ++ [(.data a k x.stopMark x.protection x.vlan x.label, r.frame)]
    ∧ (EventsOpen s → Listed .exhausted (.assoc a) t) ∧ TriggerOutcome .mark 0 a s1 t
    ∧ ((x.confirmPolicy = .confirmed ∨ x.triggerPolicy = .manual) →
      (t.assoc a).state = .exhausted ∧ (t.assoc a).nextPn = x.stopMark + 1 ∧ (t.assoc a).current = some k
      ∧ (∀ y, x.attempt = some y → (t.assoc a).attempt = some y)
      ∧ (x.attempt = none → x.triggerPolicy = .manual → (t.assoc a).switchDue = true)
      ∧ t.slot k = { s.slot k with inFlight := (s.slot k).inFlight + 1 })

/-- DEQUEUE_DECISION where the frame does not take a number: each check of R52 with its counters; a PASS frame joins the tail
of the sequence without a number (R51). Where the conditions of R108 fail (the port OFF, the link not UP, INHIBIT_N asserted,
the sequence full, a notice waiting, or every class queue empty or campus-paused) nothing moves (R108; that the move is a
command which then does nothing is the model's choice, assumption 18). -/
def Obligations.DequeueDiscardsAndPasses : Prop :=
  (∀ (p : PortNum) (c : ClassNum) (r : FrameRecord) (s : State), TakesNext s p c r → ∃ s1, HeadTaken p c s s1
    ∧ (∀ a, r.outcome = .protect a →
        let x := s.assoc a
        (x.state = .idle → exec (.dequeueDecision p) s = .next (bumpPort p .assocStateDrops 1 s1))
        ∧ (x.state ≠ .idle → x.port ≠ p → exec (.dequeueDecision p) s = .next (bumpPort p .misdirectedDrops 1 s1))
        ∧ (x.port = p → (x.state = .configured ∨ x.state = .suspended ∨ x.state = .faulted) →
            exec (.dequeueDecision p) s = .next (bumpAssoc a .stateDrops 1 (bumpPort p .assocStateDrops 1 s1)))
        ∧ (x.port = p → x.state = .exhausted →
            exec (.dequeueDecision p) s = .next (bumpAssoc a .exhaustDrops 1 (bumpPort p .assocStateDrops 1 s1))))
    ∧ (r.outcome = .pass → Unmarked (s.port p) → ∃ t, exec (.dequeueDecision p) s = .next t
        ∧ (t.port p).sequence.map (fun e => (e.body, e.frame))
          = (s.port p).sequence.map (fun e => (e.body, e.frame)) ++ [(.pass, r.frame)]
        ∧ (t.port p).queues = (s1.port p).queues ∧ (t.port p).counters = (s.port p).counters ∧ t.slots = s.slots
        ∧ ∀ b, (t.assoc b).sans = (s.assoc b).sans))
  ∧ ∀ (p : PortNum) (s : State), s.pins.resetLow = false →
    ((s.port p).mode = .off ∨ (s.port p).link ≠ .up ∨ s.inhibit = .asserted ∨ 4 ≤ (s.port p).sequence.length
      ∨ (s.port p).controlQueue ≠ [] ∨ ∀ k, row (s.port p).queues k = [] ∨ (s.port p).campusPaused k = true) →
    exec (.dequeueDecision p) s = .next s

/-- NOTICE_PLACEMENT: the head of the control queue takes next_pn, the NOTICE of R21 joins the sequence under the current
slot, and the attempt is ISSUED with 2^step fine pulses; the stop mark taken by a SWITCHING association's notice exhausts it,
with EXHAUSTED (R56, R141). With every number spent the exchange gives up with PN_SPENT (R142, R155). Where the conditions of
R108 fail, or no notice waits, nothing moves (that the move is a command which then does nothing is the model's choice,
assumption 18). -/
def Obligations.NoticesArePlaced : Prop :=
  (∀ (p : PortNum) (a : Anum) (rest : List Anum) (s : State),
    let x := s.assoc a
    SchedulerServes s p → (s.port p).controlQueue = a :: rest → x.port = p → Unmarked (s.port p) →
    (∀ (y : Attempt) (j k : SlotNum), x.attempt = some y → x.current = some j → x.next = some k →
      x.nextPn ≤ Config.pnMax → ∃ t, exec (.noticePlacement p) s = .next t
      ∧ (t.port p).controlQueue = rest
      ∧ (t.assoc a).sans = Assoc.sans { x with
          nextPn := x.nextPn + 1
          attempt := some { y with status := .issued, pulses := 2 ^ y.step }
          state := if x.state = .switching ∧ x.nextPn = x.stopMark then .exhausted else x.state
          counters := updRow x.counters AssocCounter.attemptsSent.index (addCount · 1) }
      ∧ (∀ b, b ≠ a → (t.assoc b).sans = (s.assoc b).sans)
      ∧ t.events = (if x.state = .switching ∧ x.nextPn = x.stopMark then raiseEvent .exhausted (.assoc a) 0 s else s).events
      ∧ (let settings := (s.port p).settings
         let anum : Byte := BitVec.ofNat 8 a.val
         let notice := toBE 6 settings.peerAddress.toNat ++ toBE 6 settings.portAddress.toNat
           ++ toBE 2 settings.clpType.toNat ++ [1, 0x80, anum, (s.slot j).epoch] ++ toBE 5 x.nextPn
           ++ toBE 4 x.label.toNat ++ [0]
           ++ [0x01, 0x00, anum, (s.slot k).epoch, BitVec.ofNat 8 y.number] ++ toBE 3 (s.slot k).checkValue.toNat
           ++ toBE 4 x.label.toNat ++ [0, 0, 0, 0]
         (t.port p).sequence.map (fun e => (e.body, e.frame))
           = (s.port p).sequence.map (fun e => (e.body, e.frame)) ++ [(.notice a j x.nextPn, notice)])
      ∧ t.slot j = { s.slot j with inFlight := (s.slot j).inFlight + 1 } ∧ (∀ i, i ≠ j → t.slot i = s.slot i))
    ∧ (Config.pnMax < x.nextPn → a ∉ rest → ∃ t, exec (.noticePlacement p) s = .next t
      ∧ (t.port p).controlQueue = rest ∧ (t.port p).sequence = (s.port p).sequence
      ∧ t.assoc a = { x with
          attempt := none
          state := if x.state = .switching then .running else x.state
          counters := updRow x.counters AssocCounter.giveUps.index (addCount · 1) }
      ∧ (∀ b, b ≠ a → t.assoc b = s.assoc b) ∧ t.slots = s.slots
      ∧ t.events = (raiseEvent .switchFailed (.assoc a) 1 s).events))
  ∧ ∀ (p : PortNum) (s : State), s.pins.resetLow = false →
    ((s.port p).mode = .off ∨ (s.port p).link ≠ .up ∨ s.inhibit = .asserted ∨ 4 ≤ (s.port p).sequence.length
      ∨ (s.port p).controlQueue = []) →
    exec (.noticePlacement p) s = .next s

/-- CSIDE_TX_START takes the DONE head while the link is UP and inhibit is released; the entry leaves the sequence with its
effect on its slot, KEY_RETIRED when it ends a drain (R15, R76, R78). With the head not DONE or marked, no entry, the link not
UP, INHIBIT_N asserted, or a frame in transmission, nothing moves (that the move is a command which then does nothing is the
model's choice, assumption 18). CSIDE_TX_COMPLETE counts by the entry's kind (R15, R62). -/
def Obligations.CampusTransmitter : Prop :=
  ∀ (p : PortNum) (s : State), s.pins.resetLow = false →
    (∀ e es, (s.port p).sequence = e :: es → (s.port p).campusTx = none → e.status = .done → (s.port p).link = .up →
      s.inhibit = .released → Unmarked (s.port p) → ∃ t, exec (.csideTxStart p) s = .next t
      ∧ (t.port p).campusTx = some (match e.body with
          | .data a _ _ _ _ _ => .data a e.corrupted e.frame
          | .notice a _ _ => .notice a e.frame
          | .pass => .pass e.frame)
      ∧ (t.port p).sequence.map (fun g => (g.body, g.frame)) = es.map (fun g => (g.body, g.frame))
      ∧ (∀ k, e.slot? = some k → t.slot k = (s.slot k).released)
      ∧ (∀ k, e.slot? ≠ some k → t.slot k = s.slot k)
      ∧ (∀ k, e.slot? = some k → (s.slot k).state = .draining → (s.slot k).inFlight ≤ 1 →
          t.events = (raiseEvent .keyRetired (.slot k) 0 s).events)
      ∧ ((∀ k, e.slot? = some k → ¬((s.slot k).state = .draining ∧ (s.slot k).inFlight ≤ 1)) → t.events = s.events)
      ∧ (t.port p).counters = (s.port p).counters ∧ t.assocs = s.assocs ∧ ∀ q, q ≠ p → t.port q = s.port q)
    ∧ (((s.port p).campusTx ≠ none ∨ (s.port p).link ≠ .up ∨ s.inhibit = .asserted
        ∨ ∀ e ∈ (s.port p).sequence.head?, e.status ≠ .done ∨ e.inhibitDiscard = true) →
      exec (.csideTxStart p) s = .next s)
    ∧ (let s1 := s.updPort p fun x => { x with campusTx := none }
       (∀ a corrupted f, (s.port p).campusTx = some (.data a corrupted f) →
          let sent := bumpAssoc a .plaintextOctets (f.length - 32) (bumpAssoc a .framesProtected 1
            (bumpPort p .octetsOut f.length (bumpPort p .protectedFramesOut 1 s1)))
          exec (.csideTxComplete p) s = .next (if corrupted then bumpAssoc a .corruptedFrames 1 sent else sent))
       ∧ (∀ a f, (s.port p).campusTx = some (.notice a f) →
          exec (.csideTxComplete p) s = .next (bumpPort p .controlSent 1 s1))
       ∧ (∀ f, (s.port p).campusTx = some (.pass f) → exec (.csideTxComplete p) s = .next s1))

/-- RSIDE_TX_START sends an owed class pause frame (R113), else a return FIFO head whose priority is not rack-paused (R121),
else nothing (R114); nothing while the rack link is lost or a frame is in transmission (R115; the move is a command, assumption
18); RSIDE_TX_COMPLETE counts what was sent. The high byte of the enable vector is the model's open value (assumption 29). -/
def Obligations.RackTransmitter : Prop :=
  ∀ (p : PortNum) (s : State), s.pins.resetLow = false →
    let x := s.port p
    (row s.pins.rackLink p = true → x.rackTx = none →
      (x.pauseOwed = true →
        let times := ([0, 1, 2, 3, 4, 5, 6, 7] : List Prio).flatMap fun q =>
          toBE 2 (if row x.holding (row x.settings.classMap q) then x.flow.quanta else 0)
        let bytes := [0x01, 0x80, 0xC2, 0x00, 0x00, 0x01] ++ toBE 6 x.settings.portAddress.toNat
          ++ [0x88, 0x08, 0x01, 0x01, Config.pauseVectorHigh, 0xFF] ++ times ++ List.replicate 26 0
        bytes.length = 60 ∧ ∃ t, exec (.rsideTxStart p) s = .next t
        ∧ (t.port p).rackTx = some (.pause (bytes ++ toLE 4 (crc32 bytes).toNat)) ∧ (t.port p).pauseOwed = false
        ∧ (∀ k, row (t.port p).refresh k = if row x.holding k then 0 else row x.refresh k)
        ∧ { t.port p with rackTx := x.rackTx, pauseOwed := x.pauseOwed, refresh := x.refresh } = x
        ∧ (∀ q, q ≠ p → t.port q = s.port q) ∧ { t with ports := s.ports } = s)
      ∧ (∀ f fs, x.pauseOwed = false → x.returnFifo = f :: fs →
        let prio : Prio := if frameTagged f then framePrio f else 0
        (row x.rackPause prio = 0 → exec (.rsideTxStart p) s
          = .next (s.updPort p fun y => { y with rackTx := some (.returned f), returnFifo := fs }))
        ∧ (0 < row x.rackPause prio → exec (.rsideTxStart p) s = .next s)))
    ∧ ((row s.pins.rackLink p = false ∨ x.rackTx ≠ none ∨ x.pauseOwed = false ∧ x.returnFifo = []) →
        exec (.rsideTxStart p) s = .next s)
    ∧ (∀ f, x.rackTx = some (.pause f) → exec (.rsideTxComplete p) s
        = .next (bumpPort p .pauseFramesSent 1 (s.updPort p fun y => { y with rackTx := none })))
    ∧ (∀ f, x.rackTx = some (.returned f) → exec (.rsideTxComplete p) s
        = .next (bumpPort p .returnForwarded 1 (s.updPort p fun y => { y with rackTx := none })))

/-! ## The management line -/

/-- MGMT_BYTE_RECEIVED: in HUNT only a good 0xC3 begins a record; in RECORD a framing error abandons it as FRAMING, with the
tag if it had come; the second length byte ends a bad length as BAD_LENGTH without a tag; every other byte joins the record
and loads the gap count with 2, and the last check byte completes it (R163, R164). GAP_EXPIRY abandons the record as FRAMING
(R164). That a tag byte which itself carries the framing error counts as not received is the model's choice (assumption 31);
that GAP_EXPIRY hands the pulse which ends the gap to the receiver alone, while the divider stands, is the model's reading
(assumption 19). -/
def Obligations.ReceiverTakesBytes : Prop :=
  ∀ (b : Byte) (stopBit : Bool) (s : State), s.pins.resetLow = false →
    let hunting : State := { s with receiver := .hunt }
    (s.receiver = .hunt → stopBit = true → b = 0xC3 →
      exec (.mgmtByteReceived b stopBit) s = .next { s with receiver := .record [] 2 })
    ∧ (s.receiver = .hunt → (stopBit = false ∨ b ≠ 0xC3) → exec (.mgmtByteReceived b stopBit) s = .next s)
    ∧ ∀ got gap, s.receiver = .record got gap →
      let length := (byteAt (got ++ [b]) 0).toNat + 256 * (byteAt (got ++ [b]) 1).toNat
      (stopBit = false → exec (.mgmtByteReceived b stopBit) s = .next (withFault .framing 0 got[3]? hunting))
      ∧ (gap ≤ 1 → exec .gapExpiry s = .next (withFault .framing 0 got[3]? hunting))
      ∧ (stopBit = true → got.length = 0 →
          exec (.mgmtByteReceived b stopBit) s = .next { s with receiver := .record (got ++ [b]) 2 })
      ∧ (stopBit = true → 1 ≤ got.length → (length < 2 ∨ 1026 < length) →
          exec (.mgmtByteReceived b stopBit) s = .next (withFault .badLength 2 none hunting))
      ∧ (stopBit = true → 1 ≤ got.length → 2 ≤ length → length ≤ 1026 → got.length + 1 < length + 4 →
          exec (.mgmtByteReceived b stopBit) s = .next { s with receiver := .record (got ++ [b]) 2 })
      ∧ (stopBit = true → 2 ≤ length → length ≤ 1026 → got.length + 1 = length + 4 → ∃ r : Record,
          r.kind = byteAt got 2 ∧ r.tag = byteAt got 3 ∧ r.body = (got.drop 4).take (length - 2)
          ∧ r.check = BitVec.ofNat 16 (256 * (byteAt got (length + 2)).toNat + b.toNat)
          ∧ exec (.mgmtByteReceived b stopBit) s = exec (.recordComplete r) s)

/-- The bytes of a record on the line, sync, length, kind, tag, body and check, arriving one after another at a receiver in
HUNT, are the arrival of that record, whatever its bytes hold and whether or not its check is good (R162, R163, R165). -/
def Obligations.BytesMakeTheRecord : Prop :=
  ∀ (r : Record) (s : State), s.pins.resetLow = false → s.receiver = .hunt → r.body.length ≤ 1024 →
    receiveAll (recordOnLine r) s = exec (.recordComplete r) s

/-- Every request, written as kind, tag and body in the encoding of R169 and R171, is read back as the same request, with
every field at every value that its bytes can hold. -/
def Obligations.RequestsRoundTrip : Prop :=
  ∀ (i : Instr) (kind : RequestKind) (tag : Byte) (body : Bytes), requestRecord i = some (kind, tag, body) →
    RequestKind.ofCode kind.code = some kind ∧ kind.command tag body = i

/-- A request command is the arrival of the complete record that it stands for, with a good check (R165, R168, R171; that the
table's request rows are whole records is the model's reading, assumption 5). -/
def Obligations.RequestsAreRecords : Prop :=
  ∀ (i : Instr) (kind : RequestKind) (tag : Byte) (body : Bytes) (s : State), i.wellFormed = true →
    requestRecord i = some (kind, tag, body) → exec i s = exec (.recordComplete (goodRecord kind tag body)) s

/-- The table of R166: a record that arrives while a reply is owed is marked BUSY unread; while a BUSY is owed it is lost as
OVERRUN; the end of a reply frees the line, or starts the BUSY reply; with nothing owed no end can occur. -/
def Obligations.OneReplyIsOwed : Prop :=
  ∀ (r : Record) (s : State), s.pins.resetLow = false →
    (∀ x, s.replyOwed = some x → s.busyOwed = none →
      exec (.recordComplete r) s = .next { counted s with busyOwed := some { kind := r.kind, tag := r.tag } }
      ∧ ((x.kind ≠ 0x82 ∨ x.body ≠ [0x00]) → exec .replySent s = .next { s with replyOwed := none }))
    ∧ (∀ m, s.busyOwed = some m →
      exec (.recordComplete r) s = .next (withFault .overrun 4 (some r.tag) (counted s)))
    ∧ (∀ x m, s.replyOwed = some x → s.busyOwed = some m → (x.kind ≠ 0x82 ∨ x.body ≠ [0x00]) →
      ∃ t, exec .replySent s = .next t ∧ t = { s with replyOwed := none }
      ∧ t.sending = some { kind := if m.kind.toNat < 0x80 then m.kind + 0x80 else 0xFF, tag := m.tag, body := [0x11] })
    ∧ (∀ m, s.replyOwed = none → s.busyOwed = some m → exec .replySent s = .next { s with busyOwed := none })
    ∧ (s.replyOwed = none → s.busyOwed = none → exec .replySent s = .refused .eventCannotOccur)

/-- RECORD_COMPLETE with nothing owed: a bad check is answered BAD_CHECK with a fault (R165); an unknown kind UNKNOWN_KIND
with a fault, in every part state; a known kind in TESTING, or in HALTED unless it is IDENTIFY, FAULTS_READ or RESET,
NOT_READY; a body outside the range of R171 BAD_LENGTH (R168). None has another effect. -/
def Obligations.RecordsAreRefused : Prop :=
  ∀ (r : Record) (s : State), s.pins.resetLow = false → s.replyOwed = none → s.busyOwed = none →
    let good := crc16 (toLE 2 (r.body.length + 2) ++ [r.kind, r.tag] ++ r.body) = r.check
    let reply : Byte := if r.kind.toNat < 0x80 then r.kind + 0x80 else 0xFF
    let known := 1 ≤ r.kind.toNat ∧ r.kind.toNat ≤ 0x1A
    (¬good → exec (.recordComplete r) s
      = .next (owingRefusal reply r.tag 0x01 (withFault .badCheck 1 (some r.tag) (counted s))))
    ∧ (good → ¬known → exec (.recordComplete r) s
      = .next (owingRefusal reply r.tag 0x03 (withFault .unknownKind 3 (some r.tag) (counted s))))
    ∧ (good → known → (s.partState = .testing
        ∨ s.partState = .halted ∧ r.kind ≠ 0x01 ∧ r.kind ≠ 0x02 ∧ r.kind ≠ 0x19) →
      exec (.recordComplete r) s = .next (owingRefusal reply r.tag 0x10 (counted s)))
    ∧ (good → s.partState = .running → ∀ kind, RequestKind.ofCode r.kind = some kind →
        (r.body.length < kind.bodyRange.1 ∨ kind.bodyRange.2 < r.body.length) →
      exec (.recordComplete r) s = .next (owingRefusal reply r.tag 0x02 (counted s)))

/-- REPLY_SENT for the reply to RESET: the soft reset keeps the straps, the hardware fault record, the lanes out of service,
the part state, the divider's counts and locked steering entries, and gives everything else its reset value; a BUSY owed is
removed (R183, R167, R186). That a link left DOWN has settle remaining 0 is the model's choice (assumption 3), and so is its own
count of self-tests, which a reset keeps (assumption 9). -/
def Obligations.SoftResetFollowsItsReply : Prop :=
  ∀ (tag : Byte) (s : State), s.pins.resetLow = false → s.replyOwed = some { kind := 0x82, tag := tag, body := [0x00] } →
    ∃ t, exec .replySent s = .next t
    ∧ t.pending = s.pending ∧ t.openSelfTests = s.openSelfTests ∧ t.pins = s.pins ∧ t.straps = s.straps ∧ t.partState = s.partState
    ∧ t.clockCount = s.clockCount ∧ t.fineCount = s.fineCount ∧ t.hwFaults = s.hwFaults
    ∧ (∀ l, t.lane l = if s.lane l = .outOfService then .outOfService else .idle)
    ∧ (∀ i, t.entry i = if (s.entry i).locked then { s.entry i with hits := 0 } else SteerEntry.reset)
    ∧ (∀ p, t.port p = portAfterReset (row s.pins.campusLink p)) ∧ (∀ a, t.assoc a = Assoc.reset)
    ∧ (∀ k, t.slot k = Slot.empty) ∧ t.transportKey = none ∧ t.expansionFifo = [] ∧ t.scrubPointer = 0
    ∧ t.verifyQueue = [] ∧ t.roundRobin = 0 ∧ t.eventsLost = false ∧ t.eventMask = BitVec.allOnes 21
    ∧ t.faultList = [] ∧ t.receiver = .hunt ∧ t.requestInbox = none ∧ t.requestCount = 0 ∧ t.replyOwed = none
    ∧ t.busyOwed = none ∧ t.inhibit = (if s.pins.inhibitLow then .asserted else .released)
    ∧ t.events = if s.pins.inhibitLow then [{ kind := .inhibitOn, source := .part, count := 1, detail := 0 }] else []

/-! ## Requests on ports and steering -/

/-- The requests that only report, and RESET, answer OK with the fields of R171 and change nothing else: IDENTIFY and RESET,
in HALTED too (R186), PORT_GET (R3), STEER_GET (R35), ASSOC_GET with its 55 bytes (R50), SLOT_GET (R75); a number out of range
is BAD_VALUE. That PORT_GET and STEER_GET report 0xFF as the ANUM byte beside PASS and DROP is the model's reading (assumption
13), and so is that a set flag reads 1 (assumption 32). -/
def Obligations.ReportsChangeNothing : Prop :=
  (∀ (tag : Byte) (s : State), s.pins.resetLow = false → s.replyOwed = none → s.busyOwed = none →
    (s.partState = .running ∨ s.partState = .halted) →
    exec (.identify tag) s = .next (owingOk 0x81 tag
      ([0x46, 0x40, 0x04, 0x01, BitVec.ofNat 8 s.straps.rate.val, yesNo s.straps.clear,
          if s.partState = .running then 0x01 else 0x02]
        ++ [BitVec.ofNat 8 ((allLanes.filter fun l => s.lane l != .outOfService).map fun l => 2 ^ l.val).sum]) (counted s))
    ∧ exec (.reset tag) s = .next (owingOk 0x82 tag [] (counted s)))
  ∧ ∀ (tag b : Byte) (s : State), TakesRequests s →
    (4 ≤ b.toNat → exec (.portGet tag b) s = .next (owingRefusal 0x85 tag 0x04 (counted s)))
    ∧ (128 ≤ b.toNat → exec (.steerGet tag b) s = .next (owingRefusal 0x89 tag 0x04 (counted s)))
    ∧ (64 ≤ b.toNat → exec (.assocGet tag b) s = .next (owingRefusal 0x91 tag 0x04 (counted s)))
    ∧ (128 ≤ b.toNat → exec (.slotGet tag b) s = .next (owingRefusal 0x97 tag 0x04 (counted s)))
    ∧ (∀ p : PortNum, b.toNat = p.val →
        let x := (s.port p).settings
        exec (.portGet tag b) s = .next (owingOk 0x85 tag
          (toBE 6 x.portAddress.toNat ++ toBE 6 x.peerAddress.toNat ++ toLE 2 x.frameCeiling ++ toLE 2 x.clpType.toNat
            ++ (x.classMap.toList.map fun k => BitVec.ofNat 8 k.val) ++ [BitVec.ofNat 8 x.untaggedClass.val]
            ++ x.defaultAction.bytes
            ++ [BitVec.ofNat 8 x.settle, x.linkDownPolicy.code, x.inhibitAction.code, (s.port p).mode.code,
                (s.port p).link.code, yesNo (row s.hwFaults.buffers p)]) (counted s)))
    ∧ (∀ i : EntryIdx, b.toNat = i.val →
        let e := s.entry i
        exec (.steerGet tag b) s = .next (owingOk 0x89 tag
          ([yesNo e.valid, yesNo e.locked, e.ports.setWidth 8, e.tagging.code]
            ++ toLE 2 e.vlanValue.toNat ++ toLE 2 e.vlanMask.toNat ++ [e.prioValue.setWidth 8, e.prioMask.setWidth 8]
            ++ toBE 6 e.addressValue.toNat ++ toBE 6 e.addressMask.toNat ++ toLE 2 e.typeValue.toNat
            ++ toLE 2 e.typeMask.toNat ++ e.action.bytes ++ [optionByte e.classOverride] ++ toLE 6 e.hits) (counted s)))
    ∧ (∀ a : Anum, b.toNat = a.val →
        let x := s.assoc a
        let attempt : Bytes := match x.attempt with
          | some y => [1, BitVec.ofNat 8 y.number, BitVec.ofNat 8 y.step, BitVec.ofNat 8 y.pulses,
              if y.status = .queued then 0 else 1]
          | none => [0, 0, 0, 0, 0]
        let fields : Bytes := [x.state.code, BitVec.ofNat 8 x.port.val, x.protection.code, x.vlan.code]
          ++ toBE 4 x.label.toNat ++ [x.firstEpoch, x.currentEpoch, optionByte x.current, optionByte x.next]
          ++ toLE 5 x.nextPn ++ [if Config.pnMax < x.nextPn then 1 else 0] ++ toLE 5 x.switchMark ++ toLE 5 x.stopMark
          ++ [x.triggerPolicy.code, x.confirmPolicy.code] ++ toLE 2 x.lifetimeReload ++ [x.lifetimeScale.code]
          ++ toLE 2 x.lifetimeRemaining ++ [yesNo x.switchPending, yesNo x.switchDue]
          ++ [match x.pendingKind with | some kind => kind.code | none => 0xFF]
          ++ [yesNo x.corruptOne, yesNo x.corruptAll] ++ toLE 5 x.floorCurrent ++ toLE 5 x.floorNext ++ attempt
        fields.length = 55 ∧ exec (.assocGet tag b) s = .next (owingOk 0x91 tag fields (counted s)))
    ∧ (∀ k : SlotNum, b.toNat = k.val →
        let x := s.slot k
        exec (.slotGet tag b) s = .next (owingOk 0x97 tag
          ([x.state.code, optionByte x.owner, x.epoch, x.size.code] ++ toBE 3 x.checkValue.toNat
            ++ [BitVec.ofNat 8 x.inFlight, (s.expansionStatus k).code, yesNo s.transportKey.isSome]) (counted s)))

/-- PORT_SET: a port above 3 is BAD_VALUE, a port in PROTECT PORT_ACTIVE, and a body that fails one of checks 3 to 7 of R2
BAD_VALUE, each with the settings kept; else every setting is replaced, the frame ceiling clamped to 64..9216 and reported (R2).
PORT_SWITCH writes the retry steps of a port in OFF, each above 7 becoming 7, unless the first is then greater than the last;
a port above 3 is BAD_VALUE, one in PROTECT PORT_ACTIVE (R138). -/
def Obligations.PortSetAndPortSwitch : Prop :=
  (∀ (tag : Byte) (b : PortSetBody) (s : State), TakesRequests s →
    (4 ≤ b.port.toNat → exec (.portSet tag b) s = .next (owingRefusal 0x83 tag 0x04 (counted s)))
    ∧ ∀ p : PortNum, b.port.toNat = p.val →
      let valid (classMap : Vector ClassNum 8) (untagged : ClassNum) (action : Action) (policy : LinkDownPolicy)
          (inhibit : InhibitAction) : Prop :=
        b.portAddress.getLsbD 40 = false ∧ b.peerAddress.getLsbD 40 = false ∧ 0x0600 ≤ b.clpType.toNat
          ∧ b.clpType ≠ 0x8100 ∧ b.clpType ≠ 0x8808 ∧ (∀ q : Prio, (row b.classes q).toNat = (row classMap q).val)
          ∧ b.untaggedClass.toNat = untagged.val ∧ b.settle ≠ 0 ∧ b.linkDownPolicy = policy.code
          ∧ b.inhibitAction = inhibit.code ∧ CodesAction b.action b.actionAnum action
          ∧ (action = .pass → s.straps.clear = true)
          ∧ ∀ a, action = .protect a → (s.assoc a).state = .idle ∨ (s.assoc a).port = p
      ((s.port p).mode = .protect → exec (.portSet tag b) s = .next (owingRefusal 0x83 tag 0x06 (counted s)))
      ∧ ((s.port p).mode = .off → (∀ classMap untagged action policy inhibit,
          ¬valid classMap untagged action policy inhibit) →
        exec (.portSet tag b) s = .next (owingRefusal 0x83 tag 0x04 (counted s)))
      ∧ ∀ classMap untagged action policy inhibit, (s.port p).mode = .off →
        valid classMap untagged action policy inhibit →
        let ceiling := max 64 (min b.frameCeiling.toNat 9216)
        exec (.portSet tag b) s = .next (owingOk 0x83 tag (toLE 2 ceiling) ((counted s).updPort p fun x =>
          { x with settings := {
              portAddress := b.portAddress, peerAddress := b.peerAddress, frameCeiling := ceiling, clpType := b.clpType,
              classMap := classMap, untaggedClass := untagged, defaultAction := action, settle := b.settle.toNat,
              linkDownPolicy := policy, inhibitAction := inhibit } })))
  ∧ ∀ (tag b first last : Byte) (s : State), TakesRequests s →
    (4 ≤ b.toNat → exec (.portSwitch tag b first last) s = .next (owingRefusal 0x87 tag 0x04 (counted s)))
    ∧ ∀ p : PortNum, b.toNat = p.val →
      ((s.port p).mode = .protect →
        exec (.portSwitch tag b first last) s = .next (owingRefusal 0x87 tag 0x06 (counted s)))
      ∧ ((s.port p).mode = .off → min last.toNat 7 < min first.toNat 7 →
        exec (.portSwitch tag b first last) s = .next (owingRefusal 0x87 tag 0x04 (counted s)))
      ∧ ((s.port p).mode = .off → min first.toNat 7 ≤ min last.toNat 7 → exec (.portSwitch tag b first last) s
        = .next (owingOk 0x87 tag [BitVec.ofNat 8 (min first.toNat 7), BitVec.ofNat 8 (min last.toNat 7)]
            ((counted s).updPort p fun x =>
              { x with firstStep := min first.toNat 7, lastStep := min last.toNat 7 })))

/-- PORT_MODE: a port above 3 or a mode above 1 is BAD_VALUE; to the mode in force nothing changes; to PROTECT with a buffer
fault FAULTED; to PROTECT the link-down flush may come into force (R109) and the port's pending switches begin (R132, R133), the
others stay; to OFF the class queues are flushed and WAITING_LANE entries leave as port-off drops, IN_LANE and DONE entries stay
but for heads that R7 does not send, and the port's exchanges are abandoned with SWITCH_ABORTED, detail PORT_OFF; a flush ends
holding and owes the pause frames of R112 (R5, R6, R77, R98, R105, R111, R156, R157). Of the other ports it speaks only to OFF,
where they stay: to PROTECT a cut-over may withdraw a verification of a frame that another port's reply inbox holds. -/
def Obligations.PortModeChanges : Prop :=
  (∀ (tag b mode : Byte) (s : State), TakesRequests s → (4 ≤ b.toNat ∨ 2 ≤ mode.toNat) →
    exec (.portMode tag b mode) s = .next (owingRefusal 0x84 tag 0x04 (counted s)))
  ∧ ∀ (tag b : Byte) (p : PortNum) (s : State), TakesRequests s → b.toNat = p.val →
    ((s.port p).mode = .off → exec (.portMode tag b 0) s = .next (owingOk 0x84 tag [0] (counted s)))
    ∧ ((s.port p).mode = .protect → exec (.portMode tag b 1) s = .next (owingOk 0x84 tag [1] (counted s)))
    ∧ ((s.port p).mode = .off → row s.hwFaults.buffers p = true →
        exec (.portMode tag b 1) s = .next (owingRefusal 0x84 tag 0x07 (counted s)))
    ∧ (Coherent s → (s.port p).mode = .off → row s.hwFaults.buffers p = false →
        let begins (a : Anum) : Prop := (s.assoc a).port = p ∧ (s.assoc a).triggerPolicy = .auto
          ∧ (s.assoc a).switchPending = true ∧ SwitchCanStart s a .protect s.inhibit
        let x : Port := { s.port p with mode := .protect }
        ∃ t, exec (.portMode tag b 1) s = .next t
        ∧ t.replyOwed = some { kind := 0x84, tag := tag, body := [0, 1] } ∧ (t.port p).core = x.core
        ∧ (∀ a, begins a → (s.assoc a).confirmPolicy = .confirmed →
            t.assoc a = (s.assoc a).announced (s.port p).firstStep ∧ a ∈ (t.port p).controlQueue)
        ∧ (∀ a k, begins a → (s.assoc a).confirmPolicy = .unilateral → (s.assoc a).next = some k →
            t.assoc a = ((s.assoc a).unflagged.switched k (s.slot k).epoch).withSwitchDone
            ∧ (entriesAgainst t k = entriesAgainst s k → t.slot k = { s.slot k with state := .active })
            ∧ ∀ j, (s.assoc a).current = some j → entriesAgainst t j = entriesAgainst s j →
              t.slot j = (s.slot j).outgoing)
        ∧ (∀ a, ¬begins a → t.assoc a = s.assoc a)
        ∧ SlotsStandBut (fun k => ∃ a, begins a ∧ (s.assoc a).confirmPolicy = .unilateral
            ∧ ((s.assoc a).current = some k ∨ (s.assoc a).next = some k)) s t
        ∧ (x.flushes s.inhibit → QueuesFlushed x (t.port p) ∧ HeadsLeft x s.inhibit x.queued 0 (t.port p))
        ∧ (¬x.flushes s.inhibit → QueuesKept x (t.port p) ∧ HeadsLeft x s.inhibit 0 0 (t.port p))
        ∧ SameCountersBut [.linkDownFlush, .inhibitDrops, .staleReplies] x (t.port p) ∧ t.steering = s.steering)
    ∧ ((s.port p).mode = .protect →
        let x : Port := { s.port p with
          mode := .off, sequence := (s.port p).sequence.filter fun e => e.status != .waitingLane }
        ∃ t, exec (.portMode tag b 0) s = .next t
        ∧ t.replyOwed = some { kind := 0x84, tag := tag, body := [0, 0] } ∧ (t.port p).core = x.core
        ∧ QueuesFlushed x (t.port p) ∧ HeadsLeft x s.inhibit 0 0 (t.port p)
        ∧ row (t.port p).counters PortCounter.portOffDrops.index
          = drops (row (s.port p).counters PortCounter.portOffDrops.index)
              ((s.port p).queued + (s.port p).sequence.countP fun e => e.status == .waitingLane)
        ∧ SameCountersBut [.portOffDrops, .linkDownFlush, .inhibitDrops] (s.port p) (t.port p)
        ∧ (t.port p).inbox = (s.port p).inbox ∧ SlotsStandBut (fun _ => False) s t
        ∧ (∀ a, (s.assoc a).port = p → (s.assoc a).attempt ≠ none → t.assoc a = { s.assoc a with
            attempt := none, state := if (s.assoc a).state = .switching then .running else (s.assoc a).state }
            ∧ a ∉ (t.port p).controlQueue
            ∧ (s.events = [] → s.eventMask = BitVec.allOnes 21 →
              { kind := .switchAborted, source := .assoc a, count := 1, detail := 0 } ∈ t.events))
        ∧ (∀ a, ((s.assoc a).port ≠ p ∨ (s.assoc a).attempt = none) → t.assoc a = s.assoc a)
        ∧ (∀ q, q ≠ p → t.port q = s.port q) ∧ t.steering = s.steering)

/-- PORT_FLOW: the checks of R107 in order, each with its status; when every check passes the flow settings are replaced
together, a Q of 0 becoming 1, and the reply carries the settings now in force (R107). That the pause enable byte codes ON as 0
and OFF as 1 is the model's reading of R106 and R169 (assumption 14). -/
def Obligations.PortFlowReplacesTheSettings : Prop :=
  ∀ (tag : Byte) (b : PortFlowBody) (s : State),
    (NotRunning s → exec (.portFlow tag b) s = .next (owingRefusal 0x86 tag 0x10 (counted s)))
    ∧ (TakesRequests s → 4 ≤ b.port.toNat → exec (.portFlow tag b) s = .next (owingRefusal 0x86 tag 0x04 (counted s)))
    ∧ ∀ p : PortNum, TakesRequests s → b.port.toNat = p.val →
      let ceilings := (row b.ceiling 0).toNat + (row b.ceiling 1).toNat + (row b.ceiling 2).toNat + (row b.ceiling 3).toNat
      let valid : Prop := (b.pauseEnable = 0 ∨ b.pauseEnable = 1) ∧ ceilings ≤ 2048
        ∧ ∀ k : ClassNum, 0 < (row b.lower k).toNat ∧ (row b.lower k).toNat < (row b.upper k).toNat
          ∧ (row b.upper k).toNat ≤ (row b.ceiling k).toNat ∧ (row b.ceiling k).toNat ≤ 2048
      let flow : FlowSettings := {
        pauseEnable := b.pauseEnable == 0
        ceiling := Vector.ofFn fun k => (row b.ceiling k).toNat
        upper := Vector.ofFn fun k => (row b.upper k).toNat
        lower := Vector.ofFn fun k => (row b.lower k).toNat
        quanta := if b.quanta = 0 then 1 else b.quanta.toNat }
      ((s.port p).mode = .protect → exec (.portFlow tag b) s = .next (owingRefusal 0x86 tag 0x06 (counted s)))
      ∧ ((s.port p).mode = .off → ¬valid → exec (.portFlow tag b) s = .next (owingRefusal 0x86 tag 0x04 (counted s)))
      ∧ ((s.port p).mode = .off → valid → exec (.portFlow tag b) s = .next (owingOk 0x86 tag
          ([b.pauseEnable] ++ (b.ceiling.toList.flatMap fun x => toLE 2 x.toNat)
            ++ (b.upper.toList.flatMap fun x => toLE 2 x.toNat) ++ (b.lower.toList.flatMap fun x => toLE 2 x.toNat)
            ++ toLE 2 flow.quanta) ((counted s).updPort p fun x => { x with flow := flow })))

/-- STEER_SET, STEER_LOCK and STEER_CLEAR: an index above 127 is BAD_VALUE; a locked entry is neither replaced nor cleared;
a body that fails a check is BAD_VALUE and otherwise replaces the entry; a valid entry is locked; an unlocked one is cleared
to its reset contents (R34, R36, R37). That a VLAN or priority value is bounded by check 3 of R34 where its mask is zero too,
although R171 gives such a value as an example of a field that is not examined, is the model's choice (assumption 30). -/
def Obligations.SteeringRequests : Prop :=
  ∀ (tag : Byte) (s : State), TakesRequests s →
    (∀ b : SteerSetBody, 128 ≤ b.index.toNat → exec (.steerSet tag b) s = .next (owingRefusal 0x88 tag 0x04 (counted s)))
    ∧ (∀ b : Byte, 128 ≤ b.toNat → exec (.steerLock tag b) s = .next (owingRefusal 0x8A tag 0x04 (counted s))
        ∧ exec (.steerClear tag b) s = .next (owingRefusal 0x8B tag 0x04 (counted s)))
    ∧ ∀ i : EntryIdx,
      (∀ b : SteerSetBody, b.index.toNat = i.val →
        let valid (tagging : Tagging) (action : Action) (override : Option ClassNum) : Prop :=
          b.tagging = tagging.code ∧ b.ports.toNat < 16
            ∧ b.vlanValue.toNat < 4096 ∧ b.vlanMask.toNat < 4096 ∧ b.prioValue.toNat < 8 ∧ b.prioMask.toNat < 8
            ∧ (tagging = .untagged → b.vlanMask = 0 ∧ b.prioMask = 0)
            ∧ CodesAction b.action b.actionAnum action ∧ (action = .pass → s.straps.clear = true)
            ∧ b.classOverride = optionByte override
        ((s.entry i).locked = true → exec (.steerSet tag b) s = .next (owingRefusal 0x88 tag 0x0D (counted s)))
        ∧ ((s.entry i).locked = false → (∀ tagging action override, ¬valid tagging action override) →
          exec (.steerSet tag b) s = .next (owingRefusal 0x88 tag 0x04 (counted s)))
        ∧ ∀ tagging action override, (s.entry i).locked = false → valid tagging action override →
          exec (.steerSet tag b) s = .next (owingOk 0x88 tag [] ((counted s).updEntry i fun _ =>
            { valid := true, locked := false, ports := b.ports.setWidth 4, tagging := tagging,
              vlanValue := b.vlanValue.setWidth 12, vlanMask := b.vlanMask.setWidth 12,
              prioValue := b.prioValue.setWidth 3, prioMask := b.prioMask.setWidth 3,
              addressValue := b.addressValue, addressMask := b.addressMask, typeValue := b.typeValue,
              typeMask := b.typeMask, action := action, classOverride := override, hits := 0 })))
      ∧ ∀ b : Byte, b.toNat = i.val →
        ((s.entry i).valid = true → exec (.steerLock tag b) s
          = .next (owingOk 0x8A tag [] ((counted s).updEntry i fun e => { e with locked := true })))
        ∧ ((s.entry i).valid = false → exec (.steerLock tag b) s = .next (owingRefusal 0x8A tag 0x05 (counted s)))
        ∧ ((s.entry i).locked = false → exec (.steerClear tag b) s
          = .next (owingOk 0x8B tag [] ((counted s).updEntry i fun _ => SteerEntry.reset)))
        ∧ ((s.entry i).locked = true → exec (.steerClear tag b) s = .next (owingRefusal 0x8B tag 0x0D (counted s)))

/-! ## Requests on associations -/

/-- ASSOC_SET: the checks of R44 in order, each with its status; when every check passes the eleven configured fields are
replaced, current epoch, next_pn, the flags, the floors and lifetime remaining are set, a held next slot is kept, and the
corrupt flags are cleared only from IDLE (R44, R45). -/
def Obligations.AssocSetConfigures : Prop :=
  ∀ (tag : Byte) (b : AssocSetBody) (s : State), TakesRequests s →
    (64 ≤ b.anum.toNat → exec (.assocSet tag b) s = .next (owingRefusal 0x8C tag 0x04 (counted s)))
    ∧ ∀ a : Anum, b.anum.toNat = a.val →
      let x := s.assoc a
      let marks : Prop := 1 ≤ b.switchMark.toNat ∧ b.switchMark.toNat < b.stopMark.toNat
        ∧ b.stopMark.toNat ≤ 1099511627519
      let codes (port : PortNum) (protection : Protection) (vlan : VlanHandling) (trigger : TriggerPolicy)
          (confirm : ConfirmPolicy) (scale : LifetimeScale) : Prop :=
        b.port.toNat = port.val ∧ b.protection = protection.code ∧ b.vlan = vlan.code ∧ b.triggerPolicy = trigger.code
          ∧ b.confirmPolicy = confirm.code ∧ b.lifetimeScale = scale.code
      (x.state ≠ .idle → x.state ≠ .configured →
        exec (.assocSet tag b) s = .next (owingRefusal 0x8C tag 0x05 (counted s)))
      ∧ ((x.state = .idle ∨ x.state = .configured) →
          (¬marks ∨ ∀ port protection vlan trigger confirm scale, ¬codes port protection vlan trigger confirm scale) →
        exec (.assocSet tag b) s = .next (owingRefusal 0x8C tag 0x04 (counted s)))
      ∧ ∀ port protection vlan trigger confirm scale, (x.state = .idle ∨ x.state = .configured) → marks →
        codes port protection vlan trigger confirm scale →
        (∀ k, x.next = some k → (s.slot k).epoch ≠ b.firstEpoch →
          exec (.assocSet tag b) s = .next (owingRefusal 0x8C tag 0x09 (counted s)))
        ∧ ((∀ k, x.next = some k → (s.slot k).epoch = b.firstEpoch) → exec (.assocSet tag b) s
          = .next (owingOk 0x8C tag [] ((counted s).updAssoc a fun y => { y with
              state := .configured, port := port, protection := protection, vlan := vlan, label := b.label,
              firstEpoch := b.firstEpoch, switchMark := b.switchMark.toNat, stopMark := b.stopMark.toNat,
              triggerPolicy := trigger, confirmPolicy := confirm, lifetimeReload := b.lifetimeReload.toNat,
              lifetimeScale := scale, currentEpoch := b.firstEpoch, nextPn := 1, switchPending := false,
              switchDue := false, pendingKind := none, floorCurrent := 0, floorNext := 0, lifetimeRemaining := 0,
              corruptOne := if x.state = .idle then false else y.corruptOne
              corruptAll := if x.state = .idle then false else y.corruptAll })))

/-- ASSOC_START takes a CONFIGURED association's READY next slot into service (R46); ASSOC_SUSPEND takes a RUNNING one to
SUSPENDED (R47), and ASSOC_RESUME back, where a switch held pending under AUTO begins if it can start (R48, R131, R132), by an
exchange under CONFIRMED (R136) and by a cut-over under UNILATERAL (R137). Else BAD_VALUE, STATE or NO_KEY. -/
def Obligations.AssocStartsSuspendsAndResumes : Prop :=
  (∀ (tag b : Byte) (s : State), TakesRequests s → 64 ≤ b.toNat →
    exec (.assocStart tag b) s = .next (owingRefusal 0x8D tag 0x04 (counted s))
    ∧ exec (.assocSuspend tag b) s = .next (owingRefusal 0x8E tag 0x04 (counted s))
    ∧ exec (.assocResume tag b) s = .next (owingRefusal 0x8F tag 0x04 (counted s)))
  ∧ ∀ (tag b : Byte) (a : Anum) (s : State), TakesRequests s → b.toNat = a.val →
    let x := s.assoc a
    let resumed := (counted s).updAssoc a fun y => { y with state := .running }
    (x.state ≠ .configured → exec (.assocStart tag b) s = .next (owingRefusal 0x8D tag 0x05 (counted s)))
    ∧ (x.state = .configured → s.nextReady a = false →
        exec (.assocStart tag b) s = .next (owingRefusal 0x8D tag 0x0E (counted s)))
    ∧ (∀ k, x.state = .configured → x.next = some k → (s.slot k).state = .ready → exec (.assocStart tag b) s
        = .next (owingOk 0x8D tag [(s.slot k).epoch] (((counted s).updSlot k fun y => { y with state := .active }).updAssoc
            a fun y => { y with
              state := .running, current := some k, next := none, currentEpoch := (s.slot k).epoch, nextPn := 1,
              lifetimeRemaining := y.lifetimeReload, switchPending := false, switchDue := false, pendingKind := none,
              floorCurrent := 0, floorNext := 0 })))
    ∧ (x.state = .running → exec (.assocSuspend tag b) s
        = .next (owingOk 0x8E tag [] ((counted s).updAssoc a fun y => { y with state := .suspended })))
    ∧ (x.state ≠ .running → exec (.assocSuspend tag b) s = .next (owingRefusal 0x8E tag 0x05 (counted s)))
    ∧ (x.state ≠ .suspended → exec (.assocResume tag b) s = .next (owingRefusal 0x8F tag 0x05 (counted s)))
    ∧ (x.state = .suspended → (x.triggerPolicy = .manual ∨ x.switchPending = false
          ∨ ¬SwitchCanStart resumed a (s.port x.port).mode s.inhibit) →
        exec (.assocResume tag b) s
          = .next (owingOk 0x8F tag [] resumed))
    ∧ (x.state = .suspended → x.triggerPolicy = .auto → x.switchPending = true → x.confirmPolicy = .confirmed →
        s.nextReady a = true → x.attempt = none → (s.port x.port).mode = .protect → s.inhibit = .released →
        exec (.assocResume tag b) s = .next (owingOk 0x8F tag []
          (((counted s).updAssoc a fun y => Assoc.announced (s.port x.port).firstStep { y with state := .running }).updPort
            x.port fun y => { y with controlQueue := y.controlQueue ++ [a] })))
    ∧ (∀ k, x.state = .suspended → x.triggerPolicy = .auto → x.switchPending = true → x.confirmPolicy = .unilateral →
        SwitchCanStart resumed a (s.port x.port).mode s.inhibit → x.next = some k → x.current ≠ some k →
        ∃ t, exec (.assocResume tag b) s = .next t ∧ t.replyOwed = some { kind := 0x8F, tag := tag, body := [0x00] }
        ∧ CutOver a k resumed t ∧ (∀ c, (t.assoc c).corruptOne = (s.assoc c).corruptOne)
        ∧ ∀ p, (t.port p).sequence = (s.port p).sequence ∧ (t.port p).queues = (s.port p).queues)

/-- ASSOC_CLEAR answers OK in every state: IDLE is not changed; else the exchange is abandoned with CLEAR, the current slot
leaves service, the next slot is emptied with its expansion request, and the record takes its reset values but for the
counters; queued and sequenced frames stay; KEY_RETIRED is raised for a current slot without entries (R49, R77). An ANUM above
63 is BAD_VALUE. -/
def Obligations.AssocClearEmptiesTheRecord : Prop :=
  (∀ (tag b : Byte) (s : State), TakesRequests s → 64 ≤ b.toNat →
    exec (.assocClear tag b) s = .next (owingRefusal 0x90 tag 0x04 (counted s)))
  ∧ ∀ (tag b : Byte) (a : Anum) (s : State), TakesRequests s → b.toNat = a.val →
    let x := s.assoc a
    (x.state = .idle → exec (.assocClear tag b) s = .next (owingOk 0x90 tag [] (counted s)))
    ∧ (x.state ≠ .idle → Coherent s → ∃ t, exec (.assocClear tag b) s = .next t
      ∧ t.replyOwed = some { kind := 0x90, tag := tag, body := [0x00] }
      ∧ t.assoc a = { Assoc.reset with counters := x.counters } ∧ (∀ c, c ≠ a → t.assoc c = s.assoc c)
      ∧ a ∉ (t.port x.port).controlQueue
      ∧ (∀ j, x.current = some j → t.slot j = (s.slot j).outgoing
        ∧ ((s.slot j).inFlight = 0 → EventsOpen s → Listed .keyRetired (.slot j) t))
      ∧ (∀ k, x.next = some k → t.slot k = Slot.empty ∧ k ∉ t.expansionFifo)
      ∧ (∀ k, x.current ≠ some k → x.next ≠ some k → t.slot k = s.slot k)
      ∧ (x.attempt ≠ none → s.events = [] → s.eventMask = BitVec.allOnes 21 →
          t.events.head? = some { kind := .switchAborted, source := .assoc a, count := 1, detail := 2 })
      ∧ (∀ p, (t.port p).sequence = (s.port p).sequence ∧ (t.port p).queues = (s.port p).queues)
      ∧ t.steering = s.steering ∧ t.transportKey = s.transportKey)

/-- TEST_CORRUPT: ONE sets corrupt-one, ALL corrupt-all, NONE clears both, and the reply carries the flags; another action,
or an ANUM above 63, is BAD_VALUE, an IDLE association STATE (R100). That a set flag reads 1 in the reply is the model's reading
(assumption 32). -/
def Obligations.TestCorruptSetsTheFlags : Prop :=
  (∀ (tag b action : Byte) (s : State), TakesRequests s → 64 ≤ b.toNat →
    exec (.testCorrupt tag b action) s = .next (owingRefusal 0x92 tag 0x04 (counted s)))
  ∧ ∀ (tag b : Byte) (a : Anum) (s : State), TakesRequests s → b.toNat = a.val →
    let x := s.assoc a
    (∀ action : Byte, 2 < action.toNat →
      exec (.testCorrupt tag b action) s = .next (owingRefusal 0x92 tag 0x04 (counted s)))
    ∧ (∀ action : Byte, action.toNat ≤ 2 → x.state = .idle →
      exec (.testCorrupt tag b action) s = .next (owingRefusal 0x92 tag 0x05 (counted s)))
    ∧ (x.state ≠ .idle →
      exec (.testCorrupt tag b 0) s = .next (owingOk 0x92 tag [1, yesNo x.corruptAll]
        ((counted s).updAssoc a fun y => { y with corruptOne := true }))
      ∧ exec (.testCorrupt tag b 1) s = .next (owingOk 0x92 tag [yesNo x.corruptOne, 1]
        ((counted s).updAssoc a fun y => { y with corruptAll := true }))
      ∧ exec (.testCorrupt tag b 2) s = .next (owingOk 0x92 tag [0, 0]
        ((counted s).updAssoc a fun y => { y with corruptOne := false, corruptAll := false })))

/-- SWITCH_NOW: the checks of R159 in order; under CONFIRMED the exchange begins with attempt 1 QUEUED (R136), under
UNILATERAL the cut-over of R157 is made, and the reply reports the one or the other. An ANUM above 63 is BAD_VALUE. -/
def Obligations.SwitchNowBeginsTheSwitch : Prop :=
  (∀ (tag b : Byte) (s : State), TakesRequests s → 64 ≤ b.toNat →
    exec (.switchNow tag b) s = .next (owingRefusal 0x93 tag 0x04 (counted s)))
  ∧ ∀ (tag b : Byte) (a : Anum) (s : State), TakesRequests s → b.toNat = a.val →
    let x := s.assoc a
    let blocked : Prop := x.confirmPolicy = .confirmed ∧ ((s.port x.port).mode = .off ∨ s.inhibit = .asserted)
    let begins : Prop := (x.state = .running ∨ x.state = .exhausted) ∧ x.attempt = none
    (¬begins → exec (.switchNow tag b) s = .next (owingRefusal 0x93 tag 0x05 (counted s)))
    ∧ (begins → s.nextReady a = false → exec (.switchNow tag b) s = .next (owingRefusal 0x93 tag 0x0E (counted s)))
    ∧ (begins → s.nextReady a = true → blocked →
        exec (.switchNow tag b) s = .next (owingRefusal 0x93 tag 0x05 (counted s)))
    ∧ (begins → s.nextReady a = true → ¬blocked → x.confirmPolicy = .confirmed → exec (.switchNow tag b) s
        = .next (owingOk 0x93 tag [0, 1, BitVec.ofNat 8 (s.port x.port).firstStep]
          (((counted s).updAssoc a (Assoc.announced (s.port x.port).firstStep)).updPort x.port fun y =>
            { y with controlQueue := y.controlQueue ++ [a] })))
    ∧ (∀ k, begins → x.next = some k → (s.slot k).state = .ready → x.confirmPolicy = .unilateral → x.current ≠ some k →
        ∃ t, exec (.switchNow tag b) s = .next t
        ∧ t.replyOwed = some { kind := 0x93, tag := tag, body := [0x00, 1, (s.slot k).epoch, 0] }
        ∧ t.assoc a = Assoc.withSwitchDone (Assoc.switched k (s.slot k).epoch
            { x with switchPending := false, switchDue := false, pendingKind := none })
        ∧ (∀ c, c ≠ a → t.assoc c = s.assoc c) ∧ t.slot k = { s.slot k with state := .active }
        ∧ (∀ j, x.current = some j → t.slot j = (s.slot j).outgoing
          ∧ ((s.slot j).inFlight = 0 → EventsOpen s → Listed .keyRetired (.slot j) t))
        ∧ (∀ j, j ≠ k → x.current ≠ some j → t.slot j = s.slot j)
        ∧ (EventsOpen s → Listed .switchDone (.assoc a) t))

/-! ## Requests on the key store -/

/-- TRANSPORT_KEY: LOCKED while one is present, BAD_LENGTH unless 16 or 32 bytes; else the key is installed, and the reply
carries its size and check value, the first 3 bytes of the cipher on a zero block (R68). -/
def Obligations.TransportKeyIsInstalledOnce : Prop :=
  ∀ (tag : Byte) (key : Bytes) (s : State), key.length ≤ 1024 →
    let size : Byte := if key.length = 32 then 1 else 0
    let check := (toBE 16 (Config.blockCipher key (List.replicate 16 0)).toNat).take 3
    (NotRunning s → exec (.transportKey tag key) s = .next (owingRefusal 0x94 tag 0x10 (counted s)))
    ∧ (TakesRequests s → s.transportKey ≠ none →
        exec (.transportKey tag key) s = .next (owingRefusal 0x94 tag 0x0D (counted s)))
    ∧ (TakesRequests s → s.transportKey = none → key.length ≠ 16 → key.length ≠ 32 →
        exec (.transportKey tag key) s = .next (owingRefusal 0x94 tag 0x02 (counted s)))
    ∧ (TakesRequests s → s.transportKey = none → (key.length = 16 ∨ key.length = 32) → exec (.transportKey tag key) s
        = .next (owingOk 0x94 tag ([size] ++ check) { counted s with transportKey := some key }))

/-- KEY_LOAD: the checks of R69 in order, each with its status; a blob that opens for the ANUM and the epoch puts its key and
salt in the EMPTY slot, LOADED, owned by the association, whose next slot it becomes, and its expansion waits or is in a lane
(R70, R71, R91). -/
def Obligations.KeysAreLoaded : Prop :=
  ∀ (tag slot anum epoch : Byte) (blob : Bytes) (s : State), TakesRequests s → blob.length + 3 ≤ 1024 →
    let refused (status : Byte) : Prop :=
      exec (.keyLoad tag slot anum epoch blob) s = .next (owingRefusal 0x95 tag status (counted s))
    (s.transportKey = none → refused 0x0C)
    ∧ ∀ transport, s.transportKey = some transport →
      ((128 ≤ slot.toNat ∨ 64 ≤ anum.toNat) → refused 0x04)
      ∧ ∀ (k : SlotNum) (a : Anum), slot.toNat = k.val → anum.toNat = a.val →
        let x := s.assoc a
        let expected := if x.current = none then x.firstEpoch else x.currentEpoch + 1
        ((s.slot k).state ≠ .empty → refused 0x08)
        ∧ ((s.slot k).state = .empty → x.state = .idle → refused 0x05)
        ∧ ((s.slot k).state = .empty → x.state ≠ .idle → x.next ≠ none → refused 0x09)
        ∧ ((s.slot k).state = .empty → x.state ≠ .idle → x.next = none → epoch ≠ expected → refused 0x0A)
        ∧ ((s.slot k).state = .empty → x.state ≠ .idle → x.next = none → epoch = expected → blob.length ≠ 32 →
            blob.length ≠ 48 → refused 0x02)
        ∧ ((s.slot k).state = .empty → x.state ≠ .idle → x.next = none → epoch = expected →
            (blob.length = 32 ∨ blob.length = 48) →
          let text := (List.range (blob.length - 8)).map fun i => Config.unwrapByte transport blob i
          let n := blob.length - 16
          let key := text.take n
          let cipher := (Config.blockCipher key (List.replicate 16 0)).toNat
          if Config.unwrapIntegrity transport blob = 0xA6A6A6A6A6A6A6A6 ∧ text.drop (n + 4) = [anum, epoch, 0, 0] then
            ∃ t, exec (.keyLoad tag slot anum epoch blob) s = .next t
            ∧ t.replyOwed = some { kind := 0x95, tag := tag, body := [0x00, slot, epoch, if n = 32 then 1 else 0]
                ++ (toBE 16 cipher).take 3 }
            ∧ t.slot k = {
                state := .loaded, owner := some a, epoch := epoch, size := if n = 32 then .bits256 else .bits128
                key := key, salt := BitVec.ofNat 32 (ofBE ((text.drop n).take 4))
                checkValue := BitVec.ofNat 24 (cipher / 2 ^ 104), expandedKey := [], integrityCode := 0, inFlight := 0 }
            ∧ (∀ j, j ≠ k → t.slot j = s.slot j)
            ∧ (t.assoc a).sans = Assoc.sans { x with next := some k }
            ∧ (∀ c, c ≠ a → (t.assoc c).sans = (s.assoc c).sans)
            ∧ (k ∈ t.expansionFifo ∨ ∃ l, t.lane l = .busy (.expand k key true))
            ∧ t.events = s.events ∧ t.transportKey = s.transportKey ∧ t.steering = s.steering
          else refused 0x0B)

/-- KEY_ERASE: the nine cases of R74. A LOADED slot, or a READY one whose owner has no attempt record, becomes EMPTY, its
request leaves the FIFO, a lane's result for it will be discarded, and the owner's next slot becomes absent; no event is
raised. -/
def Obligations.KeyEraseEmptiesTheSlot : Prop :=
  ∀ (tag b : Byte) (s : State),
    (NotRunning s → exec (.keyErase tag b) s = .next (owingRefusal 0x96 tag 0x10 (counted s)))
    ∧ (TakesRequests s → 128 ≤ b.toNat → exec (.keyErase tag b) s = .next (owingRefusal 0x96 tag 0x04 (counted s)))
    ∧ ∀ k : SlotNum, TakesRequests s → b.toNat = k.val →
      let x := s.slot k
      let emptied (t : State) : Prop := t.replyOwed = some { kind := 0x96, tag := tag, body := [0x00] }
        ∧ t.slot k = Slot.empty ∧ (∀ j, j ≠ k → t.slot j = s.slot j) ∧ k ∉ t.expansionFifo
        ∧ (∀ l key, t.lane l ≠ .busy (.expand k key true)) ∧ t.events = s.events ∧ t.eventsLost = s.eventsLost
      (x.state = .empty → exec (.keyErase tag b) s = .next (owingOk 0x96 tag [] (counted s)))
      ∧ (∀ a, x.owner = some a → (x.state = .loaded ∨ x.state = .ready ∧ (s.assoc a).attempt = none) →
          ∃ t, exec (.keyErase tag b) s = .next t ∧ emptied t ∧ t.assoc a = { s.assoc a with next := none }
          ∧ ∀ c, c ≠ a → t.assoc c = s.assoc c)
      ∧ (∀ a, x.owner = some a → x.state = .ready → (s.assoc a).attempt ≠ none →
          exec (.keyErase tag b) s = .next (owingRefusal 0x96 tag 0x0F (counted s)))
      ∧ ((x.state = .active ∨ x.state = .draining) →
          exec (.keyErase tag b) s = .next (owingRefusal 0x96 tag 0x0F (counted s)))
      ∧ (x.state = .faulted → x.inFlight = 0 →
          ∃ t, exec (.keyErase tag b) s = .next t ∧ emptied t ∧ t.assocs = s.assocs)
      ∧ (x.state = .faulted → 0 < x.inFlight →
          exec (.keyErase tag b) s = .next (owingRefusal 0x96 tag 0x0F (counted s)))

/-! ## Events, faults and counters -/

/-- An event that is raised meets the first of the four cases of R175 that fits: masked out, merged into the entry of its
kind and source, joined at the tail, or lost. -/
def Obligations.EventsAreTaken : Prop :=
  ∀ (kind : EventKind) (source : EventSource) (detail : BitVec 16) (s : State),
    let stands := ∃ e ∈ s.events, e.kind = kind ∧ e.source = source
    let enabled := s.eventMask.getLsbD kind.code
    (enabled = false → raiseEvent kind source detail s = s)
    ∧ (enabled = true → stands → raiseEvent kind source detail s = { s with events := s.events.map fun e =>
        if e.kind = kind ∧ e.source = source then { e with count := if e.count < 255 then e.count + 1 else 255 } else e })
    ∧ (enabled = true → ¬stands → s.events.length < 64 → raiseEvent kind source detail s
        = { s with events := s.events ++ [{ kind := kind, source := source, count := 1, detail := detail }] })
    ∧ (enabled = true → ¬stands → 64 ≤ s.events.length → raiseEvent kind source detail s = { s with eventsLost := true })

/-- EVENTS_FETCH returns and removes the oldest events, at most 32, with the lost flag, which it clears, and may write the
mask (R177); FAULTS_READ returns the fault list and the hardware fault record, in HALTED too, and empties the list (R178).
That the mask is held as 21 bits, so that bits 21 to 31 read 0 before any write too, is the model's reading (assumption 24),
and so is that the lost flag and the key store fault indication read 1 when set (assumption 32). -/
def Obligations.EventsAndFaultsAreRead : Prop :=
  ∀ (tag : Byte) (s : State),
    (∀ (count maskWrite : Byte) (mask : BitVec 32), TakesRequests s →
      (1 < maskWrite.toNat → exec (.eventsFetch tag count maskWrite mask) s
        = .next (owingRefusal 0x98 tag 0x04 (counted s)))
      ∧ (maskWrite.toNat ≤ 1 →
        let used := min count.toNat 32
        let taken := s.events.take used
        let kept : BitVec 21 := if maskWrite = 1 then mask.setWidth 21 else s.eventMask
        exec (.eventsFetch tag count maskWrite mask) s = .next (owingOk 0x98 tag
          ([BitVec.ofNat 8 used, yesNo s.eventsLost] ++ toLE 4 kept.toNat ++ [BitVec.ofNat 8 taken.length]
            ++ taken.flatMap fun e => [BitVec.ofNat 8 e.kind.code] ++ e.source.bytes ++ [BitVec.ofNat 8 e.count]
              ++ toLE 2 e.detail.toNat)
          { counted s with events := s.events.drop used, eventsLost := false, eventMask := kept })))
    ∧ (s.pins.resetLow = false → s.replyOwed = none → s.busyOwed = none →
        (s.partState = .running ∨ s.partState = .halted) →
        let set (v : List Bool) : Byte :=
          BitVec.ofNat 8 ((List.range v.length).map fun i => if v.getD i false then 2 ^ i else 0).sum
        exec (.faultsRead tag) s = .next (owingOk 0x99 tag
          ([BitVec.ofNat 8 s.faultList.length]
            ++ (s.faultList.flatMap fun e => [e.kind.code, yesNo e.tag.isSome, e.tag.getD 0] ++ toLE 2 e.requestCount.toNat)
            ++ [set s.hwFaults.lanesFailed.toList, yesNo s.hwFaults.keyStore, set s.hwFaults.buffers.toList,
                BitVec.ofNat 8 s.hwFaults.scrubFaults]) { counted s with faultList := [] }))

/-- COUNTERS_READ returns a snapshot of the range, clamped to the table and to 21 associations, and with clearing sets every
counter of the range, and no other, to 0; another block, clear indication or first index is BAD_VALUE (R181). -/
def Obligations.CountersAreRead : Prop :=
  ∀ (tag first count clear : Byte) (s : State), TakesRequests s →
    let refused (block : Byte) : Prop :=
      exec (.countersRead tag block first count clear) s = .next (owingRefusal 0x9A tag 0x04 (counted s))
    let fields (block : Byte) (used : Nat) (counters : List Nat) : Option Reply :=
      some { kind := 0x9A, tag := tag,
             body := [0x00, block, first, BitVec.ofNat 8 used, clear] ++ counters.flatMap (toLE 6) }
    let within (used i : Nat) : Bool := decide (first.toNat ≤ i ∧ i < first.toNat + used)
    let keeps (t : State) : Prop := { t with ports := s.ports, assocs := s.assocs, steering := s.steering,
                                             replyOwed := s.replyOwed } = counted s
    (∀ block : Byte, 2 < block.toNat → refused block) ∧ (1 < clear.toNat → ∀ block, refused block)
    ∧ (4 ≤ first.toNat → refused 0) ∧ (64 ≤ first.toNat → refused 1) ∧ (128 ≤ first.toNat → refused 2)
    ∧ (clear.toNat ≤ 1 → first.toNat < 4 →
      let used := min count.toNat (4 - first.toNat)
      ∃ t, exec (.countersRead tag 0 first count clear) s = .next t ∧ keeps t
      ∧ t.replyOwed = fields 0 used
          (((List.finRange 4).filter fun p => within used p.val).flatMap fun p => (s.port p).counters.toList)
      ∧ t.assocs = s.assocs ∧ t.steering = s.steering
      ∧ ∀ p, t.port p = if clear = 1 ∧ within used p.val = true then { s.port p with counters := Vector.replicate 32 0 }
          else s.port p)
    ∧ (clear.toNat ≤ 1 → first.toNat < 64 →
      let used := min (min count.toNat 21) (64 - first.toNat)
      ∃ t, exec (.countersRead tag 1 first count clear) s = .next t ∧ keeps t
      ∧ t.replyOwed = fields 1 used
          (((List.finRange 64).filter fun a => within used a.val).flatMap fun a => (s.assoc a).counters.toList)
      ∧ t.ports = s.ports ∧ t.steering = s.steering
      ∧ ∀ a, t.assoc a = if clear = 1 ∧ within used a.val = true then { s.assoc a with counters := Vector.replicate 8 0 }
          else s.assoc a)
    ∧ (clear.toNat ≤ 1 → first.toNat < 128 →
      let used := min count.toNat (128 - first.toNat)
      ∃ t, exec (.countersRead tag 2 first count clear) s = .next t ∧ keeps t
      ∧ t.replyOwed = fields 2 used
          (((List.finRange 128).filter fun i => within used i.val).map fun i => (s.entry i).hits)
      ∧ t.ports = s.ports ∧ t.assocs = s.assocs
      ∧ ∀ i, t.entry i = if clear = 1 ∧ within used i.val = true then { s.entry i with hits := 0 } else s.entry i)

/-! ## What every step keeps -/

/-- Every step keeps the forms of the lists and the ranges of the counts: at most 64 events, never two with one kind and
source, at most 4 faults, counters of 48 bits, the divider's counts in their ranges (R174, R178, R180, R124, R179). -/
def Obligations.EveryStepKeepsTheLists : Prop :=
  ∀ s t : State, step s = .next t →
    (EventsOk s → EventsOk t) ∧ (FaultListOk s → FaultListOk t) ∧ (CountersOk s → CountersOk t) ∧ (CountsOk s → CountsOk t)

/-- In a coherent state no step faults, and every next state is coherent; a slot is then the current or the next slot of at
most one association, never both, and the owner of a slot that holds one of these roles is that association (R66). -/
def Obligations.EveryStepKeepsTheSlotBinding : Prop :=
  (∀ s : State, Coherent s → (∀ f, step s ≠ .fault f) ∧ ∀ t, step s = .next t → Coherent t)
  ∧ ∀ s : State, Coherent s →
    (∀ a b k, (s.assoc a).current = some k ∨ (s.assoc a).next = some k → (s.assoc b).current = some k ∨ (s.assoc b).next = some k →
      a = b)
    ∧ (∀ a k, ¬((s.assoc a).current = some k ∧ (s.assoc a).next = some k))
    ∧ ∀ a k, (s.slot k).owner = some a →
      (s.slot k).state = .loaded ∨ (s.slot k).state = .ready ∨ (s.slot k).state = .active →
      (s.assoc a).current = some k ∨ (s.assoc a).next = some k

/-- Every step keeps the numbers of the sequences unused before, and while a slot stays current next_pn never falls and the
marks do not change (R57). -/
def Obligations.NumbersAreNeverReused : Prop :=
  ∀ s t : State, Coherent s → InFlightOk s → NumbersOk s → step s = .next t →
    NumbersOk t ∧ ∀ a k, (s.assoc a).current = some k → (t.assoc a).current = some k →
      (s.assoc a).nextPn ≤ (t.assoc a).nextPn ∧ (t.assoc a).switchMark = (s.assoc a).switchMark
      ∧ (t.assoc a).stopMark = (s.assoc a).stopMark

/-- Every step keeps EMPTY and FAULTED slots free of key material, and every other slot owned (R64). -/
def Obligations.EveryStepKeepsSlotsZeroised : Prop :=
  ∀ s t : State, Coherent s → SlotsOk s → step s = .next t → SlotsOk t

/-- Every step keeps the buffers of the ports within their capacities, the queues of a port in OFF empty, and every port OFF
while the part is not RUNNING (R93, R91, R123, R120, R104, R6, R185). -/
def Obligations.EveryStepKeepsThePorts : Prop :=
  ∀ s t : State, PortsOk s → HeldOff s → step s = .next t → PortsOk t ∧ HeldOff t

/-- Every step keeps the in-flight counts equal to the entries recorded against the slots, and the BUSY lanes equal to the
IN_LANE entries (R76, R64, R83, R94, R91). -/
def Obligations.EveryStepKeepsLanesAndCounts : Prop :=
  ∀ s t : State, Coherent s → HeldOff s → InFlightOk s → LanesOk s → step s = .next t → InFlightOk t ∧ LanesOk t

/-- A transport key once present, and a locked steering entry but for its hits, stay through every command but the ends of a
reset; two states that differ in the key material of slots alone are answered alike, so no reply carries a key, a salt or an
expanded key (R68, R25, R64, R75). -/
def Obligations.KeysAndLocksStay : Prop :=
  (∀ (c : Instr) (s t : State), exec c s = .next t → (∀ pins, c ≠ .powerOn pins) → (∀ r x, c ≠ .pinResetRelease r x) →
    (∀ i, (s.entry i).locked = true → { t.entry i with hits := 0 } = { s.entry i with hits := 0 })
    ∧ (c ≠ .replySent → s.transportKey ≠ none → t.transportKey = s.transportKey))
  ∧ ∀ (c : Instr) (s t s1 t1 : State), SameButKeys s t → exec c s = .next s1 → exec c t = .next t1 →
    s1.replyOwed = t1.replyOwed ∧ s1.busyOwed = t1.busyOwed

end Statements
end

