-- ==== Sys2Proof/Laws/State.lean ====
section
/-! SUPPORT. What each named update of the state leaves as it was: one lemma per field per update. -/

namespace Sys2Proof.Machine

/-! ## updPort -/

@[simp] theorem State.updPort_pending (s : State) (p : PortNum) (f : Port → Port) : (s.updPort p f).pending = s.pending := rfl
@[simp] theorem State.updPort_openSelfTests (s : State) (p : PortNum) (f : Port → Port) : (s.updPort p f).openSelfTests = s.openSelfTests := rfl
@[simp] theorem State.updPort_pins (s : State) (p : PortNum) (f : Port → Port) : (s.updPort p f).pins = s.pins := rfl
@[simp] theorem State.updPort_straps (s : State) (p : PortNum) (f : Port → Port) : (s.updPort p f).straps = s.straps := rfl
@[simp] theorem State.updPort_partState (s : State) (p : PortNum) (f : Port → Port) : (s.updPort p f).partState = s.partState := rfl
@[simp] theorem State.updPort_inhibit (s : State) (p : PortNum) (f : Port → Port) : (s.updPort p f).inhibit = s.inhibit := rfl
@[simp] theorem State.updPort_clockCount (s : State) (p : PortNum) (f : Port → Port) : (s.updPort p f).clockCount = s.clockCount := rfl
@[simp] theorem State.updPort_fineCount (s : State) (p : PortNum) (f : Port → Port) : (s.updPort p f).fineCount = s.fineCount := rfl
@[simp] theorem State.updPort_hwFaults (s : State) (p : PortNum) (f : Port → Port) : (s.updPort p f).hwFaults = s.hwFaults := rfl
@[simp] theorem State.updPort_steering (s : State) (p : PortNum) (f : Port → Port) : (s.updPort p f).steering = s.steering := rfl
@[simp] theorem State.updPort_assocs (s : State) (p : PortNum) (f : Port → Port) : (s.updPort p f).assocs = s.assocs := rfl
@[simp] theorem State.updPort_slots (s : State) (p : PortNum) (f : Port → Port) : (s.updPort p f).slots = s.slots := rfl
@[simp] theorem State.updPort_transportKey (s : State) (p : PortNum) (f : Port → Port) : (s.updPort p f).transportKey = s.transportKey := rfl
@[simp] theorem State.updPort_expansionFifo (s : State) (p : PortNum) (f : Port → Port) : (s.updPort p f).expansionFifo = s.expansionFifo := rfl
@[simp] theorem State.updPort_scrubPointer (s : State) (p : PortNum) (f : Port → Port) : (s.updPort p f).scrubPointer = s.scrubPointer := rfl
@[simp] theorem State.updPort_lanes (s : State) (p : PortNum) (f : Port → Port) : (s.updPort p f).lanes = s.lanes := rfl
@[simp] theorem State.updPort_verifyQueue (s : State) (p : PortNum) (f : Port → Port) : (s.updPort p f).verifyQueue = s.verifyQueue := rfl
@[simp] theorem State.updPort_roundRobin (s : State) (p : PortNum) (f : Port → Port) : (s.updPort p f).roundRobin = s.roundRobin := rfl
@[simp] theorem State.updPort_events (s : State) (p : PortNum) (f : Port → Port) : (s.updPort p f).events = s.events := rfl
@[simp] theorem State.updPort_eventsLost (s : State) (p : PortNum) (f : Port → Port) : (s.updPort p f).eventsLost = s.eventsLost := rfl
@[simp] theorem State.updPort_eventMask (s : State) (p : PortNum) (f : Port → Port) : (s.updPort p f).eventMask = s.eventMask := rfl
@[simp] theorem State.updPort_faultList (s : State) (p : PortNum) (f : Port → Port) : (s.updPort p f).faultList = s.faultList := rfl
@[simp] theorem State.updPort_receiver (s : State) (p : PortNum) (f : Port → Port) : (s.updPort p f).receiver = s.receiver := rfl
@[simp] theorem State.updPort_requestInbox (s : State) (p : PortNum) (f : Port → Port) : (s.updPort p f).requestInbox = s.requestInbox := rfl
@[simp] theorem State.updPort_requestCount (s : State) (p : PortNum) (f : Port → Port) : (s.updPort p f).requestCount = s.requestCount := rfl
@[simp] theorem State.updPort_replyOwed (s : State) (p : PortNum) (f : Port → Port) : (s.updPort p f).replyOwed = s.replyOwed := rfl
@[simp] theorem State.updPort_busyOwed (s : State) (p : PortNum) (f : Port → Port) : (s.updPort p f).busyOwed = s.busyOwed := rfl

/-! ## updAssoc -/

@[simp] theorem State.updAssoc_pending (s : State) (a : Anum) (f : Assoc → Assoc) : (s.updAssoc a f).pending = s.pending := rfl
@[simp] theorem State.updAssoc_openSelfTests (s : State) (a : Anum) (f : Assoc → Assoc) : (s.updAssoc a f).openSelfTests = s.openSelfTests := rfl
@[simp] theorem State.updAssoc_pins (s : State) (a : Anum) (f : Assoc → Assoc) : (s.updAssoc a f).pins = s.pins := rfl
@[simp] theorem State.updAssoc_straps (s : State) (a : Anum) (f : Assoc → Assoc) : (s.updAssoc a f).straps = s.straps := rfl
@[simp] theorem State.updAssoc_partState (s : State) (a : Anum) (f : Assoc → Assoc) : (s.updAssoc a f).partState = s.partState := rfl
@[simp] theorem State.updAssoc_inhibit (s : State) (a : Anum) (f : Assoc → Assoc) : (s.updAssoc a f).inhibit = s.inhibit := rfl
@[simp] theorem State.updAssoc_clockCount (s : State) (a : Anum) (f : Assoc → Assoc) : (s.updAssoc a f).clockCount = s.clockCount := rfl
@[simp] theorem State.updAssoc_fineCount (s : State) (a : Anum) (f : Assoc → Assoc) : (s.updAssoc a f).fineCount = s.fineCount := rfl
@[simp] theorem State.updAssoc_hwFaults (s : State) (a : Anum) (f : Assoc → Assoc) : (s.updAssoc a f).hwFaults = s.hwFaults := rfl
@[simp] theorem State.updAssoc_ports (s : State) (a : Anum) (f : Assoc → Assoc) : (s.updAssoc a f).ports = s.ports := rfl
@[simp] theorem State.updAssoc_steering (s : State) (a : Anum) (f : Assoc → Assoc) : (s.updAssoc a f).steering = s.steering := rfl
@[simp] theorem State.updAssoc_slots (s : State) (a : Anum) (f : Assoc → Assoc) : (s.updAssoc a f).slots = s.slots := rfl
@[simp] theorem State.updAssoc_transportKey (s : State) (a : Anum) (f : Assoc → Assoc) : (s.updAssoc a f).transportKey = s.transportKey := rfl
@[simp] theorem State.updAssoc_expansionFifo (s : State) (a : Anum) (f : Assoc → Assoc) : (s.updAssoc a f).expansionFifo = s.expansionFifo := rfl
@[simp] theorem State.updAssoc_scrubPointer (s : State) (a : Anum) (f : Assoc → Assoc) : (s.updAssoc a f).scrubPointer = s.scrubPointer := rfl
@[simp] theorem State.updAssoc_lanes (s : State) (a : Anum) (f : Assoc → Assoc) : (s.updAssoc a f).lanes = s.lanes := rfl
@[simp] theorem State.updAssoc_verifyQueue (s : State) (a : Anum) (f : Assoc → Assoc) : (s.updAssoc a f).verifyQueue = s.verifyQueue := rfl
@[simp] theorem State.updAssoc_roundRobin (s : State) (a : Anum) (f : Assoc → Assoc) : (s.updAssoc a f).roundRobin = s.roundRobin := rfl
@[simp] theorem State.updAssoc_events (s : State) (a : Anum) (f : Assoc → Assoc) : (s.updAssoc a f).events = s.events := rfl
@[simp] theorem State.updAssoc_eventsLost (s : State) (a : Anum) (f : Assoc → Assoc) : (s.updAssoc a f).eventsLost = s.eventsLost := rfl
@[simp] theorem State.updAssoc_eventMask (s : State) (a : Anum) (f : Assoc → Assoc) : (s.updAssoc a f).eventMask = s.eventMask := rfl
@[simp] theorem State.updAssoc_faultList (s : State) (a : Anum) (f : Assoc → Assoc) : (s.updAssoc a f).faultList = s.faultList := rfl
@[simp] theorem State.updAssoc_receiver (s : State) (a : Anum) (f : Assoc → Assoc) : (s.updAssoc a f).receiver = s.receiver := rfl
@[simp] theorem State.updAssoc_requestInbox (s : State) (a : Anum) (f : Assoc → Assoc) : (s.updAssoc a f).requestInbox = s.requestInbox := rfl
@[simp] theorem State.updAssoc_requestCount (s : State) (a : Anum) (f : Assoc → Assoc) : (s.updAssoc a f).requestCount = s.requestCount := rfl
@[simp] theorem State.updAssoc_replyOwed (s : State) (a : Anum) (f : Assoc → Assoc) : (s.updAssoc a f).replyOwed = s.replyOwed := rfl
@[simp] theorem State.updAssoc_busyOwed (s : State) (a : Anum) (f : Assoc → Assoc) : (s.updAssoc a f).busyOwed = s.busyOwed := rfl

/-! ## updSlot -/

@[simp] theorem State.updSlot_pending (s : State) (k : SlotNum) (f : Slot → Slot) : (s.updSlot k f).pending = s.pending := rfl
@[simp] theorem State.updSlot_openSelfTests (s : State) (k : SlotNum) (f : Slot → Slot) : (s.updSlot k f).openSelfTests = s.openSelfTests := rfl
@[simp] theorem State.updSlot_pins (s : State) (k : SlotNum) (f : Slot → Slot) : (s.updSlot k f).pins = s.pins := rfl
@[simp] theorem State.updSlot_straps (s : State) (k : SlotNum) (f : Slot → Slot) : (s.updSlot k f).straps = s.straps := rfl
@[simp] theorem State.updSlot_partState (s : State) (k : SlotNum) (f : Slot → Slot) : (s.updSlot k f).partState = s.partState := rfl
@[simp] theorem State.updSlot_inhibit (s : State) (k : SlotNum) (f : Slot → Slot) : (s.updSlot k f).inhibit = s.inhibit := rfl
@[simp] theorem State.updSlot_clockCount (s : State) (k : SlotNum) (f : Slot → Slot) : (s.updSlot k f).clockCount = s.clockCount := rfl
@[simp] theorem State.updSlot_fineCount (s : State) (k : SlotNum) (f : Slot → Slot) : (s.updSlot k f).fineCount = s.fineCount := rfl
@[simp] theorem State.updSlot_hwFaults (s : State) (k : SlotNum) (f : Slot → Slot) : (s.updSlot k f).hwFaults = s.hwFaults := rfl
@[simp] theorem State.updSlot_ports (s : State) (k : SlotNum) (f : Slot → Slot) : (s.updSlot k f).ports = s.ports := rfl
@[simp] theorem State.updSlot_steering (s : State) (k : SlotNum) (f : Slot → Slot) : (s.updSlot k f).steering = s.steering := rfl
@[simp] theorem State.updSlot_assocs (s : State) (k : SlotNum) (f : Slot → Slot) : (s.updSlot k f).assocs = s.assocs := rfl
@[simp] theorem State.updSlot_transportKey (s : State) (k : SlotNum) (f : Slot → Slot) : (s.updSlot k f).transportKey = s.transportKey := rfl
@[simp] theorem State.updSlot_expansionFifo (s : State) (k : SlotNum) (f : Slot → Slot) : (s.updSlot k f).expansionFifo = s.expansionFifo := rfl
@[simp] theorem State.updSlot_scrubPointer (s : State) (k : SlotNum) (f : Slot → Slot) : (s.updSlot k f).scrubPointer = s.scrubPointer := rfl
@[simp] theorem State.updSlot_lanes (s : State) (k : SlotNum) (f : Slot → Slot) : (s.updSlot k f).lanes = s.lanes := rfl
@[simp] theorem State.updSlot_verifyQueue (s : State) (k : SlotNum) (f : Slot → Slot) : (s.updSlot k f).verifyQueue = s.verifyQueue := rfl
@[simp] theorem State.updSlot_roundRobin (s : State) (k : SlotNum) (f : Slot → Slot) : (s.updSlot k f).roundRobin = s.roundRobin := rfl
@[simp] theorem State.updSlot_events (s : State) (k : SlotNum) (f : Slot → Slot) : (s.updSlot k f).events = s.events := rfl
@[simp] theorem State.updSlot_eventsLost (s : State) (k : SlotNum) (f : Slot → Slot) : (s.updSlot k f).eventsLost = s.eventsLost := rfl
@[simp] theorem State.updSlot_eventMask (s : State) (k : SlotNum) (f : Slot → Slot) : (s.updSlot k f).eventMask = s.eventMask := rfl
@[simp] theorem State.updSlot_faultList (s : State) (k : SlotNum) (f : Slot → Slot) : (s.updSlot k f).faultList = s.faultList := rfl
@[simp] theorem State.updSlot_receiver (s : State) (k : SlotNum) (f : Slot → Slot) : (s.updSlot k f).receiver = s.receiver := rfl
@[simp] theorem State.updSlot_requestInbox (s : State) (k : SlotNum) (f : Slot → Slot) : (s.updSlot k f).requestInbox = s.requestInbox := rfl
@[simp] theorem State.updSlot_requestCount (s : State) (k : SlotNum) (f : Slot → Slot) : (s.updSlot k f).requestCount = s.requestCount := rfl
@[simp] theorem State.updSlot_replyOwed (s : State) (k : SlotNum) (f : Slot → Slot) : (s.updSlot k f).replyOwed = s.replyOwed := rfl
@[simp] theorem State.updSlot_busyOwed (s : State) (k : SlotNum) (f : Slot → Slot) : (s.updSlot k f).busyOwed = s.busyOwed := rfl

/-! ## updEntry -/

@[simp] theorem State.updEntry_pending (s : State) (i : EntryIdx) (f : SteerEntry → SteerEntry) : (s.updEntry i f).pending = s.pending := rfl
@[simp] theorem State.updEntry_openSelfTests (s : State) (i : EntryIdx) (f : SteerEntry → SteerEntry) : (s.updEntry i f).openSelfTests = s.openSelfTests := rfl
@[simp] theorem State.updEntry_pins (s : State) (i : EntryIdx) (f : SteerEntry → SteerEntry) : (s.updEntry i f).pins = s.pins := rfl
@[simp] theorem State.updEntry_straps (s : State) (i : EntryIdx) (f : SteerEntry → SteerEntry) : (s.updEntry i f).straps = s.straps := rfl
@[simp] theorem State.updEntry_partState (s : State) (i : EntryIdx) (f : SteerEntry → SteerEntry) : (s.updEntry i f).partState = s.partState := rfl
@[simp] theorem State.updEntry_inhibit (s : State) (i : EntryIdx) (f : SteerEntry → SteerEntry) : (s.updEntry i f).inhibit = s.inhibit := rfl
@[simp] theorem State.updEntry_clockCount (s : State) (i : EntryIdx) (f : SteerEntry → SteerEntry) : (s.updEntry i f).clockCount = s.clockCount := rfl
@[simp] theorem State.updEntry_fineCount (s : State) (i : EntryIdx) (f : SteerEntry → SteerEntry) : (s.updEntry i f).fineCount = s.fineCount := rfl
@[simp] theorem State.updEntry_hwFaults (s : State) (i : EntryIdx) (f : SteerEntry → SteerEntry) : (s.updEntry i f).hwFaults = s.hwFaults := rfl
@[simp] theorem State.updEntry_ports (s : State) (i : EntryIdx) (f : SteerEntry → SteerEntry) : (s.updEntry i f).ports = s.ports := rfl
@[simp] theorem State.updEntry_assocs (s : State) (i : EntryIdx) (f : SteerEntry → SteerEntry) : (s.updEntry i f).assocs = s.assocs := rfl
@[simp] theorem State.updEntry_slots (s : State) (i : EntryIdx) (f : SteerEntry → SteerEntry) : (s.updEntry i f).slots = s.slots := rfl
@[simp] theorem State.updEntry_transportKey (s : State) (i : EntryIdx) (f : SteerEntry → SteerEntry) : (s.updEntry i f).transportKey = s.transportKey := rfl
@[simp] theorem State.updEntry_expansionFifo (s : State) (i : EntryIdx) (f : SteerEntry → SteerEntry) : (s.updEntry i f).expansionFifo = s.expansionFifo := rfl
@[simp] theorem State.updEntry_scrubPointer (s : State) (i : EntryIdx) (f : SteerEntry → SteerEntry) : (s.updEntry i f).scrubPointer = s.scrubPointer := rfl
@[simp] theorem State.updEntry_lanes (s : State) (i : EntryIdx) (f : SteerEntry → SteerEntry) : (s.updEntry i f).lanes = s.lanes := rfl
@[simp] theorem State.updEntry_verifyQueue (s : State) (i : EntryIdx) (f : SteerEntry → SteerEntry) : (s.updEntry i f).verifyQueue = s.verifyQueue := rfl
@[simp] theorem State.updEntry_roundRobin (s : State) (i : EntryIdx) (f : SteerEntry → SteerEntry) : (s.updEntry i f).roundRobin = s.roundRobin := rfl
@[simp] theorem State.updEntry_events (s : State) (i : EntryIdx) (f : SteerEntry → SteerEntry) : (s.updEntry i f).events = s.events := rfl
@[simp] theorem State.updEntry_eventsLost (s : State) (i : EntryIdx) (f : SteerEntry → SteerEntry) : (s.updEntry i f).eventsLost = s.eventsLost := rfl
@[simp] theorem State.updEntry_eventMask (s : State) (i : EntryIdx) (f : SteerEntry → SteerEntry) : (s.updEntry i f).eventMask = s.eventMask := rfl
@[simp] theorem State.updEntry_faultList (s : State) (i : EntryIdx) (f : SteerEntry → SteerEntry) : (s.updEntry i f).faultList = s.faultList := rfl
@[simp] theorem State.updEntry_receiver (s : State) (i : EntryIdx) (f : SteerEntry → SteerEntry) : (s.updEntry i f).receiver = s.receiver := rfl
@[simp] theorem State.updEntry_requestInbox (s : State) (i : EntryIdx) (f : SteerEntry → SteerEntry) : (s.updEntry i f).requestInbox = s.requestInbox := rfl
@[simp] theorem State.updEntry_requestCount (s : State) (i : EntryIdx) (f : SteerEntry → SteerEntry) : (s.updEntry i f).requestCount = s.requestCount := rfl
@[simp] theorem State.updEntry_replyOwed (s : State) (i : EntryIdx) (f : SteerEntry → SteerEntry) : (s.updEntry i f).replyOwed = s.replyOwed := rfl
@[simp] theorem State.updEntry_busyOwed (s : State) (i : EntryIdx) (f : SteerEntry → SteerEntry) : (s.updEntry i f).busyOwed = s.busyOwed := rfl

/-! ## setLane -/

@[simp] theorem State.setLane_pending (s : State) (l : LaneNum) (x : Lane) : (s.setLane l x).pending = s.pending := rfl
@[simp] theorem State.setLane_openSelfTests (s : State) (l : LaneNum) (x : Lane) : (s.setLane l x).openSelfTests = s.openSelfTests := rfl
@[simp] theorem State.setLane_pins (s : State) (l : LaneNum) (x : Lane) : (s.setLane l x).pins = s.pins := rfl
@[simp] theorem State.setLane_straps (s : State) (l : LaneNum) (x : Lane) : (s.setLane l x).straps = s.straps := rfl
@[simp] theorem State.setLane_partState (s : State) (l : LaneNum) (x : Lane) : (s.setLane l x).partState = s.partState := rfl
@[simp] theorem State.setLane_inhibit (s : State) (l : LaneNum) (x : Lane) : (s.setLane l x).inhibit = s.inhibit := rfl
@[simp] theorem State.setLane_clockCount (s : State) (l : LaneNum) (x : Lane) : (s.setLane l x).clockCount = s.clockCount := rfl
@[simp] theorem State.setLane_fineCount (s : State) (l : LaneNum) (x : Lane) : (s.setLane l x).fineCount = s.fineCount := rfl
@[simp] theorem State.setLane_hwFaults (s : State) (l : LaneNum) (x : Lane) : (s.setLane l x).hwFaults = s.hwFaults := rfl
@[simp] theorem State.setLane_ports (s : State) (l : LaneNum) (x : Lane) : (s.setLane l x).ports = s.ports := rfl
@[simp] theorem State.setLane_steering (s : State) (l : LaneNum) (x : Lane) : (s.setLane l x).steering = s.steering := rfl
@[simp] theorem State.setLane_assocs (s : State) (l : LaneNum) (x : Lane) : (s.setLane l x).assocs = s.assocs := rfl
@[simp] theorem State.setLane_slots (s : State) (l : LaneNum) (x : Lane) : (s.setLane l x).slots = s.slots := rfl
@[simp] theorem State.setLane_transportKey (s : State) (l : LaneNum) (x : Lane) : (s.setLane l x).transportKey = s.transportKey := rfl
@[simp] theorem State.setLane_expansionFifo (s : State) (l : LaneNum) (x : Lane) : (s.setLane l x).expansionFifo = s.expansionFifo := rfl
@[simp] theorem State.setLane_scrubPointer (s : State) (l : LaneNum) (x : Lane) : (s.setLane l x).scrubPointer = s.scrubPointer := rfl
@[simp] theorem State.setLane_verifyQueue (s : State) (l : LaneNum) (x : Lane) : (s.setLane l x).verifyQueue = s.verifyQueue := rfl
@[simp] theorem State.setLane_roundRobin (s : State) (l : LaneNum) (x : Lane) : (s.setLane l x).roundRobin = s.roundRobin := rfl
@[simp] theorem State.setLane_events (s : State) (l : LaneNum) (x : Lane) : (s.setLane l x).events = s.events := rfl
@[simp] theorem State.setLane_eventsLost (s : State) (l : LaneNum) (x : Lane) : (s.setLane l x).eventsLost = s.eventsLost := rfl
@[simp] theorem State.setLane_eventMask (s : State) (l : LaneNum) (x : Lane) : (s.setLane l x).eventMask = s.eventMask := rfl
@[simp] theorem State.setLane_faultList (s : State) (l : LaneNum) (x : Lane) : (s.setLane l x).faultList = s.faultList := rfl
@[simp] theorem State.setLane_receiver (s : State) (l : LaneNum) (x : Lane) : (s.setLane l x).receiver = s.receiver := rfl
@[simp] theorem State.setLane_requestInbox (s : State) (l : LaneNum) (x : Lane) : (s.setLane l x).requestInbox = s.requestInbox := rfl
@[simp] theorem State.setLane_requestCount (s : State) (l : LaneNum) (x : Lane) : (s.setLane l x).requestCount = s.requestCount := rfl
@[simp] theorem State.setLane_replyOwed (s : State) (l : LaneNum) (x : Lane) : (s.setLane l x).replyOwed = s.replyOwed := rfl
@[simp] theorem State.setLane_busyOwed (s : State) (l : LaneNum) (x : Lane) : (s.setLane l x).busyOwed = s.busyOwed := rfl

/-! ## bumpPort -/

@[simp] theorem bumpPort_pending (p : PortNum) (c : PortCounter) (n : Nat) (s : State) : (bumpPort p c n s).pending = s.pending := rfl
@[simp] theorem bumpPort_openSelfTests (p : PortNum) (c : PortCounter) (n : Nat) (s : State) : (bumpPort p c n s).openSelfTests = s.openSelfTests := rfl
@[simp] theorem bumpPort_pins (p : PortNum) (c : PortCounter) (n : Nat) (s : State) : (bumpPort p c n s).pins = s.pins := rfl
@[simp] theorem bumpPort_straps (p : PortNum) (c : PortCounter) (n : Nat) (s : State) : (bumpPort p c n s).straps = s.straps := rfl
@[simp] theorem bumpPort_partState (p : PortNum) (c : PortCounter) (n : Nat) (s : State) : (bumpPort p c n s).partState = s.partState := rfl
@[simp] theorem bumpPort_inhibit (p : PortNum) (c : PortCounter) (n : Nat) (s : State) : (bumpPort p c n s).inhibit = s.inhibit := rfl
@[simp] theorem bumpPort_clockCount (p : PortNum) (c : PortCounter) (n : Nat) (s : State) : (bumpPort p c n s).clockCount = s.clockCount := rfl
@[simp] theorem bumpPort_fineCount (p : PortNum) (c : PortCounter) (n : Nat) (s : State) : (bumpPort p c n s).fineCount = s.fineCount := rfl
@[simp] theorem bumpPort_hwFaults (p : PortNum) (c : PortCounter) (n : Nat) (s : State) : (bumpPort p c n s).hwFaults = s.hwFaults := rfl
@[simp] theorem bumpPort_steering (p : PortNum) (c : PortCounter) (n : Nat) (s : State) : (bumpPort p c n s).steering = s.steering := rfl
@[simp] theorem bumpPort_assocs (p : PortNum) (c : PortCounter) (n : Nat) (s : State) : (bumpPort p c n s).assocs = s.assocs := rfl
@[simp] theorem bumpPort_slots (p : PortNum) (c : PortCounter) (n : Nat) (s : State) : (bumpPort p c n s).slots = s.slots := rfl
@[simp] theorem bumpPort_transportKey (p : PortNum) (c : PortCounter) (n : Nat) (s : State) : (bumpPort p c n s).transportKey = s.transportKey := rfl
@[simp] theorem bumpPort_expansionFifo (p : PortNum) (c : PortCounter) (n : Nat) (s : State) : (bumpPort p c n s).expansionFifo = s.expansionFifo := rfl
@[simp] theorem bumpPort_scrubPointer (p : PortNum) (c : PortCounter) (n : Nat) (s : State) : (bumpPort p c n s).scrubPointer = s.scrubPointer := rfl
@[simp] theorem bumpPort_lanes (p : PortNum) (c : PortCounter) (n : Nat) (s : State) : (bumpPort p c n s).lanes = s.lanes := rfl
@[simp] theorem bumpPort_verifyQueue (p : PortNum) (c : PortCounter) (n : Nat) (s : State) : (bumpPort p c n s).verifyQueue = s.verifyQueue := rfl
@[simp] theorem bumpPort_roundRobin (p : PortNum) (c : PortCounter) (n : Nat) (s : State) : (bumpPort p c n s).roundRobin = s.roundRobin := rfl
@[simp] theorem bumpPort_events (p : PortNum) (c : PortCounter) (n : Nat) (s : State) : (bumpPort p c n s).events = s.events := rfl
@[simp] theorem bumpPort_eventsLost (p : PortNum) (c : PortCounter) (n : Nat) (s : State) : (bumpPort p c n s).eventsLost = s.eventsLost := rfl
@[simp] theorem bumpPort_eventMask (p : PortNum) (c : PortCounter) (n : Nat) (s : State) : (bumpPort p c n s).eventMask = s.eventMask := rfl
@[simp] theorem bumpPort_faultList (p : PortNum) (c : PortCounter) (n : Nat) (s : State) : (bumpPort p c n s).faultList = s.faultList := rfl
@[simp] theorem bumpPort_receiver (p : PortNum) (c : PortCounter) (n : Nat) (s : State) : (bumpPort p c n s).receiver = s.receiver := rfl
@[simp] theorem bumpPort_requestInbox (p : PortNum) (c : PortCounter) (n : Nat) (s : State) : (bumpPort p c n s).requestInbox = s.requestInbox := rfl
@[simp] theorem bumpPort_requestCount (p : PortNum) (c : PortCounter) (n : Nat) (s : State) : (bumpPort p c n s).requestCount = s.requestCount := rfl
@[simp] theorem bumpPort_replyOwed (p : PortNum) (c : PortCounter) (n : Nat) (s : State) : (bumpPort p c n s).replyOwed = s.replyOwed := rfl
@[simp] theorem bumpPort_busyOwed (p : PortNum) (c : PortCounter) (n : Nat) (s : State) : (bumpPort p c n s).busyOwed = s.busyOwed := rfl

/-! ## bumpAssoc -/

@[simp] theorem bumpAssoc_pending (a : Anum) (c : AssocCounter) (n : Nat) (s : State) : (bumpAssoc a c n s).pending = s.pending := rfl
@[simp] theorem bumpAssoc_openSelfTests (a : Anum) (c : AssocCounter) (n : Nat) (s : State) : (bumpAssoc a c n s).openSelfTests = s.openSelfTests := rfl
@[simp] theorem bumpAssoc_pins (a : Anum) (c : AssocCounter) (n : Nat) (s : State) : (bumpAssoc a c n s).pins = s.pins := rfl
@[simp] theorem bumpAssoc_straps (a : Anum) (c : AssocCounter) (n : Nat) (s : State) : (bumpAssoc a c n s).straps = s.straps := rfl
@[simp] theorem bumpAssoc_partState (a : Anum) (c : AssocCounter) (n : Nat) (s : State) : (bumpAssoc a c n s).partState = s.partState := rfl
@[simp] theorem bumpAssoc_inhibit (a : Anum) (c : AssocCounter) (n : Nat) (s : State) : (bumpAssoc a c n s).inhibit = s.inhibit := rfl
@[simp] theorem bumpAssoc_clockCount (a : Anum) (c : AssocCounter) (n : Nat) (s : State) : (bumpAssoc a c n s).clockCount = s.clockCount := rfl
@[simp] theorem bumpAssoc_fineCount (a : Anum) (c : AssocCounter) (n : Nat) (s : State) : (bumpAssoc a c n s).fineCount = s.fineCount := rfl
@[simp] theorem bumpAssoc_hwFaults (a : Anum) (c : AssocCounter) (n : Nat) (s : State) : (bumpAssoc a c n s).hwFaults = s.hwFaults := rfl
@[simp] theorem bumpAssoc_ports (a : Anum) (c : AssocCounter) (n : Nat) (s : State) : (bumpAssoc a c n s).ports = s.ports := rfl
@[simp] theorem bumpAssoc_steering (a : Anum) (c : AssocCounter) (n : Nat) (s : State) : (bumpAssoc a c n s).steering = s.steering := rfl
@[simp] theorem bumpAssoc_slots (a : Anum) (c : AssocCounter) (n : Nat) (s : State) : (bumpAssoc a c n s).slots = s.slots := rfl
@[simp] theorem bumpAssoc_transportKey (a : Anum) (c : AssocCounter) (n : Nat) (s : State) : (bumpAssoc a c n s).transportKey = s.transportKey := rfl
@[simp] theorem bumpAssoc_expansionFifo (a : Anum) (c : AssocCounter) (n : Nat) (s : State) : (bumpAssoc a c n s).expansionFifo = s.expansionFifo := rfl
@[simp] theorem bumpAssoc_scrubPointer (a : Anum) (c : AssocCounter) (n : Nat) (s : State) : (bumpAssoc a c n s).scrubPointer = s.scrubPointer := rfl
@[simp] theorem bumpAssoc_lanes (a : Anum) (c : AssocCounter) (n : Nat) (s : State) : (bumpAssoc a c n s).lanes = s.lanes := rfl
@[simp] theorem bumpAssoc_verifyQueue (a : Anum) (c : AssocCounter) (n : Nat) (s : State) : (bumpAssoc a c n s).verifyQueue = s.verifyQueue := rfl
@[simp] theorem bumpAssoc_roundRobin (a : Anum) (c : AssocCounter) (n : Nat) (s : State) : (bumpAssoc a c n s).roundRobin = s.roundRobin := rfl
@[simp] theorem bumpAssoc_events (a : Anum) (c : AssocCounter) (n : Nat) (s : State) : (bumpAssoc a c n s).events = s.events := rfl
@[simp] theorem bumpAssoc_eventsLost (a : Anum) (c : AssocCounter) (n : Nat) (s : State) : (bumpAssoc a c n s).eventsLost = s.eventsLost := rfl
@[simp] theorem bumpAssoc_eventMask (a : Anum) (c : AssocCounter) (n : Nat) (s : State) : (bumpAssoc a c n s).eventMask = s.eventMask := rfl
@[simp] theorem bumpAssoc_faultList (a : Anum) (c : AssocCounter) (n : Nat) (s : State) : (bumpAssoc a c n s).faultList = s.faultList := rfl
@[simp] theorem bumpAssoc_receiver (a : Anum) (c : AssocCounter) (n : Nat) (s : State) : (bumpAssoc a c n s).receiver = s.receiver := rfl
@[simp] theorem bumpAssoc_requestInbox (a : Anum) (c : AssocCounter) (n : Nat) (s : State) : (bumpAssoc a c n s).requestInbox = s.requestInbox := rfl
@[simp] theorem bumpAssoc_requestCount (a : Anum) (c : AssocCounter) (n : Nat) (s : State) : (bumpAssoc a c n s).requestCount = s.requestCount := rfl
@[simp] theorem bumpAssoc_replyOwed (a : Anum) (c : AssocCounter) (n : Nat) (s : State) : (bumpAssoc a c n s).replyOwed = s.replyOwed := rfl
@[simp] theorem bumpAssoc_busyOwed (a : Anum) (c : AssocCounter) (n : Nat) (s : State) : (bumpAssoc a c n s).busyOwed = s.busyOwed := rfl

/-! ## raiseEvent -/

/-- Raising an event touches the event list and the lost flag alone (R175). -/
theorem raiseEvent_frame (kind : EventKind) (source : EventSource) (detail : BitVec 16) (s : State) :
    ∃ events lost, raiseEvent kind source detail s = { s with events := events, eventsLost := lost } := by
  unfold raiseEvent
  split
  · exact ⟨s.events, s.eventsLost, rfl⟩
  · split
    · exact ⟨_, s.eventsLost, rfl⟩
    · split
      · exact ⟨_, s.eventsLost, rfl⟩
      · exact ⟨s.events, true, rfl⟩

@[simp] theorem raiseEvent_pending (kind : EventKind) (source : EventSource) (detail : BitVec 16) (s : State) :
    (raiseEvent kind source detail s).pending = s.pending := by
  obtain ⟨_, _, h⟩ := raiseEvent_frame kind source detail s
  rw [h]
@[simp] theorem raiseEvent_openSelfTests (kind : EventKind) (source : EventSource) (detail : BitVec 16) (s : State) :
    (raiseEvent kind source detail s).openSelfTests = s.openSelfTests := by
  obtain ⟨_, _, h⟩ := raiseEvent_frame kind source detail s
  rw [h]
@[simp] theorem raiseEvent_pins (kind : EventKind) (source : EventSource) (detail : BitVec 16) (s : State) :
    (raiseEvent kind source detail s).pins = s.pins := by
  obtain ⟨_, _, h⟩ := raiseEvent_frame kind source detail s
  rw [h]
@[simp] theorem raiseEvent_straps (kind : EventKind) (source : EventSource) (detail : BitVec 16) (s : State) :
    (raiseEvent kind source detail s).straps = s.straps := by
  obtain ⟨_, _, h⟩ := raiseEvent_frame kind source detail s
  rw [h]
@[simp] theorem raiseEvent_partState (kind : EventKind) (source : EventSource) (detail : BitVec 16) (s : State) :
    (raiseEvent kind source detail s).partState = s.partState := by
  obtain ⟨_, _, h⟩ := raiseEvent_frame kind source detail s
  rw [h]
@[simp] theorem raiseEvent_inhibit (kind : EventKind) (source : EventSource) (detail : BitVec 16) (s : State) :
    (raiseEvent kind source detail s).inhibit = s.inhibit := by
  obtain ⟨_, _, h⟩ := raiseEvent_frame kind source detail s
  rw [h]
@[simp] theorem raiseEvent_clockCount (kind : EventKind) (source : EventSource) (detail : BitVec 16) (s : State) :
    (raiseEvent kind source detail s).clockCount = s.clockCount := by
  obtain ⟨_, _, h⟩ := raiseEvent_frame kind source detail s
  rw [h]
@[simp] theorem raiseEvent_fineCount (kind : EventKind) (source : EventSource) (detail : BitVec 16) (s : State) :
    (raiseEvent kind source detail s).fineCount = s.fineCount := by
  obtain ⟨_, _, h⟩ := raiseEvent_frame kind source detail s
  rw [h]
@[simp] theorem raiseEvent_hwFaults (kind : EventKind) (source : EventSource) (detail : BitVec 16) (s : State) :
    (raiseEvent kind source detail s).hwFaults = s.hwFaults := by
  obtain ⟨_, _, h⟩ := raiseEvent_frame kind source detail s
  rw [h]
@[simp] theorem raiseEvent_ports (kind : EventKind) (source : EventSource) (detail : BitVec 16) (s : State) :
    (raiseEvent kind source detail s).ports = s.ports := by
  obtain ⟨_, _, h⟩ := raiseEvent_frame kind source detail s
  rw [h]
@[simp] theorem raiseEvent_steering (kind : EventKind) (source : EventSource) (detail : BitVec 16) (s : State) :
    (raiseEvent kind source detail s).steering = s.steering := by
  obtain ⟨_, _, h⟩ := raiseEvent_frame kind source detail s
  rw [h]
@[simp] theorem raiseEvent_assocs (kind : EventKind) (source : EventSource) (detail : BitVec 16) (s : State) :
    (raiseEvent kind source detail s).assocs = s.assocs := by
  obtain ⟨_, _, h⟩ := raiseEvent_frame kind source detail s
  rw [h]
@[simp] theorem raiseEvent_slots (kind : EventKind) (source : EventSource) (detail : BitVec 16) (s : State) :
    (raiseEvent kind source detail s).slots = s.slots := by
  obtain ⟨_, _, h⟩ := raiseEvent_frame kind source detail s
  rw [h]
@[simp] theorem raiseEvent_transportKey (kind : EventKind) (source : EventSource) (detail : BitVec 16) (s : State) :
    (raiseEvent kind source detail s).transportKey = s.transportKey := by
  obtain ⟨_, _, h⟩ := raiseEvent_frame kind source detail s
  rw [h]
@[simp] theorem raiseEvent_expansionFifo (kind : EventKind) (source : EventSource) (detail : BitVec 16) (s : State) :
    (raiseEvent kind source detail s).expansionFifo = s.expansionFifo := by
  obtain ⟨_, _, h⟩ := raiseEvent_frame kind source detail s
  rw [h]
@[simp] theorem raiseEvent_scrubPointer (kind : EventKind) (source : EventSource) (detail : BitVec 16) (s : State) :
    (raiseEvent kind source detail s).scrubPointer = s.scrubPointer := by
  obtain ⟨_, _, h⟩ := raiseEvent_frame kind source detail s
  rw [h]
@[simp] theorem raiseEvent_lanes (kind : EventKind) (source : EventSource) (detail : BitVec 16) (s : State) :
    (raiseEvent kind source detail s).lanes = s.lanes := by
  obtain ⟨_, _, h⟩ := raiseEvent_frame kind source detail s
  rw [h]
@[simp] theorem raiseEvent_verifyQueue (kind : EventKind) (source : EventSource) (detail : BitVec 16) (s : State) :
    (raiseEvent kind source detail s).verifyQueue = s.verifyQueue := by
  obtain ⟨_, _, h⟩ := raiseEvent_frame kind source detail s
  rw [h]
@[simp] theorem raiseEvent_roundRobin (kind : EventKind) (source : EventSource) (detail : BitVec 16) (s : State) :
    (raiseEvent kind source detail s).roundRobin = s.roundRobin := by
  obtain ⟨_, _, h⟩ := raiseEvent_frame kind source detail s
  rw [h]
@[simp] theorem raiseEvent_eventMask (kind : EventKind) (source : EventSource) (detail : BitVec 16) (s : State) :
    (raiseEvent kind source detail s).eventMask = s.eventMask := by
  obtain ⟨_, _, h⟩ := raiseEvent_frame kind source detail s
  rw [h]
@[simp] theorem raiseEvent_faultList (kind : EventKind) (source : EventSource) (detail : BitVec 16) (s : State) :
    (raiseEvent kind source detail s).faultList = s.faultList := by
  obtain ⟨_, _, h⟩ := raiseEvent_frame kind source detail s
  rw [h]
@[simp] theorem raiseEvent_receiver (kind : EventKind) (source : EventSource) (detail : BitVec 16) (s : State) :
    (raiseEvent kind source detail s).receiver = s.receiver := by
  obtain ⟨_, _, h⟩ := raiseEvent_frame kind source detail s
  rw [h]
@[simp] theorem raiseEvent_requestInbox (kind : EventKind) (source : EventSource) (detail : BitVec 16) (s : State) :
    (raiseEvent kind source detail s).requestInbox = s.requestInbox := by
  obtain ⟨_, _, h⟩ := raiseEvent_frame kind source detail s
  rw [h]
@[simp] theorem raiseEvent_requestCount (kind : EventKind) (source : EventSource) (detail : BitVec 16) (s : State) :
    (raiseEvent kind source detail s).requestCount = s.requestCount := by
  obtain ⟨_, _, h⟩ := raiseEvent_frame kind source detail s
  rw [h]
@[simp] theorem raiseEvent_replyOwed (kind : EventKind) (source : EventSource) (detail : BitVec 16) (s : State) :
    (raiseEvent kind source detail s).replyOwed = s.replyOwed := by
  obtain ⟨_, _, h⟩ := raiseEvent_frame kind source detail s
  rw [h]
@[simp] theorem raiseEvent_busyOwed (kind : EventKind) (source : EventSource) (detail : BitVec 16) (s : State) :
    (raiseEvent kind source detail s).busyOwed = s.busyOwed := by
  obtain ⟨_, _, h⟩ := raiseEvent_frame kind source detail s
  rw [h]

end Sys2Proof.Machine
end

