-- ==== Sys2Proof/Laws/Tables.lean ====
section
/-! SUPPORT. Rows of tables after each update. -/

namespace Sys2Proof.Machine

/-! ## Tables -/

@[simp] theorem row_setRow_self {α : Type} {n : Nat} (v : Vector α n) (i : Fin n) (a : α) : row (setRow v i a) i = a := by
  simp [row, setRow]

theorem row_setRow {α : Type} {n : Nat} (v : Vector α n) (i j : Fin n) (a : α) :
    row (setRow v i a) j = if i = j then a else row v j := by
  simp [row, setRow, Vector.getElem_set, Fin.ext_iff]

theorem row_setRow_ne {α : Type} {n : Nat} (v : Vector α n) {i j : Fin n} (a : α) (h : i ≠ j) :
    row (setRow v i a) j = row v j := by rw [row_setRow, if_neg h]

theorem row_updRow {α : Type} {n : Nat} (v : Vector α n) (i j : Fin n) (f : α → α) :
    row (updRow v i f) j = if i = j then f (row v i) else row v j := row_setRow ..

@[simp] theorem row_updRow_self {α : Type} {n : Nat} (v : Vector α n) (i : Fin n) (f : α → α) :
    row (updRow v i f) i = f (row v i) := row_setRow_self ..

theorem row_updRow_ne {α : Type} {n : Nat} (v : Vector α n) {i j : Fin n} (f : α → α) (h : i ≠ j) :
    row (updRow v i f) j = row v j := row_setRow_ne v _ h

@[simp] theorem row_ofFn {α : Type} {n : Nat} (f : Fin n → α) (i : Fin n) : row (Vector.ofFn f) i = f i := by simp [row]

@[simp] theorem row_mapRows {α : Type} {n : Nat} (v : Vector α n) (f : α → α) (i : Fin n) :
    row (mapRows v f) i = f (row v i) := by simp [mapRows]

@[simp] theorem row_replicate {α : Type} {n : Nat} (a : α) (i : Fin n) : row (Vector.replicate n a) i = a := by simp [row]

theorem row_mapRange {α : Type} {n : Nat} (first used : Nat) (f : α → α) (v : Vector α n) (i : Fin n) :
    row (mapRange first used f v) i = if inCounterRange first used i.val then f (row v i) else row v i := by
  simp [mapRange]

/-- Two tables with the same rows are equal. -/
theorem ext_rows {α : Type} {n : Nat} {v w : Vector α n} (h : ∀ i, row v i = row w i) : v = w := by
  apply Vector.ext
  intro i hi
  exact h ⟨i, hi⟩

/-! ## Rows of the state -/

theorem State.port_updPort (s : State) (p q : PortNum) (f : Port → Port) :
    (s.updPort p f).port q = if p = q then f (s.port p) else s.port q := row_updRow ..

@[simp] theorem State.port_updPort_self (s : State) (p : PortNum) (f : Port → Port) :
    (s.updPort p f).port p = f (s.port p) := row_updRow_self ..

theorem State.port_updPort_ne (s : State) {p q : PortNum} (f : Port → Port) (h : p ≠ q) :
    (s.updPort p f).port q = s.port q := row_updRow_ne _ f h

theorem State.assoc_updAssoc (s : State) (a b : Anum) (f : Assoc → Assoc) :
    (s.updAssoc a f).assoc b = if a = b then f (s.assoc a) else s.assoc b := row_updRow ..

@[simp] theorem State.assoc_updAssoc_self (s : State) (a : Anum) (f : Assoc → Assoc) :
    (s.updAssoc a f).assoc a = f (s.assoc a) := row_updRow_self ..

theorem State.assoc_updAssoc_ne (s : State) {a b : Anum} (f : Assoc → Assoc) (h : a ≠ b) :
    (s.updAssoc a f).assoc b = s.assoc b := row_updRow_ne _ f h

theorem State.slot_updSlot (s : State) (k j : SlotNum) (f : Slot → Slot) :
    (s.updSlot k f).slot j = if k = j then f (s.slot k) else s.slot j := row_updRow ..

@[simp] theorem State.slot_updSlot_self (s : State) (k : SlotNum) (f : Slot → Slot) :
    (s.updSlot k f).slot k = f (s.slot k) := row_updRow_self ..

theorem State.slot_updSlot_ne (s : State) {k j : SlotNum} (f : Slot → Slot) (h : k ≠ j) :
    (s.updSlot k f).slot j = s.slot j := row_updRow_ne _ f h

theorem State.entry_updEntry (s : State) (i j : EntryIdx) (f : SteerEntry → SteerEntry) :
    (s.updEntry i f).entry j = if i = j then f (s.entry i) else s.entry j := row_updRow ..

@[simp] theorem State.entry_updEntry_self (s : State) (i : EntryIdx) (f : SteerEntry → SteerEntry) :
    (s.updEntry i f).entry i = f (s.entry i) := row_updRow_self ..

theorem State.lane_setLane (s : State) (l m : LaneNum) (x : Lane) :
    (s.setLane l x).lane m = if l = m then x else s.lane m := row_setRow ..

@[simp] theorem State.lane_setLane_self (s : State) (l : LaneNum) (x : Lane) : (s.setLane l x).lane l = x :=
  row_setRow_self ..

/-! ## A row of one table after an update of another -/

@[simp] theorem State.assoc_updPort (s : State) (p : PortNum) (f : Port → Port) (b : Anum) :
    (s.updPort p f).assoc b = s.assoc b := rfl
@[simp] theorem State.slot_updPort (s : State) (p : PortNum) (f : Port → Port) (j : SlotNum) :
    (s.updPort p f).slot j = s.slot j := rfl
@[simp] theorem State.entry_updPort (s : State) (p : PortNum) (f : Port → Port) (j : EntryIdx) :
    (s.updPort p f).entry j = s.entry j := rfl
@[simp] theorem State.lane_updPort (s : State) (p : PortNum) (f : Port → Port) (m : LaneNum) :
    (s.updPort p f).lane m = s.lane m := rfl
@[simp] theorem State.port_updAssoc (s : State) (a : Anum) (f : Assoc → Assoc) (q : PortNum) :
    (s.updAssoc a f).port q = s.port q := rfl
@[simp] theorem State.slot_updAssoc (s : State) (a : Anum) (f : Assoc → Assoc) (j : SlotNum) :
    (s.updAssoc a f).slot j = s.slot j := rfl
@[simp] theorem State.entry_updAssoc (s : State) (a : Anum) (f : Assoc → Assoc) (j : EntryIdx) :
    (s.updAssoc a f).entry j = s.entry j := rfl
@[simp] theorem State.lane_updAssoc (s : State) (a : Anum) (f : Assoc → Assoc) (m : LaneNum) :
    (s.updAssoc a f).lane m = s.lane m := rfl
@[simp] theorem State.port_updSlot (s : State) (k : SlotNum) (f : Slot → Slot) (q : PortNum) :
    (s.updSlot k f).port q = s.port q := rfl
@[simp] theorem State.assoc_updSlot (s : State) (k : SlotNum) (f : Slot → Slot) (b : Anum) :
    (s.updSlot k f).assoc b = s.assoc b := rfl
@[simp] theorem State.entry_updSlot (s : State) (k : SlotNum) (f : Slot → Slot) (j : EntryIdx) :
    (s.updSlot k f).entry j = s.entry j := rfl
@[simp] theorem State.lane_updSlot (s : State) (k : SlotNum) (f : Slot → Slot) (m : LaneNum) :
    (s.updSlot k f).lane m = s.lane m := rfl
@[simp] theorem State.port_updEntry (s : State) (i : EntryIdx) (f : SteerEntry → SteerEntry) (q : PortNum) :
    (s.updEntry i f).port q = s.port q := rfl
@[simp] theorem State.assoc_updEntry (s : State) (i : EntryIdx) (f : SteerEntry → SteerEntry) (b : Anum) :
    (s.updEntry i f).assoc b = s.assoc b := rfl
@[simp] theorem State.slot_updEntry (s : State) (i : EntryIdx) (f : SteerEntry → SteerEntry) (j : SlotNum) :
    (s.updEntry i f).slot j = s.slot j := rfl
@[simp] theorem State.lane_updEntry (s : State) (i : EntryIdx) (f : SteerEntry → SteerEntry) (m : LaneNum) :
    (s.updEntry i f).lane m = s.lane m := rfl
@[simp] theorem State.port_setLane (s : State) (l : LaneNum) (x : Lane) (q : PortNum) :
    (s.setLane l x).port q = s.port q := rfl
@[simp] theorem State.assoc_setLane (s : State) (l : LaneNum) (x : Lane) (b : Anum) :
    (s.setLane l x).assoc b = s.assoc b := rfl
@[simp] theorem State.slot_setLane (s : State) (l : LaneNum) (x : Lane) (j : SlotNum) :
    (s.setLane l x).slot j = s.slot j := rfl
@[simp] theorem State.entry_setLane (s : State) (l : LaneNum) (x : Lane) (j : EntryIdx) :
    (s.setLane l x).entry j = s.entry j := rfl
@[simp] theorem State.assoc_bumpPort (p : PortNum) (c : PortCounter) (n : Nat) (s : State) (b : Anum) :
    (bumpPort p c n s).assoc b = s.assoc b := rfl
@[simp] theorem State.slot_bumpPort (p : PortNum) (c : PortCounter) (n : Nat) (s : State) (j : SlotNum) :
    (bumpPort p c n s).slot j = s.slot j := rfl
@[simp] theorem State.entry_bumpPort (p : PortNum) (c : PortCounter) (n : Nat) (s : State) (j : EntryIdx) :
    (bumpPort p c n s).entry j = s.entry j := rfl
@[simp] theorem State.lane_bumpPort (p : PortNum) (c : PortCounter) (n : Nat) (s : State) (m : LaneNum) :
    (bumpPort p c n s).lane m = s.lane m := rfl
@[simp] theorem State.port_bumpAssoc (a : Anum) (c : AssocCounter) (n : Nat) (s : State) (q : PortNum) :
    (bumpAssoc a c n s).port q = s.port q := rfl
@[simp] theorem State.slot_bumpAssoc (a : Anum) (c : AssocCounter) (n : Nat) (s : State) (j : SlotNum) :
    (bumpAssoc a c n s).slot j = s.slot j := rfl
@[simp] theorem State.entry_bumpAssoc (a : Anum) (c : AssocCounter) (n : Nat) (s : State) (j : EntryIdx) :
    (bumpAssoc a c n s).entry j = s.entry j := rfl
@[simp] theorem State.lane_bumpAssoc (a : Anum) (c : AssocCounter) (n : Nat) (s : State) (m : LaneNum) :
    (bumpAssoc a c n s).lane m = s.lane m := rfl
@[simp] theorem State.port_raiseEvent (kind : EventKind) (source : EventSource) (detail : BitVec 16) (s : State)
    (q : PortNum) : (raiseEvent kind source detail s).port q = s.port q := by simp [State.port]
@[simp] theorem State.assoc_raiseEvent (kind : EventKind) (source : EventSource) (detail : BitVec 16) (s : State)
    (b : Anum) : (raiseEvent kind source detail s).assoc b = s.assoc b := by simp [State.assoc]
@[simp] theorem State.slot_raiseEvent (kind : EventKind) (source : EventSource) (detail : BitVec 16) (s : State)
    (j : SlotNum) : (raiseEvent kind source detail s).slot j = s.slot j := by simp [State.slot]
@[simp] theorem State.entry_raiseEvent (kind : EventKind) (source : EventSource) (detail : BitVec 16) (s : State)
    (j : EntryIdx) : (raiseEvent kind source detail s).entry j = s.entry j := by simp [State.entry]
@[simp] theorem State.lane_raiseEvent (kind : EventKind) (source : EventSource) (detail : BitVec 16) (s : State)
    (m : LaneNum) : (raiseEvent kind source detail s).lane m = s.lane m := by simp [State.lane]

end Sys2Proof.Machine
end

