-- ==== Sys2Proof/Laws/Ops.lean ====
section
/-! SUPPORT. What each shared operation can do: its cases, and the part of the state that it touches. -/

namespace Sys2Proof.Machine

/-! ## Folds -/

/-- What one step of a fold keeps, the fold keeps. -/
theorem foldl_keeps {α β : Type} (P : β → Prop) (f : β → α → β) (h : ∀ s x, P s → P (f s x)) :
    ∀ (xs : List α) (s : β), P s → P (xs.foldl f s)
  | [], _, hs => hs
  | x :: xs, s, hs => foldl_keeps P f h xs (f s x) (h s x hs)

/-- A part of the state that one step of a fold leaves as it was, the fold leaves as it was. -/
theorem foldl_same {α β γ : Type} (g : β → γ) (f : β → α → β) (h : ∀ s x, g (f s x) = g s) (xs : List α) (s : β) :
    g (xs.foldl f s) = g s :=
  foldl_keeps (fun t => g t = g s) f (fun t x ht => (h t x).trans ht) xs s rfl

/-! ## Counters (R180) -/

theorem addCount_le (c n : Nat) : addCount c n ≤ Config.counterMax := Nat.min_le_right ..

theorem le_addCount (c n : Nat) (h : c ≤ Config.counterMax) : c ≤ addCount c n := by unfold addCount; omega

theorem counter_bumpPort (p q : PortNum) (c d : PortCounter) (n : Nat) (s : State) :
    row ((bumpPort p c n s).port q).counters d.index
      = if p = q ∧ c.index = d.index then addCount (row (s.port q).counters d.index) n
        else row (s.port q).counters d.index := by
  unfold bumpPort
  rw [State.port_updPort]
  by_cases hp : p = q
  · subst hp
    simp only [if_true, true_and, row_updRow]
    split <;> simp_all
  · simp [hp]

theorem counter_bumpAssoc (a b : Anum) (c d : AssocCounter) (n : Nat) (s : State) :
    row ((bumpAssoc a c n s).assoc b).counters d.index
      = if a = b ∧ c.index = d.index then addCount (row (s.assoc b).counters d.index) n
        else row (s.assoc b).counters d.index := by
  unfold bumpAssoc
  rw [State.assoc_updAssoc]
  by_cases hp : a = b
  · subst hp
    simp only [if_true, true_and, row_updRow]
    split <;> simp_all
  · simp [hp]

/-! ## Events (R175) -/

/-- An entry after an event of a kind and source has merged into the list (R175 case 2). -/
def Event.merged (kind : EventKind) (source : EventSource) (e : Event) : Event :=
  if Event.sameAs kind source e then { e with count := min (e.count + 1) 255 } else e

/-- Everything that raising an event can do (R175). -/
theorem raiseEvent_cases (kind : EventKind) (source : EventSource) (detail : BitVec 16) (s : State) :
    (s.eventMask.getLsbD kind.code = false ∧ raiseEvent kind source detail s = s)
    ∨ (s.eventMask.getLsbD kind.code = true ∧ (∃ e ∈ s.events, e.kind = kind ∧ e.source = source)
        ∧ raiseEvent kind source detail s = { s with events := s.events.map (Event.merged kind source) })
    ∨ (s.eventMask.getLsbD kind.code = true ∧ (∀ e ∈ s.events, ¬(e.kind = kind ∧ e.source = source))
        ∧ s.events.length < 64
        ∧ raiseEvent kind source detail s
          = { s with events := s.events ++ [{ kind := kind, source := source, count := 1, detail := detail }] })
    ∨ (s.eventMask.getLsbD kind.code = true ∧ (∀ e ∈ s.events, ¬(e.kind = kind ∧ e.source = source))
        ∧ 64 ≤ s.events.length ∧ raiseEvent kind source detail s = { s with eventsLost := true }) := by
  unfold raiseEvent
  by_cases hm : s.eventMask.getLsbD kind.code = false
  · exact .inl ⟨hm, by simp only [hm, if_true]⟩
  · have hm' : s.eventMask.getLsbD kind.code = true := by simpa using hm
    by_cases ha : s.events.any (Event.sameAs kind source) = true
    · refine .inr (.inl ⟨hm', ?_, by simp only [hm', ha]; rfl⟩)
      obtain ⟨e, he, h⟩ := List.any_eq_true.mp ha
      exact ⟨e, he, by simpa [Event.sameAs] using h⟩
    · have hn : ∀ e ∈ s.events, ¬(e.kind = kind ∧ e.source = source) := by
        intro e he h
        exact ha (List.any_eq_true.mpr ⟨e, he, by simp [Event.sameAs, h.1, h.2]⟩)
      by_cases hl : s.events.length < 64
      · exact .inr (.inr (.inl ⟨hm', hn, hl, by simp [hm', ha, Config.eventCapacity, hl]⟩))
      · exact .inr (.inr (.inr ⟨hm', hn, by omega, by simp [hm', ha, Config.eventCapacity, hl]⟩))

/-! ## Management faults (R172, R178) -/

/-- Recording a fault touches the fault list, the event list and the lost flag alone. -/
theorem recordFault_frame (kind : FaultKind) (tag : Option Byte) (s : State) :
    ∃ faults events lost, recordFault kind tag s
      = { s with faultList := faults, events := events, eventsLost := lost } := by
  unfold recordFault
  simp only
  obtain ⟨es, l, h⟩ := raiseEvent_frame .mgmtFault .part (kind.code.setWidth 16)
    { s with faultList := (if s.faultList.length < Config.faultCapacity then s.faultList else s.faultList.drop 1)
      ++ [{ kind := kind, tag := tag, requestCount := s.requestCount }] }
  exact ⟨_, es, l, h⟩

/-! ## Slots (R76 to R79) -/

/-- Emptying a slot touches the expansion FIFO, the lanes' live marks and that slot alone. -/
theorem emptySlot_eq (k : SlotNum) (s : State) :
    emptySlot k s = { s with
      expansionFifo := s.expansionFifo.filter (· != k)
      lanes := (dropExpansion k s).lanes
      slots := setRow s.slots k Slot.empty } := rfl

@[simp] theorem slot_emptySlot_self (k : SlotNum) (s : State) : (emptySlot k s).slot k = Slot.empty := by
  simp [emptySlot]

theorem slot_emptySlot_ne (s : State) {k j : SlotNum} (h : k ≠ j) : (emptySlot k s).slot j = s.slot j := by
  simp only [emptySlot]
  rw [State.slot_updSlot_ne _ _ h]
  rfl

/-- Everything that the end of a slot's service touches (R77, R78). -/
theorem retireSlot_frame (k : SlotNum) (s : State) :
    ∃ fifo lanes events lost, retireSlot k s = { s with
      expansionFifo := fifo, lanes := lanes, slots := setRow s.slots k Slot.empty, events := events, eventsLost := lost } := by
  obtain ⟨es, l, h⟩ := raiseEvent_frame .keyRetired (.slot k) 0 (emptySlot k s)
  exact ⟨_, _, es, l, by rw [retireSlot, h]; rfl⟩

/-- The two ways an entry leaves its slot (R76, R78). -/
theorem releaseSlot_cases (k : SlotNum) (s : State) :
    ((s.slot k).state = .draining ∧ (s.slot k).inFlight - 1 = 0 ∧ releaseSlot k s = retireSlot k s)
    ∨ (¬((s.slot k).state = .draining ∧ (s.slot k).inFlight - 1 = 0)
        ∧ releaseSlot k s = s.updSlot k fun x => { x with inFlight := (s.slot k).inFlight - 1 }) := by
  by_cases h : (s.slot k).state = .draining ∧ (s.slot k).inFlight - 1 = 0
  · exact .inl ⟨h.1, h.2, by simp only [releaseSlot, h, and_self, if_true]⟩
  · exact .inr ⟨h, by simp only [releaseSlot, h, if_false]⟩

/-- The two ways a slot leaves service (R77). -/
theorem leaveService_cases (k : SlotNum) (s : State) :
    ((s.slot k).inFlight = 0 ∧ leaveService k s = retireSlot k s)
    ∨ ((s.slot k).inFlight ≠ 0 ∧ leaveService k s = s.updSlot k fun x => { x with state := .draining }) := by
  by_cases h : (s.slot k).inFlight = 0
  · exact .inl ⟨h, by simp only [leaveService, h, if_true]⟩
  · exact .inr ⟨h, by simp only [leaveService, h, if_false]⟩

/-- Operations on slots touch the expansion FIFO, the lanes, the slots and the event list alone. -/
def SlotFrame (s t : State) : Prop :=
  ∃ fifo lanes slots events lost, t = { s with
    expansionFifo := fifo, lanes := lanes, slots := slots, events := events, eventsLost := lost }

theorem SlotFrame.refl (s : State) : SlotFrame s s := ⟨_, _, _, _, _, rfl⟩

theorem SlotFrame.trans {s t u : State} (h : SlotFrame s t) (g : SlotFrame t u) : SlotFrame s u := by
  obtain ⟨_, _, _, _, _, rfl⟩ := h
  obtain ⟨_, _, _, _, _, rfl⟩ := g
  exact ⟨_, _, _, _, _, rfl⟩

theorem retireSlot_slotFrame (k : SlotNum) (s : State) : SlotFrame s (retireSlot k s) := by
  obtain ⟨_, _, _, _, h⟩ := retireSlot_frame k s
  exact ⟨_, _, _, _, _, h⟩

theorem releaseSlot_slotFrame (k : SlotNum) (s : State) : SlotFrame s (releaseSlot k s) := by
  obtain ⟨_, _, h⟩ | ⟨_, h⟩ := releaseSlot_cases k s <;> rw [h]
  · exact retireSlot_slotFrame k s
  · exact ⟨_, _, _, _, _, rfl⟩

theorem leaveService_slotFrame (k : SlotNum) (s : State) : SlotFrame s (leaveService k s) := by
  obtain ⟨_, h⟩ | ⟨_, h⟩ := leaveService_cases k s <;> rw [h]
  · exact retireSlot_slotFrame k s
  · exact ⟨_, _, _, _, _, rfl⟩

theorem releaseEntry_slotFrame (e : Entry) (s : State) : SlotFrame s (releaseEntry e s) := by
  unfold releaseEntry
  split
  · exact releaseSlot_slotFrame ..
  · exact .refl s

/-! ## Class queues and sequences -/

/-- Work on a port's queues and sequence touches the ports, what `SlotFrame` lists, and nothing else. -/
def PortFrame (s t : State) : Prop :=
  ∃ ports fifo lanes slots events lost, t = { s with
    ports := ports, expansionFifo := fifo, lanes := lanes, slots := slots, events := events, eventsLost := lost }

theorem PortFrame.refl (s : State) : PortFrame s s := ⟨_, _, _, _, _, _, rfl⟩

theorem PortFrame.trans {s t u : State} (h : PortFrame s t) (g : PortFrame t u) : PortFrame s u := by
  obtain ⟨_, _, _, _, _, _, rfl⟩ := h
  obtain ⟨_, _, _, _, _, _, rfl⟩ := g
  exact ⟨_, _, _, _, _, _, rfl⟩

theorem SlotFrame.portFrame {s t : State} (h : SlotFrame s t) : PortFrame s t := by
  obtain ⟨_, _, _, _, _, rfl⟩ := h
  exact ⟨_, _, _, _, _, _, rfl⟩

theorem updPort_portFrame (p : PortNum) (f : Port → Port) (s : State) : PortFrame s (s.updPort p f) :=
  ⟨_, _, _, _, _, _, rfl⟩

theorem bumpPort_portFrame (p : PortNum) (c : PortCounter) (n : Nat) (s : State) : PortFrame s (bumpPort p c n s) :=
  ⟨_, _, _, _, _, _, rfl⟩

theorem raiseEvent_portFrame (kind : EventKind) (source : EventSource) (detail : BitVec 16) (s : State) :
    PortFrame s (raiseEvent kind source detail s) := by
  obtain ⟨_, _, h⟩ := raiseEvent_frame kind source detail s
  exact ⟨_, _, _, _, _, _, h⟩

theorem foldl_portFrame {α : Type} (f : State → α → State) (h : ∀ s x, PortFrame s (f s x)) (xs : List α) (s : State) :
    PortFrame s (xs.foldl f s) :=
  foldl_keeps (PortFrame s) f (fun _ x ht => ht.trans (h _ x)) xs s (.refl s)

theorem evalHolding_portFrame (p : PortNum) (k : ClassNum) (s : State) : PortFrame s (evalHolding p k s) :=
  updPort_portFrame ..

theorem takeHead_portFrame (p : PortNum) (k : ClassNum) (s : State) : PortFrame s (takeHead p k s) :=
  (updPort_portFrame ..).trans (evalHolding_portFrame ..)

theorem admitFrame_portFrame (p : PortNum) (r : FrameRecord) (s : State) : PortFrame s (admitFrame p r s) := by
  unfold admitFrame
  split
  · exact bumpPort_portFrame ..
  · split
    · exact (updPort_portFrame ..).trans (evalHolding_portFrame ..)
    · exact (bumpPort_portFrame ..).trans (raiseEvent_portFrame ..)

theorem flushQueues_portFrame (p : PortNum) (c : PortCounter) (s : State) : PortFrame s (flushQueues p c s) := by
  refine foldl_portFrame _ (fun s k => ?_) _ _
  unfold flushClass
  split
  · exact .refl s
  · exact ((updPort_portFrame ..).trans (evalHolding_portFrame ..)).trans (bumpPort_portFrame ..)

theorem linkDownFlush_portFrame (p : PortNum) (s : State) : PortFrame s (linkDownFlush p s) := by
  unfold linkDownFlush
  split
  · exact flushQueues_portFrame ..
  · exact .refl s

theorem removeEntries_portFrame (p : PortNum) (test : Entry → Bool) (c : PortCounter) (s : State) :
    PortFrame s (removeEntries p test c s) :=
  (updPort_portFrame ..).trans
    (foldl_portFrame _ (fun _ _ => (bumpPort_portFrame ..).trans (releaseEntry_slotFrame ..).portFrame) _ _)

theorem dropHead_portFrame (p : PortNum) (s : State) : PortFrame s (dropHead p s) := by
  unfold dropHead
  split
  · exact .refl s
  · exact (updPort_portFrame ..).trans (releaseEntry_slotFrame ..).portFrame

theorem discardHeadsUpTo_portFrame (p : PortNum) : ∀ (n : Nat) (s : State), PortFrame s (discardHeadsUpTo n p s)
  | 0, s => .refl s
  | n + 1, s => by
    unfold discardHeadsUpTo
    split
    · exact ((bumpPort_portFrame ..).trans (dropHead_portFrame ..)).trans (discardHeadsUpTo_portFrame p n _)
    · exact .refl s

theorem discardHeads_portFrame (p : PortNum) (s : State) : PortFrame s (discardHeads p s) :=
  discardHeadsUpTo_portFrame ..

theorem settlePasses_portFrame (p : PortNum) (s : State) : PortFrame s (settlePasses p s) := updPort_portFrame ..

theorem tidySequence_portFrame (p : PortNum) (s : State) : PortFrame s (tidySequence p s) :=
  (settlePasses_portFrame ..).trans (discardHeads_portFrame ..)

theorem condemnEntries_portFrame (k : SlotNum) (s : State) : PortFrame s (condemnEntries k s) :=
  foldl_portFrame _ (fun _ _ => (removeEntries_portFrame ..).trans (tidySequence_portFrame ..)) _ _

/-! ## The arbiter -/

/-- One grant touches the ports, the associations' corrupt-one flags, the lanes, the two queues of lane work and the
pointer; everything else stays (R91, R99). -/
def GrantFrame (s t : State) : Prop :=
  ∃ ports assocs lanes fifo verify pointer, t = { s with
    ports := ports, assocs := assocs, lanes := lanes, expansionFifo := fifo, verifyQueue := verify, roundRobin := pointer }

theorem GrantFrame.refl (s : State) : GrantFrame s s := ⟨_, _, _, _, _, _, rfl⟩

theorem GrantFrame.trans {s t u : State} (h : GrantFrame s t) (g : GrantFrame t u) : GrantFrame s u := by
  obtain ⟨_, _, _, _, _, _, rfl⟩ := h
  obtain ⟨_, _, _, _, _, _, rfl⟩ := g
  exact ⟨_, _, _, _, _, _, rfl⟩

theorem grantTransform_frame (l : LaneNum) (p : PortNum) (s : State) : GrantFrame s (grantTransform l p s) := by
  unfold grantTransform
  split
  · exact .refl s
  · split
    · exact .refl s
    · rename_i e _ _ k _
      unfold spendCorrupt
      cases e.body <;> exact ⟨_, _, _, _, _, _, rfl⟩

theorem grantOne_frame {s t : State} (h : grantOne s = some t) : GrantFrame s t := by
  unfold grantOne at h
  split at h
  · cases h
  · split at h
    · cases h
      exact ⟨_, _, _, _, _, _, rfl⟩
    · split at h
      · cases h
        exact ⟨_, _, _, _, _, _, rfl⟩
      · obtain ⟨p, _, rfl⟩ := Option.map_eq_some_iff.mp h
        exact grantTransform_frame ..

theorem grantUpTo_frame : ∀ (n : Nat) (s : State), GrantFrame s (grantUpTo n s)
  | 0, s => .refl s
  | n + 1, s => by
    unfold grantUpTo
    split
    · rename_i t h
      exact (grantOne_frame h).trans (grantUpTo_frame n t)
    · exact .refl s

theorem arbitrate_frame (s : State) : GrantFrame s (arbitrate s) := grantUpTo_frame ..

/-! ## Requests -/

/-- A record that finds nothing owed is dealt with, and its reply becomes owed (R165). -/
theorem recordArrives_idle (kind tag : Byte) (deal : State → Served) (s : State) (h1 : s.replyOwed = none)
    (h2 : s.busyOwed = none) : recordArrives kind tag deal s = oweReply kind tag (deal (counted s)) := by
  simp [recordArrives, State.lineState, h1, h2, counted]

/-- A request that is taken at once (R165, R168). -/
theorem requestArrives_taken (kind : RequestKind) (tag : Byte) (n : Nat) (serve : State → Served) (s : State)
    (h : TakesRequests s) (h1 : kind.bodyRange.1 ≤ n) (h2 : n ≤ kind.bodyRange.2) :
    requestArrives kind tag n serve s = .next (oweReply kind.code tag (serve (counted s))) := by
  obtain ⟨hr, h3, h4, hp⟩ := h
  have hp' : (counted s).partState = .running := hp
  have hn : ¬(n < kind.bodyRange.1 ∨ kind.bodyRange.2 < n) := by omega
  simp only [requestArrives, unlessHeld, hr, recordArrives_idle _ _ _ _ h3 h4, takeRequest, hp', RequestKind.takenIn, hn]
  simp

/-- The reply to a request that is done (R167). -/
theorem oweReply_done (kind tag : Byte) (fields : Bytes) (s : State) :
    oweReply kind tag (done fields s) = owingOk (replyKind kind) tag fields s := by
  simp [oweReply, done, makeReply, owingOk, Status.code]

/-- The reply to a request that is refused (R167). -/
theorem oweReply_refuse (kind tag : Byte) (status : Status) (s : State) (h : status ≠ .ok) :
    oweReply kind tag (refuse status s) = owingRefusal (replyKind kind) tag status.code s := by
  simp [oweReply, refuse, makeReply, owingRefusal, h]

end Sys2Proof.Machine
end

