-- ==== Sys2Proof/Laws/PerInstr.lean ====
section
/-! SUPPORT. For every command: the record it stands for has a body that R171 accepts. One lemma per command. -/

namespace Sys2Proof.Machine

@[simp] theorem length_toLE : ∀ (w n : Nat), (toLE w n).length = w
  | 0, _ => rfl
  | w + 1, n => by simp [toLE, length_toLE w]

@[simp] theorem length_toBE (w n : Nat) : (toBE w n).length = w := by simp [toBE]

@[simp] theorem length_writePortSet (b : PortSetBody) : (writePortSet b).length = 31 := by simp [writePortSet]

@[simp] theorem length_fourLe16Bytes (v : Vector (BitVec 16) 4) : (fourLe16Bytes v).length = 8 := by
  simp [fourLe16Bytes, List.length_flatMap]

@[simp] theorem length_writePortFlow (b : PortFlowBody) : (writePortFlow b).length = 28 := by simp [writePortFlow]

@[simp] theorem length_writeSteerSet (b : SteerSetBody) : (writeSteerSet b).length = 28 := by simp [writeSteerSet]

@[simp] theorem length_writeAssocSet (b : AssocSetBody) : (writeAssocSet b).length = 24 := by simp [writeAssocSet]

end Sys2Proof.Machine

namespace Sys2Proof.Laws

open Sys2Proof.Machine

/-- The body of the record that a well-formed command stands for has a length that R171 accepts for its kind. -/
def RecordShape.Statement (i : Instr) : Prop :=
  ∀ kind tag body, i.wellFormed = true → requestRecord i = some (kind, tag, body) →
    kind.bodyRange.1 ≤ body.length ∧ body.length ≤ kind.bodyRange.2

theorem RecordShape.powerOn (pins : PowerOnPins) : RecordShape.Statement (.powerOn pins) := by
  intro kind t body hw h
  cases h

theorem RecordShape.pinResetAssert : RecordShape.Statement .pinResetAssert := by
  intro kind t body hw h
  cases h

theorem RecordShape.pinResetRelease (rate : Fin 4) (clear : Bool) : RecordShape.Statement (.pinResetRelease rate clear) := by
  intro kind t body hw h
  cases h

theorem RecordShape.selftestComplete (result : SelfTestResult) : RecordShape.Statement (.selftestComplete result) := by
  intro kind t body hw h
  cases h

theorem RecordShape.inhibitAssert : RecordShape.Statement .inhibitAssert := by
  intro kind t body hw h
  cases h

theorem RecordShape.inhibitRelease : RecordShape.Statement .inhibitRelease := by
  intro kind t body hw h
  cases h

theorem RecordShape.finePulse (drift : Option KeyDrift) : RecordShape.Statement (.finePulse drift) := by
  intro kind t body hw h
  cases h

theorem RecordShape.coarsePulse (drift : Option KeyDrift) : RecordShape.Statement (.coarsePulse drift) := by
  intro kind t body hw h
  cases h

theorem RecordShape.lifetimeExpiry (anum : Anum) : RecordShape.Statement (.lifetimeExpiry anum) := by
  intro kind t body hw h
  cases h

theorem RecordShape.linkGood (port : PortNum) : RecordShape.Statement (.linkGood port) := by
  intro kind t body hw h
  cases h

theorem RecordShape.linkSettled (port : PortNum) : RecordShape.Statement (.linkSettled port) := by
  intro kind t body hw h
  cases h

theorem RecordShape.linkLost (port : PortNum) : RecordShape.Statement (.linkLost port) := by
  intro kind t body hw h
  cases h

theorem RecordShape.rackLinkLost (port : PortNum) : RecordShape.Statement (.rackLinkLost port) := by
  intro kind t body hw h
  cases h

theorem RecordShape.rackLinkGood (port : PortNum) : RecordShape.Statement (.rackLinkGood port) := by
  intro kind t body hw h
  cases h

theorem RecordShape.rsideFrameReceived (port : PortNum) (frame : Bytes) : RecordShape.Statement (.rsideFrameReceived port frame) := by
  intro kind t body hw h
  cases h

theorem RecordShape.csideFrameReceived (port : PortNum) (frame : Bytes) : RecordShape.Statement (.csideFrameReceived port frame) := by
  intro kind t body hw h
  cases h

theorem RecordShape.transformComplete (lane : LaneNum) : RecordShape.Statement (.transformComplete lane) := by
  intro kind t body hw h
  cases h

theorem RecordShape.expandComplete (lane : LaneNum) : RecordShape.Statement (.expandComplete lane) := by
  intro kind t body hw h
  cases h

theorem RecordShape.verifyComplete (lane : LaneNum) : RecordShape.Statement (.verifyComplete lane) := by
  intro kind t body hw h
  cases h

theorem RecordShape.attemptTimeout (anum : Anum) : RecordShape.Statement (.attemptTimeout anum) := by
  intro kind t body hw h
  cases h

theorem RecordShape.dequeueDecision (port : PortNum) : RecordShape.Statement (.dequeueDecision port) := by
  intro kind t body hw h
  cases h

theorem RecordShape.noticePlacement (port : PortNum) : RecordShape.Statement (.noticePlacement port) := by
  intro kind t body hw h
  cases h

theorem RecordShape.csideTxStart (port : PortNum) : RecordShape.Statement (.csideTxStart port) := by
  intro kind t body hw h
  cases h

theorem RecordShape.csideTxComplete (port : PortNum) : RecordShape.Statement (.csideTxComplete port) := by
  intro kind t body hw h
  cases h

theorem RecordShape.rsideTxStart (port : PortNum) : RecordShape.Statement (.rsideTxStart port) := by
  intro kind t body hw h
  cases h

theorem RecordShape.rsideTxComplete (port : PortNum) : RecordShape.Statement (.rsideTxComplete port) := by
  intro kind t body hw h
  cases h

theorem RecordShape.quantumTick : RecordShape.Statement .quantumTick := by
  intro kind t body hw h
  cases h

theorem RecordShape.pauseRefreshDue (port : PortNum) (cls : ClassNum) : RecordShape.Statement (.pauseRefreshDue port cls) := by
  intro kind t body hw h
  cases h

theorem RecordShape.campusPauseEnd (port : PortNum) (prio : Prio) : RecordShape.Statement (.campusPauseEnd port prio) := by
  intro kind t body hw h
  cases h

theorem RecordShape.rackPauseEnd (port : PortNum) (prio : Prio) : RecordShape.Statement (.rackPauseEnd port prio) := by
  intro kind t body hw h
  cases h

theorem RecordShape.mgmtByteReceived (byte : Byte) (stopBit : Bool) : RecordShape.Statement (.mgmtByteReceived byte stopBit) := by
  intro kind t body hw h
  cases h

theorem RecordShape.gapExpiry : RecordShape.Statement .gapExpiry := by
  intro kind t body hw h
  cases h

theorem RecordShape.recordComplete (record : Record) : RecordShape.Statement (.recordComplete record) := by
  intro kind t body hw h
  cases h

theorem RecordShape.replySent : RecordShape.Statement .replySent := by
  intro kind t body hw h
  cases h

theorem RecordShape.identify (tag : Byte) : RecordShape.Statement (.identify tag) := by
  intro kind t body hw h
  cases h
  simp [RequestKind.bodyRange]

theorem RecordShape.reset (tag : Byte) : RecordShape.Statement (.reset tag) := by
  intro kind t body hw h
  cases h
  simp [RequestKind.bodyRange]

theorem RecordShape.portSet (tag : Byte) (body : PortSetBody) : RecordShape.Statement (.portSet tag body) := by
  intro kind t body hw h
  cases h
  simp [RequestKind.bodyRange]

theorem RecordShape.portMode (tag port mode : Byte) : RecordShape.Statement (.portMode tag port mode) := by
  intro kind t body hw h
  cases h
  simp [RequestKind.bodyRange]

theorem RecordShape.portGet (tag port : Byte) : RecordShape.Statement (.portGet tag port) := by
  intro kind t body hw h
  cases h
  simp [RequestKind.bodyRange]

theorem RecordShape.portFlow (tag : Byte) (body : PortFlowBody) : RecordShape.Statement (.portFlow tag body) := by
  intro kind t body hw h
  cases h
  simp [RequestKind.bodyRange]

theorem RecordShape.portSwitch (tag port firstStep lastStep : Byte) : RecordShape.Statement (.portSwitch tag port firstStep lastStep) := by
  intro kind t body hw h
  cases h
  simp [RequestKind.bodyRange]

theorem RecordShape.steerSet (tag : Byte) (body : SteerSetBody) : RecordShape.Statement (.steerSet tag body) := by
  intro kind t body hw h
  cases h
  simp [RequestKind.bodyRange]

theorem RecordShape.steerGet (tag index : Byte) : RecordShape.Statement (.steerGet tag index) := by
  intro kind t body hw h
  cases h
  simp [RequestKind.bodyRange]

theorem RecordShape.steerLock (tag index : Byte) : RecordShape.Statement (.steerLock tag index) := by
  intro kind t body hw h
  cases h
  simp [RequestKind.bodyRange]

theorem RecordShape.steerClear (tag index : Byte) : RecordShape.Statement (.steerClear tag index) := by
  intro kind t body hw h
  cases h
  simp [RequestKind.bodyRange]

theorem RecordShape.assocSet (tag : Byte) (body : AssocSetBody) : RecordShape.Statement (.assocSet tag body) := by
  intro kind t body hw h
  cases h
  simp [RequestKind.bodyRange]

theorem RecordShape.assocStart (tag anum : Byte) : RecordShape.Statement (.assocStart tag anum) := by
  intro kind t body hw h
  cases h
  simp [RequestKind.bodyRange]

theorem RecordShape.assocSuspend (tag anum : Byte) : RecordShape.Statement (.assocSuspend tag anum) := by
  intro kind t body hw h
  cases h
  simp [RequestKind.bodyRange]

theorem RecordShape.assocResume (tag anum : Byte) : RecordShape.Statement (.assocResume tag anum) := by
  intro kind t body hw h
  cases h
  simp [RequestKind.bodyRange]

theorem RecordShape.assocClear (tag anum : Byte) : RecordShape.Statement (.assocClear tag anum) := by
  intro kind t body hw h
  cases h
  simp [RequestKind.bodyRange]

theorem RecordShape.assocGet (tag anum : Byte) : RecordShape.Statement (.assocGet tag anum) := by
  intro kind t body hw h
  cases h
  simp [RequestKind.bodyRange]

theorem RecordShape.testCorrupt (tag anum action : Byte) : RecordShape.Statement (.testCorrupt tag anum action) := by
  intro kind t body hw h
  cases h
  simp [RequestKind.bodyRange]

theorem RecordShape.switchNow (tag anum : Byte) : RecordShape.Statement (.switchNow tag anum) := by
  intro kind t body hw h
  cases h
  simp [RequestKind.bodyRange]

theorem RecordShape.transportKey (tag : Byte) (key : Bytes) : RecordShape.Statement (.transportKey tag key) := by
  intro kind t body hw h
  cases h
  have hl := of_decide_eq_true hw
  simp only [maxBody] at hl
  simp [RequestKind.bodyRange]
  omega

theorem RecordShape.keyLoad (tag slot anum epoch : Byte) (blob : Bytes) : RecordShape.Statement (.keyLoad tag slot anum epoch blob) := by
  intro kind t body hw h
  cases h
  have hl := of_decide_eq_true hw
  simp only [maxBody] at hl
  simp [RequestKind.bodyRange]
  omega

theorem RecordShape.keyErase (tag slot : Byte) : RecordShape.Statement (.keyErase tag slot) := by
  intro kind t body hw h
  cases h
  simp [RequestKind.bodyRange]

theorem RecordShape.slotGet (tag slot : Byte) : RecordShape.Statement (.slotGet tag slot) := by
  intro kind t body hw h
  cases h
  simp [RequestKind.bodyRange]

theorem RecordShape.eventsFetch (tag countWanted maskWrite : Byte) (mask : BitVec 32) : RecordShape.Statement (.eventsFetch tag countWanted maskWrite mask) := by
  intro kind t body hw h
  cases h
  simp [RequestKind.bodyRange]

theorem RecordShape.faultsRead (tag : Byte) : RecordShape.Statement (.faultsRead tag) := by
  intro kind t body hw h
  cases h
  simp [RequestKind.bodyRange]

theorem RecordShape.countersRead (tag block first count clear : Byte) : RecordShape.Statement (.countersRead tag block first count clear) := by
  intro kind t body hw h
  cases h
  simp [RequestKind.bodyRange]

end Sys2Proof.Laws
end

