-- ==== Sys2Proof/Tests/Slice0.lean ====
section
/-! SUPPORT. Tests: the checks of WellFormed, the spec's worked values, one step of each command on a small state, and for
each obligation with hypotheses a state and operands that meet them, clause by clause. Expected values come from the spec's
text, its tables and its worked examples, or from hand calculation with them. -/

set_option Elab.async false

namespace Sys2Proof.Tests

open Sys2Proof Sys2Proof.Machine

/-! ## WellFormed: an ill-formed command for each check, refused by it -/

theorem test_drift_names_a_stored_byte :
    (Instr.finePulse (some { slot := 0, field := .key 31, mask := 1 })).wellFormed = true
    ∧ (Instr.finePulse (some { slot := 0, field := .key 32, mask := 1 })).wellFormed = false
    ∧ (Instr.coarsePulse (some { slot := 0, field := .key 32, mask := 1 })).wellFormed = false := by decide

theorem test_record_body_fits :
    (Instr.recordComplete { kind := 1, tag := 0, body := List.replicate 1025 0, check := 0 }).wellFormed = false := by decide +kernel

theorem test_transport_key_fits :
    (Instr.transportKey 0 (List.replicate 1024 0)).wellFormed = true
    ∧ (Instr.transportKey 0 (List.replicate 1025 0)).wellFormed = false := by decide +kernel

theorem test_blob_fits :
    (Instr.keyLoad 0 0 0 0 (List.replicate 1021 0)).wellFormed = true
    ∧ (Instr.keyLoad 0 0 0 0 (List.replicate 1022 0)).wellFormed = false := by decide +kernel

/-! ## Worked values of the spec -/

/-- R10: over the nine bytes 0x31 to 0x39 the computation gives 0xCBF43926. -/
theorem test_crc32_check_value : crc32 [0x31, 0x32, 0x33, 0x34, 0x35, 0x36, 0x37, 0x38, 0x39] = 0xCBF43926 := by decide +kernel

/-- R162: over the nine bytes 0x31 to 0x39 the check is 0x29B1. -/
theorem test_crc16_check_value : crc16 [0x31, 0x32, 0x33, 0x34, 0x35, 0x36, 0x37, 0x38, 0x39] = 0x29B1 := by decide +kernel

/-- R12: a frame of 1518 bytes occupies 12 cells, one of 64 bytes 1, one of 129 bytes 2. -/
theorem test_cells : cellsOf (List.replicate 1518 0) = 12 ∧ cellsOf (List.replicate 64 0) = 1
    ∧ cellsOf (List.replicate 129 0) = 2 := by decide +kernel

/-! ## States to test on -/

/-- The part RUNNING, with everything else as reset leaves it. -/
def running : State := { State.reset with partState := .running }

/-- A port in PROTECT with its link UP. -/
def protect (x : Port) : Port := { x with mode := .protect, link := .up }

/-- RUNNING, with port 3 in PROTECT and its link UP. -/
def open3 : State := running.updPort 3 protect

/-- The next state of a command, if it gives one. -/
def after (c : Instr) (s : State) : Option State :=
  match exec c s with
  | .next t => some t
  | _ => none

/-- What is read of the state after a command. -/
def see {α : Type} (c : Instr) (s : State) (f : State → α) : Option α := (after c s).map f

/-- A frame to 02:02:02:02:02:02 with a type and `n` bytes of data, and a good frame check sequence. -/
def frameOf (type : Bytes) (n : Nat) : Bytes := withFcs (List.replicate 12 2 ++ type ++ List.replicate n 0x11)

/-- An untagged frame of 64 bytes, with a good frame check sequence. -/
def frame64 : Bytes := frameOf [0x08, 0x00] 46

/-- 64 bytes that are not judged as a frame again. -/
def raw64 : Bytes := List.replicate 64 0x11

/-- A slot that holds a key of association 5. -/
def heldSlot : Slot := { Slot.empty with owner := some 5, key := List.replicate 16 7, expandedKey := [1] }

/-- A DATA entry of association 5 under slot 40. -/
def entry5 (status : EntryStatus) : Entry :=
  { body := .data 5 40 1 .confidential .keepClear 0, frame := [0x11], status := status, corrupted := false,
    inhibitDiscard := false }

/-- Association 5 RUNNING on port 3 under slot 40 (epoch 9), with slot 41 READY as its next slot (epoch 10), one entry in the
sequence, a switch held pending, and INHIBIT_N asserted. -/
def live : State :=
  let s1 := (open3.updSlot 40 fun _ => { heldSlot with state := .active, epoch := 9, inFlight := 1 }).updSlot 41 fun _ =>
    { heldSlot with state := .ready, epoch := 10 }
  let s2 := s1.updAssoc 5 fun x => { x with
    state := .running, port := 3, current := some 40, next := some 41, firstEpoch := 9, currentEpoch := 9, nextPn := 2,
    switchMark := 100, stopMark := 200, switchPending := true, pendingKind := some .mark }
  { s2.updPort 3 fun x => { x with sequence := [entry5 .waitingLane] } with inhibit := .asserted }

/-- `live` with inhibit released. -/
def free : State := { live with inhibit := .released }

/-- `free` with association 5 changed. -/
def free5 (f : Assoc → Assoc) : State := free.updAssoc 5 f

/-- `free` with port 3 changed. -/
def freePort (f : Port → Port) : State := free.updPort 3 f

/-- Attempt 1 at step 3. -/
def attempt1 (status : NoticeStatus) : Attempt := { number := 1, step := 3, pulses := 1, status := status }

/-! ## The invariants hold of `live` -/

theorem live_assocsOk : AssocsOk live := by unfold AssocsOk Assoc.Ok; decide +kernel
theorem live_slotsBound : SlotsBound live := by unfold SlotsBound Bound; decide +kernel
theorem live_controlQueuesOk : ControlQueuesOk live := by unfold ControlQueuesOk; decide +kernel
theorem live_coherent : Coherent live := ⟨live_assocsOk, live_slotsBound, live_controlQueuesOk⟩
theorem live_slotsOk : SlotsOk live := by unfold SlotsOk Slot.Ok; decide +kernel
theorem live_inFlightOk : InFlightOk live := by unfold InFlightOk; decide +kernel
theorem live_portsOk : PortsOk live := by unfold PortsOk Port.Ok; decide +kernel
theorem live_heldOff : HeldOff live := by unfold HeldOff; decide +kernel

theorem live_lanesOk : LanesOk live := by
  refine ⟨fun l p => ?_, by decide +kernel, fun h => absurd h (by decide +kernel)⟩
  have hl : ∀ m, live.lane m = .idle := by decide +kernel
  have he : ∀ q, ∀ e ∈ (live.port q).sequence, e.status.isInLane = false := by decide +kernel
  constructor
  · rintro ⟨_, _, h⟩
    rw [hl] at h
    cases h
  · rintro ⟨e, h, hs⟩
    have := he p e h
    rw [hs] at this
    cases this

theorem live_numbersOk : NumbersOk live := by
  have h3 : (live.port 3).sequence = [entry5 .waitingLane] := by decide +kernel
  have h : ∀ p, (live.port p).sequence = if p = 3 then [entry5 .waitingLane] else [] := by decide +kernel
  have hc : ∀ a, a ≠ 5 → (live.assoc a).current = none := by decide +kernel
  have h5 : (live.assoc 5).nextPn = 2 ∧ (live.assoc 5).port = 3 := by decide +kernel
  refine ⟨fun p => ?_, fun p e he n hn => ?_, fun p e he a k n ha hk hn => ?_⟩ <;> rw [h p] at *
  · split <;> simp
  · split at he
    · obtain rfl := List.mem_singleton.mp he
      obtain rfl : 1 = n := by simpa [entry5, Entry.pn?] using hn
      decide
    · cases he
  · split at he
    · rename_i hp
      obtain rfl := List.mem_singleton.mp he
      obtain rfl : 1 = n := by simpa [entry5, Entry.pn?] using hn
      by_cases h' : a = 5
      · subst h'
        rw [h5.1, h5.2, hp]
        decide
      · rw [hc a h'] at ha
        cases ha
    · cases he

/-- What Coherent looks at. -/
theorem coherent_congr {s t : State} (h : Coherent s) (ha : t.assocs = s.assocs)
    (hs : ∀ k, (t.slot k).state = (s.slot k).state ∧ (t.slot k).owner = (s.slot k).owner)
    (hq : ∀ p, (t.port p).controlQueue = (s.port p).controlQueue) : Coherent t := by
  have ha' : ∀ a, t.assoc a = s.assoc a := fun a => by rw [State.assoc, ha, State.assoc]
  obtain ⟨h1, h2, h3⟩ := h
  refine ⟨fun a => (ha' a).symm ▸ h1 a, fun a => ?_, fun p => ?_⟩
  · have hb := h2 a
    have hn : t.nextReady a = s.nextReady a := by
      unfold State.nextReady
      rw [ha' a]
      cases (s.assoc a).next <;> simp [(hs _).1]
    simpa [Bound, ha' a, hs, hn] using hb
  · simpa [hq, ha'] using h3 p

theorem free_coherent : Coherent free := coherent_congr live_coherent rfl (fun _ => ⟨rfl, rfl⟩) fun _ => rfl

/-- `free` with no entry in a sequence, so that a cut-over or a clear ends slot 40 at once. -/
def freeDone : State := (freePort fun x => { x with sequence := [] }).updSlot 40 fun x => { x with inFlight := 0 }

theorem freeDone_coherent : Coherent freeDone :=
  ⟨by unfold AssocsOk Assoc.Ok; decide +kernel, by unfold SlotsBound Bound; decide +kernel,
    by unfold ControlQueuesOk; decide +kernel⟩

/-- `free` with association 5 in an exchange whose notice is issued, and a switch that an EXPIRY trigger left pending. -/
def exchanging : State :=
  free5 fun x => { x with state := .switching, attempt := some (attempt1 .issued), pendingKind := some .expiry }

theorem exchanging_coherent : Coherent exchanging :=
  ⟨by unfold AssocsOk Assoc.Ok; decide +kernel, by unfold SlotsBound Bound; decide +kernel,
    by unfold ControlQueuesOk; decide +kernel⟩

/-! ## One step of each command -/

/-- The pins of a part left alone at power-on. -/
def quietPins : PowerOnPins :=
  { rate := 0, clear := false, inhibitLow := false, campusLink := Vector.replicate 4 false,
    rackLink := Vector.replicate 4 true }

/-- R183: power-on from any state gives the reset state. -/
theorem test_powerOn_resets : after (.powerOn quietPins) live = some State.reset := by decide +kernel

/-- R187: INHIBIT_N low as power-on ends shows as INHIBIT_ON; R14: a good link is SETTLING with settle remaining 10. -/
theorem test_powerOn_takes_the_pins :
    see (.powerOn { quietPins with inhibitLow := true, campusLink := Vector.replicate 4 true }) live (fun t =>
      (t.inhibit, t.events.map Event.kind, (t.port 2).link, (t.port 2).settleRemaining))
    = some (.asserted, [.inhibitOn], .settling, 10) := by decide +kernel

/-- R183: the reply being sent is cut off. -/
theorem test_pinResetAssert_cuts_the_reply :
    see .pinResetAssert { running with replyOwed := some { kind := 0x81, tag := 7, body := [0] } } (fun t =>
      (t.replyOwed, t.alertHigh, t.pins.resetLow)) = some (none, true, true) := by decide +kernel

/-- R183: the straps are latched as the reset ends, and the part is TESTING. -/
theorem test_pinResetRelease_latches_the_straps :
    see (.pinResetRelease 2 true) { live with pins := { live.pins with resetLow := true } } (fun t =>
      (t.straps, t.partState, t.pins.resetLow)) = some ({ rate := 2, clear := true }, .testing, false) := by decide +kernel

/-- R184, R176: lane 2 failed: OUT_OF_SERVICE, detail 0x0200, RUNNING with five lanes. -/
theorem test_selftest_with_a_failed_lane :
    see (.selftestComplete { lanes := #v[false, false, true, false, false, false], keyStore := false,
                             buffers := Vector.replicate 4 false }) { State.reset with fineCount := 32 } (fun t =>
      (t.partState, t.lane 2, t.events.map Event.detail)) = some (.running, .outOfService, [0x0200]) := by decide +kernel

/-- R184: the key store failed: HALTED. -/
theorem test_selftest_with_a_failed_key_store :
    see (.selftestComplete { lanes := Vector.replicate 6 false, keyStore := true, buffers := Vector.replicate 4 false })
      { State.reset with fineCount := 32 } (fun t => (t.partState, t.events.map Event.detail))
    = some (.halted, [0x0001]) := by decide +kernel

/-- R184: the self-test ends at the 32nd pulse, neither before nor after; a due one ends before time goes on (assumption 9). -/
theorem test_selftest_ends_at_its_pulse :
    (∀ n ∈ [31, 33],
      see (.selftestComplete ⟨Vector.replicate 6 false, false, Vector.replicate 4 false⟩) { State.reset with fineCount := n }
        (fun t => t.partState) = none)
    ∧ (endDueSelfTest { State.reset with fineCount := 32 }).openSelfTests = 1
    ∧ endDueSelfTest { State.reset with fineCount := 31 } = { State.reset with fineCount := 31 } := by
  decide +kernel

/-- R187: the assertion abandons an exchange, detail INHIBIT 1. -/
theorem test_inhibitAssert_abandons :
    see .inhibitAssert (free5 fun x => { x with state := .switching, attempt := some (attempt1 .issued) }) (fun t =>
      ((t.assoc 5).state, (t.assoc 5).attempt, t.events.map fun e => (e.kind, e.detail)))
    = some (.running, none, [(.inhibitOn, 0), (.switchAborted, 1)]) := by decide +kernel

/-- R188, R132, R136: the pending switch begins, attempt 1 at step 3 with 8 fine pulses, QUEUED. -/
theorem test_inhibitRelease_begins_the_switch :
    see .inhibitRelease live (fun t => ((t.assoc 5).state, (t.assoc 5).attempt, (t.port 3).controlQueue))
    = some (.switching, some { number := 1, step := 3, pulses := 8, status := .queued }, [5]) := by decide +kernel

/-- R80: the scrub pointer passes from 127 to 0. -/
theorem test_finePulse_wraps_the_scrub_pointer :
    see (.finePulse none) { running with scrubPointer := 127 } (fun t => (t.scrubPointer, t.fineCount, t.clockCount))
    = some (0, 1, 0) := by decide +kernel

/-- R124, R127: at the coarse pulse a COARSE lifetime counts, and one at 1 expires: KEY_WANTED, detail EXPIRY 1. -/
theorem test_coarsePulse_expires_a_lifetime :
    see (.coarsePulse none) { running.updAssoc 5 (fun x => { x with
        state := .suspended, lifetimeReload := 9, lifetimeScale := .coarse, lifetimeRemaining := 1 })
      with fineCount := 1023, scrubPointer := 0 } (fun t =>
      ((t.assoc 5).lifetimeRemaining, (t.assoc 5).switchPending, t.events.map fun e => (e.kind, e.detail)))
    = some (0, true, [(.keyWanted, 1)]) := by decide +kernel

/-- R130: under MANUAL an expiry sets switch due, detail EXPIRY 1. -/
theorem test_lifetimeExpiry_under_manual :
    see (.lifetimeExpiry 5) (free5 fun x => { x with lifetimeReload := 9, lifetimeRemaining := 1, triggerPolicy := .manual })
      (fun t => ((t.assoc 5).switchDue, t.events.map fun e => (e.kind, e.detail))) = some (true, [(.switchDue, 1)]) := by
  decide +kernel

/-- R14: settle remaining takes the port's settle value, 10 after reset. -/
theorem test_linkGood_settles :
    see (.linkGood 1) running (fun t => ((t.port 1).link, (t.port 1).settleRemaining)) = some (.settling, 10) := by decide +kernel

/-- R14: the link is UP, and LINK_UP is raised. -/
theorem test_linkSettled_raises_linkUp :
    see (.linkSettled 1) (running.updPort 1 fun x => { x with link := .settling, settleRemaining := 1 }) (fun t =>
      ((t.port 1).link, t.events.map fun e => (e.kind, e.source))) = some (.up, [(.linkUp, .port 1)]) := by decide +kernel

/-- R15: a frame cut off counts as a link-down flush. -/
theorem test_linkLost_cuts_off_the_frame :
    see (.linkLost 3) (freePort fun x => { x with campusTx := some (.pass []) }) (fun t =>
      ((t.port 3).campusTx, row (t.port 3).counters PortCounter.linkDownFlush.index, t.events.map Event.kind))
    = some (none, 1, [.linkDown]) := by decide +kernel

/-- R115: a cut-off pause frame is owed again, a cut-off return frame is lost. -/
theorem test_rackLinkLost_owes_the_pause_again :
    see (.rackLinkLost 3) (freePort fun x => { x with rackTx := some (.pause []) }) (fun t =>
      ((t.port 3).rackTx, (t.port 3).pauseOwed)) = some (none, true)
    ∧ see (.rackLinkLost 3) (freePort fun x => { x with rackTx := some (.returned []) }) (fun t =>
      ((t.port 3).rackTx, (t.port 3).pauseOwed)) = some (none, false) := by decide +kernel

theorem test_rackLinkGood_changes_the_report :
    see (.rackLinkGood 3) { running with pins := { running.pins with rackLink := Vector.replicate 4 false } } (fun t =>
      row t.pins.rackLink 3) = some true := by decide +kernel

/-- A frame with its frame check sequence appended passes it (R10). -/
theorem fcsGood_withFcs (bs : Bytes) : fcsGood (withFcs bs) = true := by
  have h : (fcsBytes bs).length = 4 := rfl
  have h4 : (withFcs bs).length - 4 = bs.length := by simp [withFcs, h]
  simp [fcsGood, withoutFcs, h4]
  simp [withFcs, h]

/-- A frame that passes every check of R9 is counted and steered. -/
theorem accepted_is_steered (f : Bytes) (hf : fcsGood f = true) (hl : f.length = 64) (hc : isMacControl f = false) :
    exec (.rsideFrameReceived 3 f) open3 = .next (steerFrame 3 f (countedIn 3 f open3)) := by
  have h1 : open3.pins.resetLow = false ∧ row open3.pins.rackLink 3 = true ∧ (open3.port 3).mode = .protect
    ∧ (open3.port 3).settings.frameCeiling = 1518 ∧ open3.inhibited = false := by decide +kernel
  simp [exec, execRsideFrameReceived, unlessHeld, receiveRack, acceptanceDrop, h1, hf, hl, hc, countedIn]

theorem test_rside_accepts :
    exec (.rsideFrameReceived 3 frame64) open3 = .next (steerFrame 3 frame64 (countedIn 3 frame64 open3)) :=
  accepted_is_steered frame64 (fcsGood_withFcs _) (by decide +kernel) (by decide +kernel)

/-- R9, R30: without entries and with default action DROP, a good frame of 64 bytes is a no-match drop. -/
theorem test_rside_no_match :
    [PortCounter.framesIn, .octetsIn, .noMatchDrops, .fcsDrops].map (fun c =>
      row ((steerFrame 3 frame64 (countedIn 3 frame64 open3)).port 3).counters c.index) = [1, 64, 1, 0] := by
  decide +kernel

/-- R9 check 2 before check 4: a frame of 63 bytes is a runt, its frame check sequence unjudged. -/
theorem test_rside_runt :
    see (.rsideFrameReceived 3 (List.replicate 63 0)) open3 (fun t =>
      ([PortCounter.framesIn, .runtDrops, .fcsDrops].map fun c => row (t.port 3).counters c.index)) = some [1, 1, 0] := by
  decide +kernel

/-- R120: a frame joins the return FIFO. -/
theorem test_cside_return :
    (enqueueReturn 3 raw64 open3).port 3 |>.returnFifo.map List.length |> (· = [64]) := by decide +kernel

/-- R117: a priority pause (opcode 0x0101, vector 0x0002) names the time of priority 1 alone. -/
theorem test_cside_pause :
    (pauseTimes (List.replicate 12 2 ++ [0x88, 0x08, 0x01, 0x01, 0x00, 0x02] ++ List.replicate 46 0x11) (Vector.replicate 8 0)).map Vector.toList
    = some [0, 0x1111, 0, 0, 0, 0, 0, 0] := by decide +kernel

/-- R119: a frame of 3 bytes is a return FCS drop. -/
theorem test_cside_short :
    see (.csideFrameReceived 3 [0, 0, 0]) open3 (fun t => row (t.port 3).counters PortCounter.returnFcsDrops.index)
    = some 1 := by decide +kernel

/-- R82: the entry of a FAULTED slot is removed at its completion. -/
theorem test_transformComplete_condemned :
    see (.transformComplete 0) (((freePort fun x => { x with sequence := [entry5 (.inLane 0)] }).updSlot 40 fun x =>
        { x with state := .faulted, owner := none }).setLane 0
          (.busy (.transform 3 { expandedKey := [1], salt := 0, epoch := 9 } 0x89C4))) (fun t =>
      ((t.port 3).sequence.length, row (t.port 3).counters PortCounter.assocStateDrops.index, (t.slot 40).inFlight, t.lane 0))
    = some (0, 1, 0, .idle) := by decide +kernel

/-- R73: a result whose load no longer stands is discarded. -/
theorem test_expandComplete_discarded :
    see (.expandComplete 0) (free.setLane 0 (.busy (.expand 9 [] false))) (fun t => ((t.slot 9).state, t.events))
    = some (.empty, []) := by decide +kernel

/-- R73: the slot is READY, and KEY_READY is raised. -/
theorem test_expandComplete_ready :
    see (.expandComplete 0) ((free.updSlot 9 fun _ => { heldSlot with state := .loaded }).setLane 0 (.busy (.expand 9 [7] true)))
      (fun t => ((t.slot 9).state, t.events.map fun e => (e.kind, e.source))) = some (.ready, [(.keyReady, .slot 9)]) := by
  decide +kernel

/-- R149 step 1: a withdrawn verification is stale. -/
theorem test_verifyComplete_withdrawn :
    see (.verifyComplete 0) ((freePort fun x => { x with inbox := [{ place := 2, frame := [] }] }).setLane 0
        (.busy (.verify { port := 3, place := 2, frame := [], anum := 5, role := .next, slot := 41 }
          { expandedKey := [1], salt := 0, epoch := 9 } true))) (fun t =>
      ((t.port 3).inbox, row (t.port 3).counters PortCounter.staleReplies.index)) = some ([], 1) := by decide +kernel

/-- R144: attempt 2 at step 4 with 16 fine pulses, QUEUED. -/
theorem test_attemptTimeout_begins_the_next :
    see (.attemptTimeout 5) (free5 fun x => { x with state := .switching, attempt := some (attempt1 .issued) }) (fun t =>
      ((t.assoc 5).attempt, (t.port 3).controlQueue))
    = some (some { number := 2, step := 4, pulses := 16, status := .queued }, [5]) := by decide +kernel

/-- R144, R155: at the last step the exchange gives up with TIMEOUT 0. -/
theorem test_attemptTimeout_gives_up :
    see (.attemptTimeout 5) (free5 fun x => { x with
        state := .switching, attempt := some { number := 5, step := 7, pulses := 1, status := .issued } }) (fun t =>
      ((t.assoc 5).attempt, (t.assoc 5).state, t.events.map fun e => (e.kind, e.detail)))
    = some (none, .running, [(.switchFailed, 0)]) := by decide +kernel

/-- A record of association 5 in class queue 0. -/
def record5 : FrameRecord := { frame := raw64, cells := 1, cls := 0, outcome := .protect 5 }

/-- `free` with one frame of association 5 queued and the sequence empty, the association changed. -/
def queued5 (f : Assoc → Assoc) : State :=
  (freePort fun x => { x with sequence := [], queues := #v[[record5], [], [], []] }).updAssoc 5 f

/-- R53: the frame takes next_pn 2, and goes to lane 0. -/
theorem test_dequeue_numbers :
    see (.dequeueDecision 3) (queued5 id) (fun t => ((t.port 3).sequence.map fun e => (e.body, e.status)))
    = some [(.data 5 40 2 .confidential .keepClear 0, .inLane 0)] := by decide +kernel

/-- Section 3.10: the frame that takes the stop mark 1004 exhausts; switch pending was set, so no KEY_WANTED. -/
theorem test_dequeue_exhausts :
    see (.dequeueDecision 3) (queued5 fun x => { x with
        nextPn := 1004, switchMark := 1000, stopMark := 1004, next := none }) (fun t =>
      ((t.assoc 5).state, (t.assoc 5).nextPn, t.events.map Event.kind)) = some (.exhausted, 1005, [.exhausted]) := by
  decide +kernel

/-- `free` with association 5 in an exchange whose notice waits. -/
def noticed5 (f : Assoc → Assoc) : State :=
  ((freePort fun x => { x with sequence := [], controlQueue := [5] }).updAssoc 5 fun x =>
    { x with state := .switching, attempt := some (attempt1 .queued) }).updAssoc 5 f

/-- R141, R143: the notice takes 2, and the attempt is ISSUED with 8 fine pulses. -/
theorem test_notice_placed :
    see (.noticePlacement 3) (noticed5 id) (fun t =>
      ((t.port 3).sequence.map Entry.body, (t.assoc 5).nextPn, (t.assoc 5).attempt))
    = some ([.notice 5 40 2], 3, some { number := 1, step := 3, pulses := 8, status := .issued }) := by decide +kernel

/-- R142: with every number spent, SWITCH_FAILED with PN_SPENT 1. -/
theorem test_notice_spent :
    see (.noticePlacement 3) (noticed5 fun x => { x with nextPn := 1099511627776, state := .exhausted }) (fun t =>
      ((t.port 3).sequence, (t.assoc 5).attempt, t.events.map fun e => (e.kind, e.detail)))
    = some ([], none, [(.switchFailed, 1)]) := by decide +kernel

/-- R78: the last entry of a DRAINING slot leaves: EMPTY, KEY_RETIRED. -/
theorem test_campusTxStart_ends_a_drain :
    see (.csideTxStart 3) ((freePort fun x => { x with sequence := [entry5 .done] }).updSlot 40 fun x =>
        { x with state := .draining }) (fun t => ((t.slot 40).state, t.events.map Event.kind, (t.port 3).sequence))
    = some (.empty, [.keyRetired], []) := by decide +kernel

/-- R15, R62: plaintext octets rise by L, 32 below the frame sent. -/
theorem test_campusTxComplete_counts :
    see (.csideTxComplete 3) (freePort fun x => { x with campusTx := some (.data 5 false (List.replicate 96 0)) }) (fun t =>
      ([AssocCounter.framesProtected, .plaintextOctets].map (fun c => row (t.assoc 5).counters c.index),
       [PortCounter.protectedFramesOut, .octetsOut].map fun c => row (t.port 3).counters c.index))
    = some ([1, 64], [1, 96]) := by decide +kernel

/-- R113, R114: the owed pause frame of 64 bytes goes before the return FIFO. -/
theorem test_rackTxStart_pause_first :
    see (.rsideTxStart 3) (freePort fun x => { x with pauseOwed := true, returnFifo := [raw64] }) (fun t =>
      (match (t.port 3).rackTx with | some (.pause f) => f.length | _ => 0, (t.port 3).returnFifo.length, (t.port 3).pauseOwed))
    = some (64, 1, false) := by decide +kernel

theorem test_rackTxComplete_counts :
    see (.rsideTxComplete 3) (freePort fun x => { x with rackTx := some (.returned raw64) }) (fun t =>
      ((t.port 3).rackTx, row (t.port 3).counters PortCounter.returnForwarded.index)) = some (none, 1) := by decide +kernel

/-- R112: with Q 65535 the interval is 32767; the count that reaches it owes a pause frame. -/
theorem test_quantum_refreshes :
    see .quantumTick (freePort fun x => { x with
        holding := #v[true, false, false, false], refresh := #v[32766, 0, 0, 0], campusPause := Vector.replicate 8 1 })
      (fun t => ((t.port 3).pauseOwed, row (t.port 3).refresh 0, row (t.port 3).campusPause 7)) = some (true, 32767, 0) := by
  decide +kernel

theorem test_named_quantum_ends :
    see (.pauseRefreshDue 3 0) (freePort fun x => { x with
        holding := #v[true, false, false, false], refresh := #v[32766, 0, 0, 0] }) (fun t => (t.port 3).pauseOwed) = some true
    ∧ see (.campusPauseEnd 3 7) (freePort fun x => { x with campusPause := Vector.replicate 8 1 }) (fun t =>
        (t.port 3).campusPause.toList) = some [1, 1, 1, 1, 1, 1, 1, 0]
    ∧ see (.rackPauseEnd 3 0) (freePort fun x => { x with rackPause := Vector.replicate 8 1 }) (fun t =>
        (t.port 3).rackPause.toList) = some [0, 1, 1, 1, 1, 1, 1, 1] := by decide +kernel

/-- R163: a length of 1027 ends the record as BAD_LENGTH, with the tag absent. -/
theorem test_byte_bad_length :
    see (.mgmtByteReceived 0x04 true) { running with receiver := .record [0x03] 2 } (fun t =>
      (t.receiver, t.faultList.map fun e => (e.kind, e.tag))) = some (.hunt, [(.badLength, none)]) := by decide +kernel

/-- R164: the end of the gap is a FRAMING fault, with the tag that had come. -/
theorem test_gap_expiry :
    see .gapExpiry { running with receiver := .record [4, 0, 0x81, 0x22] 1 } (fun t =>
      (t.receiver, t.faultList.map fun e => (e.kind, e.tag))) = some (.hunt, [(.framing, some 0x22)]) := by decide +kernel

/-- R165: a bad check is answered BAD_CHECK 0x01 with kind + 0x80. -/
theorem test_record_bad_check :
    see (.recordComplete { kind := 0x01, tag := 9, body := [], check := 0 }) running (fun t => t.replyOwed)
    = some (some { kind := 0x81, tag := 9, body := [0x01] }) := by decide +kernel

/-- R166: the end of the reply with a BUSY waiting begins the BUSY reply. -/
theorem test_replySent_begins_busy :
    see .replySent { running with replyOwed := some { kind := 0x81, tag := 1, body := [0] }
                                  busyOwed := some { kind := 0x19, tag := 2 } } (fun t => t.sending)
    = some (some { kind := 0x99, tag := 2, body := [0x11] }) := by decide +kernel

/-- The reply body to a request. -/
def answer (c : Instr) (s : State) : Option Bytes := (after c s).bind fun t => t.replyOwed.map Reply.body

/-- R186: family 0x46, part 0x0440 little-endian, revision 1, straps, RUNNING 1, all six lanes 0x3F. -/
theorem test_identify : answer (.identify 0) running = some [0, 0x46, 0x40, 0x04, 0x01, 0, 0, 1, 0x3F] := by decide +kernel

theorem test_reset_answers_ok : answer (.reset 0) running = some [0] := by decide +kernel

/-- A PORT_SET body with the values after reset, on a port. -/
def portBody (port : Byte) (ceiling : BitVec 16) : PortSetBody :=
  { port := port, portAddress := 0x020000000001, peerAddress := 0x020000000002, frameCeiling := ceiling, clpType := 0x89C4,
    classes := #v[0, 0, 1, 1, 2, 2, 3, 3], untaggedClass := 0, action := 2, actionAnum := 0xFF, settle := 10,
    linkDownPolicy := 0, inhibitAction := 0 }

/-- R2: a ceiling of 20000 is clamped to 9216 = 0x2400, and reported; a port in PROTECT is PORT_ACTIVE 0x06. -/
theorem test_portSet : answer (.portSet 0 (portBody 3 20000)) running = some [0, 0x00, 0x24]
    ∧ answer (.portSet 0 (portBody 3 1518)) open3 = some [0x06] := by decide +kernel

/-- R5: a port with a buffer fault is FAULTED 0x07; else it enters PROTECT. -/
theorem test_portMode : answer (.portMode 0 1 1) running = some [0, 1]
    ∧ answer (.portMode 0 1 1) { running with hwFaults := { running.hwFaults with buffers := #v[false, true, false, false] } }
      = some [0x07] := by decide +kernel

/-- R3: 30 setting bytes, then mode, link and buffer fault. -/
theorem test_portGet : (answer (.portGet 0 3) open3).map (fun r => (r.length, r.drop 31)) = some (34, [1, 2, 0]) := by decide +kernel

/-- A PORT_FLOW body on port 0 with one ceiling and thresholds for every class. -/
def flowBody (ceiling : BitVec 16) : PortFlowBody :=
  { port := 0, pauseEnable := 0, ceiling := Vector.replicate 4 ceiling, upper := Vector.replicate 4 2,
    lower := Vector.replicate 4 1, quanta := 0 }

/-- R107: ceilings of 512 sum to 2048 and pass, 513 do not; a Q of 0 becomes 1. -/
theorem test_portFlow : (answer (.portFlow 0 (flowBody 512)) running).map (fun r => r.drop 26) = some [1, 0]
    ∧ answer (.portFlow 0 (flowBody 513)) running = some [0x04] := by decide +kernel

/-- R138: 9 becomes 7; 5 before 4 is refused. -/
theorem test_portSwitch : answer (.portSwitch 0 0 2 9) running = some [0, 2, 7]
    ∧ answer (.portSwitch 0 0 5 4) running = some [0x04] := by decide +kernel

/-- A STEER_SET body: PROTECT under an association, on every port, for every frame. -/
def steerBody (index anum : Byte) : SteerSetBody :=
  { index := index, ports := 0x0F, tagging := 2, vlanValue := 0, vlanMask := 0, prioValue := 0, prioMask := 0,
    addressValue := 0, addressMask := 0, typeValue := 0, typeMask := 0, action := 0, actionAnum := anum, classOverride := 3 }

/-- R34, check 3: VLAN ID value and mask up to 0xFFF and priority value and mask up to 7, each bounded whatever the other is. -/
theorem test_steerSet_bounds_every_pair :
    answer (.steerSet 0 { steerBody 127 63 with vlanValue := 4095, prioValue := 7, prioMask := 7 }) running = some [0]
    ∧ ∀ b ∈ [{ steerBody 127 63 with vlanValue := 4096 }, { steerBody 127 63 with vlanMask := 4096 },
        { steerBody 127 63 with prioValue := 8 }, { steerBody 127 63 with prioMask := 8 }],
      answer (.steerSet 0 b) running = some [0x04] := by decide +kernel

/-- R34: ANUM 64 is BAD_VALUE; a locked entry LOCKED 0x0D. -/
theorem test_steerSet : answer (.steerSet 0 (steerBody 127 63)) running = some [0]
    ∧ answer (.steerSet 0 (steerBody 127 64)) running = some [0x04]
    ∧ answer (.steerSet 0 (steerBody 127 63)) (running.updEntry 127 fun e => { e with locked := true }) = some [0x0D] := by
  decide +kernel

/-- R35, R171: an entry as reset leaves it, tagging ANY 2, action DROP 2, ANUM and override absent. -/
theorem test_steerGet : answer (.steerGet 0 127) running
    = some ([0, 0, 0, 0, 2] ++ List.replicate 22 0 ++ [2, 0xFF, 0xFF] ++ List.replicate 6 0) := by decide +kernel

/-- R36, R37: an invalid entry is not locked (STATE 0x05); a locked one is not cleared. -/
theorem test_steerLock_and_clear : answer (.steerLock 0 1) running = some [0x05] ∧ answer (.steerClear 0 1) running = some [0]
    ∧ answer (.steerClear 0 1) (running.updEntry 1 fun e => { e with locked := true }) = some [0x0D] := by decide +kernel

/-- The ASSOC_SET body of section 3.10, for association 7. -/
def body7 : AssocSetBody :=
  { anum := 7, port := 0, protection := 0, vlan := 0, label := 0x5A5A0001, firstEpoch := 40, switchMark := 1000,
    stopMark := 1004, triggerPolicy := 0, confirmPolicy := 0, lifetimeReload := 0, lifetimeScale := 0 }

/-- Section 3.10: CONFIGURED, epoch 40, next_pn 1; marks that are equal are BAD_VALUE. -/
theorem test_assocSet :
    see (.assocSet 0 body7) running (fun t => ((t.assoc 7).state, (t.assoc 7).currentEpoch, (t.assoc 7).nextPn))
      = some (.configured, 40, 1)
    ∧ answer (.assocSet 0 { body7 with switchMark := 1004 }) running = some [0x04] := by decide +kernel

/-- R46: the reply carries the epoch; without a READY next slot NO_KEY 0x0E. -/
theorem test_assocStart : answer (.assocStart 0 5) (free5 fun x => { x with state := .configured, current := none })
      = some [0, 10]
    ∧ answer (.assocStart 0 5) (free5 fun x => { x with state := .configured, current := none, next := none }) = some [0x0E] := by
  decide +kernel

/-- R47, R48: SUSPENDED and back; the pending switch then begins. -/
theorem test_assocSuspend_and_resume :
    see (.assocSuspend 0 5) free (fun t => (t.assoc 5).state) = some .suspended
    ∧ see (.assocResume 0 5) (free5 fun x => { x with state := .suspended }) (fun t =>
        ((t.assoc 5).state, (t.port 3).controlQueue)) = some (.switching, [5]) := by decide +kernel

/-- R49, R77: the current slot drains with its entry, the next slot is EMPTY, the record IDLE. -/
theorem test_assocClear :
    see (.assocClear 0 5) free (fun t => ((t.assoc 5).state, (t.slot 40).state, (t.slot 41).state, t.events))
    = some (.idle, .draining, .empty, []) := by decide +kernel

/-- R50: 55 bytes after the status; next_pn 2^40 is five zero bytes and the spent indication. -/
theorem test_assocGet : (answer (.assocGet 0 5) (free5 fun x => { x with nextPn := 1099511627776 })).map (fun r =>
    (r.length, slice r 13 6)) = some (56, [0, 0, 0, 0, 0, 1]) := by decide +kernel

/-- R100: ONE on a record with corrupt-all set. -/
theorem test_testCorrupt : answer (.testCorrupt 0 5 0) (free5 fun x => { x with corruptAll := true }) = some [0, 1, 1]
    ∧ answer (.testCorrupt 0 5 3) free = some [0x04] := by decide +kernel

/-- R159: under UNILATERAL the cut-over to epoch 10 has been made; the old slot drains. -/
theorem test_switchNow : answer (.switchNow 0 5) free = some [0, 0, 1, 3]
    ∧ see (.switchNow 0 5) (free5 fun x => { x with confirmPolicy := .unilateral }) (fun t =>
        (t.replyOwed.map Reply.body, (t.assoc 5).nextPn, (t.slot 40).state, (t.slot 41).state, t.events.map Event.detail))
      = some (some [0, 1, 10, 0], 1, .draining, .active, [10]) := by decide +kernel

/-- R68: a key of 17 bytes is BAD_LENGTH 0x02, a second key LOCKED 0x0D. -/
theorem test_transportKey : answer (.transportKey 0 (List.replicate 17 0)) running = some [0x02]
    ∧ answer (.transportKey 0 (List.replicate 16 0)) { running with transportKey := some [] } = some [0x0D] := by decide +kernel

/-- R69: without a transport key 0x0C; with a next slot held NEXT_PRESENT 0x09; a wrong epoch EPOCH_ORDER 0x0A. -/
theorem test_keyLoad : answer (.keyLoad 0 9 5 10 []) running = some [0x0C]
    ∧ answer (.keyLoad 0 9 5 10 []) { free with transportKey := some [] } = some [0x09]
    ∧ answer (.keyLoad 0 9 5 9 []) { free5 (fun x => { x with next := none }) with transportKey := some [] } = some [0x0A] := by
  decide +kernel

/-- R74: a READY slot is erased, but not during an exchange; an ACTIVE one is IN_USE 0x0F. -/
theorem test_keyErase : see (.keyErase 0 41) free (fun t => ((t.slot 41).state, (t.assoc 5).next)) = some (.empty, none)
    ∧ answer (.keyErase 0 41) (free5 fun x => { x with attempt := some (attempt1 .queued) }) = some [0x0F]
    ∧ answer (.keyErase 0 40) free = some [0x0F] := by decide +kernel

/-- R75: ACTIVE 3, owner 5, epoch 9, 128 bits, check value, in-flight 1, NONE, no transport key. -/
theorem test_slotGet : answer (.slotGet 0 40) free = some [0, 3, 5, 9, 0, 0, 0, 0, 1, 0, 0] := by decide +kernel

/-- R177: the oldest entry is fetched and leaves. -/
theorem test_eventsFetch :
    answer (.eventsFetch 0 1 0 0) { running with
      events := [{ kind := .keyReady, source := .slot 9, count := 2, detail := 0 },
                 { kind := .linkUp, source := .port 1, count := 1, detail := 0 }], eventsLost := true }
    = some [0, 1, 1, 0xFF, 0xFF, 0x1F, 0, 1, 14, 2, 9, 2, 0, 0] := by decide +kernel

/-- R178: taken in HALTED; one entry, then the hardware fault record. -/
theorem test_faultsRead :
    answer (.faultsRead 0) { running with partState := .halted, hwFaults := { HwFaults.cleared with keyStore := true },
                                          faultList := [{ kind := .overrun, tag := some 3, requestCount := 258 }] }
    = some [0, 1, 4, 1, 3, 2, 1, 0, 1, 0, 0] := by decide +kernel

/-- R181: from entry 126 two counters remain; with clearing they become 0. -/
theorem test_countersRead :
    see (.countersRead 0 2 126 5 1) (running.updEntry 127 fun e => { e with hits := 7 }) (fun t =>
      (t.replyOwed.map Reply.body, (t.entry 127).hits))
    = some (some [0, 2, 126, 2, 1, 0, 0, 0, 0, 0, 0, 7, 0, 0, 0, 0, 0], 0) := by decide +kernel

/-! ## Witnesses: states and operands that meet the hypotheses of each obligation, clause by clause -/

theorem running_takes : TakesRequests running := ⟨rfl, rfl, rfl, rfl⟩
theorem free_takes : TakesRequests free := ⟨rfl, rfl, rfl, rfl⟩

/-- RESET_N low. -/
def inReset : State := { running with pins := { running.pins with resetLow := true } }

/-- TESTING, at the 32nd fine pulse. -/
def dueTest : State := { State.reset with fineCount := 32 }

theorem witness_StepRunsFrontCommand :
    ({ running with pending := [.quantumTick, .inhibitAssert] } : State).pending = .quantumTick :: [.inhibitAssert] := rfl

theorem witness_IdleStepIsOneClock :
    (inReset.pending = [] ∧ inReset.pins.resetLow = true)
    ∧ (let s := { running with clockCount := 131070 }
       s.pending = [] ∧ s.pins.resetLow = false ∧ ¬(s.partState = .testing ∧ s.fineCount = 32) ∧ s.clockCount < 131071)
    ∧ (let s := { running with clockCount := 131071 }
       s.pending = [] ∧ s.pins.resetLow = false ∧ ¬(s.partState = .testing ∧ s.fineCount = 32) ∧ 131071 ≤ s.clockCount)
    ∧ (dueTest.pending = [] ∧ dueTest.pins.resetLow = false ∧ dueTest.partState = .testing ∧ dueTest.fineCount = 32) := by
  decide +kernel

theorem witness_PowerOnAndPinReset : inReset.pins.resetLow = true := rfl

theorem witness_PinResetHoldsThePart : running.pins.resetLow = false
    ∧ (inReset.pins.resetLow = true ∧ Instr.linkGood 3 ≠ .pinResetAssert ∧ (∀ pins, Instr.linkGood 3 ≠ .powerOn pins)
      ∧ ∀ rate clear, Instr.linkGood 3 ≠ .pinResetRelease rate clear) :=
  ⟨rfl, rfl, by simp, by simp, by simp⟩

theorem witness_SelfTestEnds :
    (dueTest.pins.resetLow = false ∧ dueTest.partState = .testing ∧ dueTest.fineCount = 32 ∧ dueTest.events = []
      ∧ dueTest.eventMask = BitVec.allOnes 21)
    ∧ (∀ n ∈ [31, 33], let s := { dueTest with fineCount := n }
        s.pins.resetLow = false ∧ s.partState = .testing ∧ s.fineCount ≠ 32)
    ∧ (let s := { dueTest with partState := .running }
       s.pins.resetLow = false ∧ s.partState ≠ .testing) := by decide +kernel

theorem witness_InhibitAsserts : running.pins.resetLow = false ∧ running.inhibit = .released
    ∧ running.eventMask.getLsbD 17 = true ∧ (∀ e ∈ running.events, e.kind ≠ .inhibitOn) ∧ running.events.length < 64
    ∧ entriesAgainst running 40 = entriesAgainst running 40
    ∧ (let s := noticed5 id
       s.pins.resetLow = false ∧ s.inhibit = .released ∧ (s.assoc 5).attempt ≠ none ∧ s.eventMask = BitVec.allOnes 21
       ∧ ∀ e ∈ s.events, ¬(e.kind = .switchAborted ∧ e.source = .assoc 5))
    ∧ (let s := freePort fun x => { x with settings := { x.settings with inhibitAction := .discard } }
       s.inhibit = .released ∧ (s.port 3).mode = .protect ∧ (s.port 3).settings.inhibitAction = .discard)
    ∧ ¬((free.port 3).mode = .protect ∧ (free.port 3).settings.inhibitAction = .discard) := by decide +kernel

/-- `live` with association 5 under UNILATERAL. -/
def liveAlone : State := live.updAssoc 5 fun x => { x with confirmPolicy := .unilateral }

theorem liveAlone_coherent : Coherent liveAlone :=
  ⟨by unfold AssocsOk Assoc.Ok; decide +kernel, by unfold SlotsBound Bound; decide +kernel,
    by unfold ControlQueuesOk; decide +kernel⟩

/-- `live` with port 3 under FLUSH and its link DOWN. -/
def liveCut : State :=
  live.updPort 3 fun x => { x with link := .down, settings := { x.settings with linkDownPolicy := .flush } }

theorem liveCut_coherent : Coherent liveCut :=
  coherent_congr live_coherent rfl (fun _ => ⟨rfl, rfl⟩) fun p => by
    by_cases h : 3 = p <;> simp [liveCut, State.port_updPort, h]

theorem witness_InhibitReleases : (Coherent live ∧ live.pins.resetLow = false ∧ live.inhibit = .asserted)
    ∧ (Coherent liveAlone ∧ liveAlone.pins.resetLow = false ∧ liveAlone.inhibit = .asserted)
    ∧ (Coherent liveCut ∧ liveCut.pins.resetLow = false ∧ liveCut.inhibit = .asserted)
    ∧ (live.eventMask.getLsbD 18 = true ∧ (∀ e ∈ live.events, e.kind ≠ .inhibitOff) ∧ live.events.length < 64)
    ∧ ((live.assoc 5).triggerPolicy = .auto ∧ (live.assoc 5).switchPending = true ∧ (live.assoc 5).confirmPolicy = .confirmed
      ∧ SwitchCanStart live 5 (live.port (live.assoc 5).port).mode .released)
    ∧ ((liveAlone.assoc 5).triggerPolicy = .auto ∧ (liveAlone.assoc 5).switchPending = true
      ∧ SwitchCanStart liveAlone 5 (liveAlone.port (liveAlone.assoc 5).port).mode .released
      ∧ (liveAlone.assoc 5).confirmPolicy = .unilateral ∧ (liveAlone.assoc 5).next = some 41
      ∧ (liveAlone.assoc 5).current = some 40
      ∧ (after .inhibitRelease liveAlone).any (fun t => entriesAgainst t 40 = entriesAgainst liveAlone 40) = true
      ∧ (after .inhibitRelease liveAlone).any (fun t => entriesAgainst t 41 = entriesAgainst liveAlone 41) = true
      ∧ liveAlone.eventMask = BitVec.allOnes 21)
    ∧ ¬((live.assoc 0).triggerPolicy = .auto ∧ (live.assoc 0).switchPending = true
      ∧ SwitchCanStart live 0 (live.port (live.assoc 0).port).mode .released)
    ∧ ((liveCut.port 3).flushes .released ∧ ¬(live.port 3).flushes .released) := by
  refine ⟨⟨live_coherent, rfl, rfl⟩, ⟨liveAlone_coherent, rfl, rfl⟩, ⟨liveCut_coherent, rfl, rfl⟩, ?_⟩
  unfold SwitchCanStart Port.flushes
  decide +kernel

/-- Counts at the edges of a pulse: links of ports 1 and 2 settling, a record with 2 of gap remaining, attempts and lifetimes
of associations 5 (ISSUED, FINE) and 6 (QUEUED, COARSE). -/
def pulsing : State :=
  { (((running.updPort 1 fun x => { x with link := .settling, settleRemaining := 1 }).updPort 2 fun x =>
      { x with link := .settling, settleRemaining := 2 }).updAssoc 5 fun x => { x with
        state := .switching, attempt := some { number := 1, step := 3, pulses := 2, status := .issued },
        lifetimeReload := 9, lifetimeRemaining := 2 }).updAssoc 6 fun x => { x with
        state := .switching, attempt := some (attempt1 .queued), lifetimeReload := 9, lifetimeRemaining := 2,
        lifetimeScale := .coarse } with
    receiver := .record [] 2 }

theorem witness_FinePulseReachesItsUsers : pulsing.pins.resetLow = false
    ∧ ¬(pulsing.partState = .testing ∧ pulsing.fineCount = 32)
    ∧ ((pulsing.port 1).link = .settling ∧ (pulsing.port 1).settleRemaining ≤ 1)
    ∧ ((pulsing.port 2).link = .settling ∧ 1 < (pulsing.port 2).settleRemaining) ∧ (pulsing.port 0).link ≠ .settling
    ∧ running.receiver = .hunt ∧ pulsing.receiver = .record [] 2
    ∧ { pulsing with receiver := .record [] 1 }.receiver = .record [] 1
    ∧ ((pulsing.slot pulsing.scrubPointer).state.scrubbed = true → (pulsing.slot pulsing.scrubPointer).intact = true)
    ∧ (pulsing.assoc 5).attempt = some { number := 1, step := 3, pulses := 2, status := .issued }
    ∧ (pulsing.assoc 6).attempt = some (attempt1 .queued)
    ∧ ((pulsing.assoc 5).lifetimeScale = .fine ∧ (pulsing.assoc 5).state.inService = true
      ∧ 0 < (pulsing.assoc 5).lifetimeReload ∧ 1 < (pulsing.assoc 5).lifetimeRemaining)
    ∧ ((pulsing.assoc 6).lifetimeScale = .coarse ∧ (pulsing.assoc 6).state.inService = true
      ∧ 0 < (pulsing.assoc 6).lifetimeReload ∧ 1 < (pulsing.assoc 6).lifetimeRemaining)
    ∧ { pulsing with fineCount := 1023 }.fineCount = 1023 := by decide +kernel

/-- The scrubber looks next at a slot of association 5 that fails. -/
def failing (k : SlotNum) : State :=
  { free.updSlot k fun x => { x with integrityCode := Config.integrityCode x.key x.salt x.expandedKey + 1 } with
    scrubPointer := k }

/-- `failing` with association 5 in an exchange, and a switch that an EXPIRY trigger left pending. -/
def failingExchange (k : SlotNum) : State :=
  (failing k).updAssoc 5 fun x =>
    { x with state := .switching, attempt := some (attempt1 .issued), pendingKind := some .expiry }

theorem failing_bound (k : SlotNum) : SlotsBound (failing k) := by
  refine (coherent_congr (t := failing k) free_coherent rfl (fun j => ?_) fun _ => rfl).2.1
  by_cases h : k = j <;> simp [failing, State.slot, State.updSlot, row_updRow, h]

theorem failingExchange_bound (k : SlotNum) (hk : k ∈ [(40 : SlotNum), 41]) : SlotsBound (failingExchange k) := by
  rcases List.mem_pair.mp hk with rfl | rfl <;> (unfold SlotsBound Bound; decide +kernel)

theorem witness_ScrubFailureTakesTheSlot :
    (∀ k, SlotsBound (failing k) ∧ (failing k).pins.resetLow = false
      ∧ (failing k).partState ≠ .testing
      ∧ Config.integrityCode ((failing k).slot k).key ((failing k).slot k).salt ((failing k).slot k).expandedKey
        ≠ ((failing k).slot k).integrityCode)
    ∧ (((failing 40).slot (failing 40).scrubPointer).state.scrubbed = true
      ∧ ((failing 40).assoc 5).current = some (failing 40).scrubPointer)
    ∧ (((failing 41).slot (failing 41).scrubPointer).state.scrubbed = true
      ∧ ((failing 41).assoc 5).next = some (failing 41).scrubPointer)
    ∧ ∀ k ∈ [(40 : SlotNum), 41],
      let s := failingExchange k
      SlotsBound s ∧ s.pins.resetLow = false ∧ s.partState ≠ .testing ∧ (s.slot s.scrubPointer).state.scrubbed = true
      ∧ Config.integrityCode (s.slot s.scrubPointer).key (s.slot s.scrubPointer).salt (s.slot s.scrubPointer).expandedKey
        ≠ (s.slot s.scrubPointer).integrityCode
      ∧ s.events = [] ∧ s.eventMask = BitVec.allOnes 21 ∧ (∀ p, (s.port p).sequence.length ≤ 4)
      ∧ (s.assoc 5).attempt ≠ none ∧ (s.assoc 5).triggerPolicy = .auto ∧ (s.assoc 5).switchPending = true
      ∧ (s.assoc 5).pendingKind = some .expiry
      ∧ ((s.assoc 5).current = some s.scrubPointer ∨ (s.assoc 5).next = some s.scrubPointer) := by
  refine ⟨fun k => ⟨failing_bound k, rfl, by simp [failing, free, live, open3, running], ?_⟩, by decide +kernel,
    by decide +kernel, fun k hk => ⟨failingExchange_bound k hk, rfl, by simp [failingExchange, failing, free, live, open3, running],
      ?_, ?_, ?_⟩⟩
  · simp [failing, State.slot, State.updSlot]
  · rcases List.mem_pair.mp hk with rfl | rfl <;> decide +kernel
  · simp [failingExchange, failing, State.slot, State.updSlot]
  · rcases List.mem_pair.mp hk with rfl | rfl <;> decide +kernel

/-- `free5` with lifetime remaining 1, of a reload of 9. -/
def expiring (f : Assoc → Assoc) : State := (free5 fun x => { x with lifetimeReload := 9, lifetimeRemaining := 1 }).updAssoc 5 f

theorem witness_ExpiryTriggerFollowsTheTable :
    (let x := (expiring id).assoc 5
     (expiring id).pins.resetLow = false ∧ x.state.inService = true ∧ 0 < x.lifetimeReload ∧ x.lifetimeRemaining ≤ 1)
    ∧ ((expiring fun x => { x with attempt := some (attempt1 .queued) }).assoc 5).attempt ≠ none
    ∧ (let x := (expiring fun x => { x with triggerPolicy := .manual, switchDue := true }).assoc 5
       x.attempt = none ∧ x.state ≠ .switching ∧ x.triggerPolicy = .manual ∧ x.switchDue = true)
    ∧ (let x := (expiring fun x => { x with triggerPolicy := .manual }).assoc 5
       x.attempt = none ∧ x.state ≠ .switching ∧ x.triggerPolicy = .manual ∧ x.switchDue = false)
    ∧ (let s := expiring fun x => { x with state := .suspended }
       (s.assoc 5).attempt = none ∧ (s.assoc 5).state ≠ .switching ∧ (s.assoc 5).triggerPolicy = .auto
       ∧ ¬SwitchCanStart s 5 (s.port (s.assoc 5).port).mode s.inhibit ∧ (s.assoc 5).switchPending = true)
    ∧ (let s := expiring fun x => { x with state := .suspended, switchPending := false }
       ¬SwitchCanStart s 5 (s.port (s.assoc 5).port).mode s.inhibit ∧ (s.assoc 5).switchPending = false
       ∧ s.nextReady 5 = true)
    ∧ (let s := expiring fun x => { x with switchPending := false, next := none }
       (s.assoc 5).attempt = none ∧ (s.assoc 5).state ≠ .switching ∧ (s.assoc 5).triggerPolicy = .auto
       ∧ (s.assoc 5).switchPending = false ∧ s.nextReady 5 = false)
    ∧ (let s := expiring id
       (s.assoc 5).triggerPolicy = .auto ∧ (s.assoc 5).confirmPolicy = .confirmed
       ∧ SwitchCanStart s 5 (s.port (s.assoc 5).port).mode s.inhibit)
    ∧ (let s := expiring fun x => { x with confirmPolicy := .unilateral }
       (s.assoc 5).triggerPolicy = .auto ∧ (s.assoc 5).confirmPolicy = .unilateral
       ∧ SwitchCanStart s 5 (s.port (s.assoc 5).port).mode s.inhibit ∧ (s.assoc 5).next = some 41
       ∧ (s.assoc 5).current = some 40 ∧ EventsOpen s) := by
  unfold SwitchCanStart EventsOpen
  decide +kernel

theorem witness_AttemptTimesOut :
    (let s := free5 fun x => { x with state := .switching, attempt := some (attempt1 .issued) }
     s.pins.resetLow = false ∧ (s.assoc 5).attempt = some (attempt1 .issued) ∧ (attempt1 .issued).status = .issued
     ∧ (attempt1 .issued).pulses ≤ 1 ∧ (attempt1 .issued).step < (s.port (s.assoc 5).port).lastStep)
    ∧ (let x : Attempt := { number := 5, step := 7, pulses := 1, status := .issued }
       let s := free5 fun y => { y with state := .switching, attempt := some x }
       (s.assoc 5).attempt = some x ∧ x.status = .issued ∧ x.pulses ≤ 1 ∧ (s.port (s.assoc 5).port).lastStep ≤ x.step) := by
  decide +kernel

theorem witness_QuantumTicks :
    (let s := freePort fun x => { x with
        holding := #v[true, false, false, false], refresh := #v[32766, 0, 0, 0] }
     s.pins.resetLow = false ∧ row (s.port 3).holding 0 = true
     ∧ row (s.port 3).refresh 0 + 1 = max 1 ((s.port 3).flow.quanta / 2)
     ∧ ∃ r, row (s.port 3).settings.classMap r = 0)
    ∧ row ((freePort fun x => { x with campusPause := Vector.replicate 8 1 }).port 3).campusPause 7 = 1
    ∧ row ((freePort fun x => { x with rackPause := Vector.replicate 8 1 }).port 3).rackPause 7 = 1 := by decide +kernel

theorem witness_LinkChanges :
    (running.pins.resetLow = false ∧ (running.port 1).link = .down)
    ∧ ((pulsing.port 1).link = .settling ∧ (pulsing.port 1).settleRemaining ≤ 1)
    ∧ ((open3.port 3).link ≠ .down ∧ (open3.port 3).link = .up ∧ open3.events = []
      ∧ open3.eventMask = BitVec.allOnes 21 ∧ (open3.port 3).mode = .protect
      ∧ ¬({ open3.port 3 with link := .down } : Port).flushes open3.inhibit)
    ∧ (let s := open3.updPort 3 fun x => { x with settings := { x.settings with linkDownPolicy := .flush } }
       (s.port 3).link ≠ .down ∧ ({ s.port 3 with link := .down } : Port).flushes s.inhibit)
    ∧ row running.pins.rackLink 3 = true
    ∧ row ({ running with pins := { running.pins with rackLink := Vector.replicate 4 false } } : State).pins.rackLink 3
      = false := by
  unfold Port.flushes
  decide +kernel

/-- A frame whose frame check sequence has its first byte inverted does not pass. -/
theorem fcsGood_spoiled (bs : Bytes) : fcsGood (bs ++ (fcsBytes bs).modifyHead (~~~ ·)) = false := by
  have h : ∃ a b c d, fcsBytes bs = [a, b, c, d] := ⟨_, _, _, _, rfl⟩
  obtain ⟨a, b, c, d, h⟩ := h
  have hne : ∀ a : Byte, (~~~ a == a) = false := by decide +kernel
  simp [fcsGood, withoutFcs, h, hne]

/-- A MAC control frame with an opcode. -/
def macFrame (opcode : Bytes) : Bytes := frameOf ([0x88, 0x08] ++ opcode) 44

/-- Port 3 of `open3`, R-side DISCARD under inhibit, and INHIBIT_N asserted. -/
def discarding : State :=
  { open3.updPort 3 fun x => { x with settings := { x.settings with inhibitAction := .discard } } with inhibit := .asserted }

/-- 64 bytes whose frame check sequence is wrong. -/
def spoiled64 : Bytes :=
  (List.replicate 12 2 ++ List.replicate 48 0) ++ (fcsBytes (List.replicate 12 2 ++ List.replicate 48 0)).modifyHead (~~~ ·)

theorem spoiled64_length : spoiled64.length = 64 := by simp [spoiled64, fcsBytes, toLE]

theorem witness_RackFrameChecks :
    (running.pins.resetLow = false ∧ row running.pins.rackLink 3 = true ∧ (running.port 3).mode = .off)
    ∧ (row open3.pins.rackLink 3 = true ∧ (open3.port 3).mode = .protect ∧ (List.replicate 63 (0 : Byte)).length < 64
      ∧ (open3.port 3).settings.frameCeiling = 1518 ∧ 64 ≤ (List.replicate 1519 (0 : Byte)).length
      ∧ 1518 < (List.replicate 1519 (0 : Byte)).length)
    ∧ (64 ≤ spoiled64.length ∧ fcsGood spoiled64 = false)
    ∧ (∀ op : Bytes, op.length = 2 → (macFrame op).length = 64 ∧ fcsGood (macFrame op) = true
      ∧ frameTagged (macFrame op) = false ∧ frameType (macFrame op) = 0x8808)
    ∧ (be16At (macFrame [0, 1]) 14 = 0x0001 ∧ be16At (macFrame [1, 1]) 14 = 0x0101
      ∧ be16At (macFrame [0, 2]) 14 ≠ 0x0001 ∧ be16At (macFrame [0, 2]) 14 ≠ 0x0101)
    ∧ ((discarding.port 3).mode = .protect ∧ discarding.inhibit = .asserted
      ∧ (discarding.port 3).settings.inhibitAction = .discard ∧ fcsGood frame64 = true ∧ frame64.length = 64
      ∧ isMacControl frame64 = false) := by
  refine ⟨by decide +kernel, by decide +kernel, ⟨by rw [spoiled64_length], fcsGood_spoiled _⟩, ?_,
    by decide +kernel, by decide +kernel, by decide +kernel, by decide +kernel, fcsGood_withFcs _, by decide +kernel,
    by decide +kernel⟩
  intro op h
  match op, h with
  | [a, b], _ => exact ⟨rfl, fcsGood_withFcs _, rfl, rfl⟩

/-- An entry that every frame on every port matches, with an action. -/
def anyEntry (action : Action) : SteerEntry := { SteerEntry.reset with valid := true, ports := 15, action := action }

/-- Entries 0 and 127 match; the first decides, under its action. -/
def steering (action : Action) : State := (open3.updEntry 0 fun _ => anyEntry action).updEntry 127 fun _ => anyEntry .drop

theorem frame64_accepted : AcceptedForSteering open3 3 frame64 := by
  refine ⟨rfl, by decide +kernel, by decide +kernel, by decide +kernel, by decide +kernel, fcsGood_withFcs _,
    by decide +kernel, by decide +kernel⟩

theorem witness_SteeringDecides :
    AcceptedForSteering open3 3 frame64 ∧ AcceptedForSteering (steering (.protect 5)) 3 frame64
    ∧ (∀ j, (open3.entry j).candidate 3 frame64 = false)
    ∧ (let s := open3.updEntry 127 fun _ => anyEntry .pass
       (s.entry 127).candidate 3 frame64 = true ∧ (∀ j, j < 127 → (s.entry j).candidate 3 frame64 = false)
       ∧ (∀ j, j ≠ 127 → (s.entry j).candidate 3 frame64 = false) ∧ (s.entry 127).action = .pass)
    ∧ (let s := steering (.protect 5)
       (s.entry 0).candidate 3 frame64 = true ∧ (0 < (127 : EntryIdx)) ∧ (s.entry 127).candidate 3 frame64 = true
       ∧ (∀ k, 0 < k → k < 127 → (s.entry k).candidate 3 frame64 = false) ∧ (s.entry 0).action = .protect 5)
    ∧ ((steering .drop).entry 0).action = .drop
    ∧ (open3.port 3).settings.defaultAction = .drop := by
  refine ⟨frame64_accepted, frame64_accepted, by decide +kernel, by decide +kernel, by decide +kernel, by decide +kernel, by decide +kernel⟩

/-- A frame record of 512 cells, and one of 513. -/
def bigRecord (cells : Nat) : FrameRecord := { frame := [], cells := cells, cls := 3, outcome := .pass }

theorem witness_EgressAdmission :
    (let s := running.updPort 3 fun x => { x with mode := .protect, settings := { x.settings with linkDownPolicy := .flush } }
     (s.port 3).mode = .protect ∧ (s.port 3).settings.linkDownPolicy = .flush ∧ (s.port 3).link ≠ .up
     ∧ s.inhibit = .released)
    ∧ (let x := open3.port 3
       ¬(x.mode = .protect ∧ x.settings.linkDownPolicy = .flush ∧ x.link ≠ .up ∧ open3.inhibit = .released)
       ∧ x.occupancy 3 + (bigRecord 512).cells ≤ row x.flow.ceiling 3
       ∧ row x.flow.ceiling 3 < x.occupancy 3 + (bigRecord 513).cells) := by decide +kernel

theorem witness_CampusFrameSteps :
    (running.pins.resetLow = false ∧ (running.port 3).link ≠ .up)
    ∧ (let s := running.updPort 3 fun x => { x with link := .up }
       (s.port 3).link = .up ∧ (s.port 3).mode = .off)
    ∧ ((open3.port 3).link = .up ∧ (open3.port 3).mode = .protect ∧ fcsGood spoiled64 = false
      ∧ (List.replicate 63 (0 : Byte)).length < 64)
    ∧ (∀ op : Bytes, op.length = 2 → (macFrame op).length = 64 ∧ fcsGood (macFrame op) = true
      ∧ frameTagged (macFrame op) = false ∧ frameType (macFrame op) = 0x8808)
    ∧ (be16At (macFrame [0, 1]) 14 = 0x0001 ∧ be16At (macFrame [1, 1]) 14 = 0x0101
      ∧ be16At (macFrame [0, 2]) 14 ≠ 0x0001 ∧ be16At (macFrame [0, 2]) 14 ≠ 0x0101)
    ∧ (frame64.length = 64 ∧ fcsGood frame64 = true ∧ isMacControl frame64 = false
      ∧ isControl (open3.port 3) frame64 = false
      ∧ ((open3.port 3).returnFifo.map fun g => (g.length + 127) / 128).sum + 1 ≤ 512)
    ∧ (let x := (open3.updPort 3 fun x => { x with returnFifo := List.replicate 512 [0] }).port 3
       512 < (x.returnFifo.map fun g => (g.length + 127) / 128).sum + 1) := by
  refine ⟨by decide +kernel, by decide +kernel, ⟨by decide +kernel, by decide +kernel, fcsGood_spoiled _, by decide⟩,
    witness_RackFrameChecks.2.2.2.1, by decide +kernel, ⟨by decide +kernel, fcsGood_withFcs _, by decide +kernel,
    by decide +kernel, by decide +kernel⟩, by decide +kernel⟩

/-! ### Control frames and lanes -/

/-- Port 3 of `free` with the addresses of its settings given, and an empty sequence. -/
def channel (f : Assoc → Assoc) : State :=
  (freePort fun x => { x with sequence := [], settings := { x.settings with portAddress := 1, peerAddress := 2 } }).updAssoc 5
    fun x => f { x with state := .switching, attempt := some (attempt1 .issued) }

/-- The first 44 bytes of a control frame of association 5 with label 0: subtype, result, epoch and packet number. -/
def head44 (subtype result epoch pn : Byte) : Bytes :=
  [0, 0, 0, 0, 0, 1, 0, 0, 0, 0, 0, 2, 0x89, 0xC4, 1, 0x80, 5, epoch, 0, 0, 0, 0, pn, 0, 0, 0, 0, 0]
    ++ [subtype, result, 5, if subtype = 2 then epoch else 0, 1, 0, 0, 0, 0, 0, 0, 0, 0, 0, 0, 0]

/-- A control frame with 16 bytes of zeros for an ICV. -/
def controlFrame (subtype result epoch pn : Byte) : Bytes := withFcs (head44 subtype result epoch pn ++ List.replicate 16 0)

theorem controlFrame_good (b r e n : Byte) : fcsGood (controlFrame b r e n) = true := fcsGood_withFcs _

theorem witness_ControlFramesAreChecked :
    (let s := channel id
     s.pins.resetLow = false ∧ (s.port 3).link = .up ∧ (s.port 3).mode = .protect ∧ (s.port 3).inbox.length < 4
     ∧ ((s.port 3).inbox.map Captured.place).Nodup ∧ (s.assoc 5).state ≠ .idle ∧ (s.assoc 5).port = 3
     ∧ (s.assoc 5).label = 0)
    ∧ (∀ b r e n, fcsGood (controlFrame b r e n) = true)
    ∧ (∀ f ∈ [controlFrame 2 0 10 1, controlFrame 2 2 9 1, controlFrame 3 0 9 1, controlFrame 3 0 10 1, controlFrame 4 0 9 1,
          controlFrame 2 0 10 0],
        isMacControl f = false ∧ isControl ((channel id).port 3) f = true ∧ (ctlTagAnum f).toNat = 5
        ∧ frameSA f = ((channel id).port 3).settings.peerAddress ∧ ctlBodyAnum f = ctlTagAnum f ∧ ctlTagLabel f = 0
        ∧ ctlBodyLabel f = ctlTagLabel f)
    ∧ 4 ≤ ((freePort fun x => { x with inbox := List.replicate 4 { place := 0, frame := [] } }).port 3).inbox.length
    ∧ (ctlSubtype (controlFrame 4 0 9 1) ≠ 2 ∧ ctlSubtype (controlFrame 4 0 9 1) ≠ 3)
    ∧ (let s := running
       ¬((s.assoc 5).state ≠ .idle ∧ (s.assoc 5).port = 3 ∧ (s.assoc 5).label = ctlTagLabel (controlFrame 2 0 10 1)))
    ∧ (let f := controlFrame 2 2 9 1
       ctlSubtype f = 2 ∧ (ctlResult f).toNat ≤ 2 ∧ ctlAnnounced f = ctlTagEpoch f
       ∧ ((channel id).slot 41).epoch ≠ ctlTagEpoch f)
    ∧ (let f := controlFrame 3 0 10 1
       ctlSubtype f = 3 ∧ ctlResult f = 0 ∧ ((channel id).assoc 5).currentEpoch ≠ ctlTagEpoch f)
    ∧ (let f := controlFrame 2 0 10 1
       ctlSubtype f = 2 ∧ ((channel id).assoc 5).attempt ≠ none ∧ ((channel id).assoc 5).next = some 41
       ∧ ((channel id).slot 41).epoch = ctlTagEpoch f ∧ ((channel id).assoc 5).floorNext < ctlTagPn f
       ∧ ctlTagPn (controlFrame 2 0 10 0) ≤ ((channel id).assoc 5).floorNext)
    ∧ (let f := controlFrame 3 0 9 1
       ctlSubtype f = 3 ∧ ((channel id).assoc 5).current = some 40 ∧ ((channel id).assoc 5).currentEpoch = ctlTagEpoch f
       ∧ ((channel id).assoc 5).floorCurrent < ctlTagPn f) := by
  refine ⟨by decide +kernel, controlFrame_good, by decide +kernel, by decide +kernel, by decide +kernel, by decide +kernel,
    by decide +kernel, by decide +kernel, by decide +kernel, by decide +kernel⟩

/-- Lane 0 transforms the one entry of port 3; slot 40 is in a state. -/
def transforming (state : SlotState) : State :=
  ((freePort fun x => { x with sequence := [entry5 (.inLane 0)] }).updSlot 40 fun x => { x with state := state }).setLane 0
    (.busy (.transform 3 { expandedKey := [1], salt := 0, epoch := 9 } 0x89C4))

/-- An entry of a PASS frame. -/
def passEntry (status : EntryStatus) : Entry := { entry5 status with body := .pass }

/-- `transforming`, with lane 1 at work on another entry that stands behind or before it, and inhibit as given. -/
def transformingTwo (first : Bool) (inhibit : InhibitState) (f : Port → Port) : State :=
  { ((transforming .active).updPort 3 fun x => f { x with
      sequence := if first then [entry5 (.inLane 1), entry5 (.inLane 0)] else [entry5 (.inLane 0), entry5 (.inLane 1)] })
    with inhibit := inhibit }

/-- The premises of TransformCompletes that every clause shares, for lane 0 and port 3. -/
def Transforming (s : State) : Prop :=
  s.pins.resetLow = false ∧ s.lane 0 = .busy (.transform 3 { expandedKey := [1], salt := 0, epoch := 9 } 0x89C4)
    ∧ entry5 (.inLane 0) ∈ (s.port 3).sequence ∧ (entry5 (.inLane 0)).status = .inLane 0
    ∧ (∀ g ∈ (s.port 3).sequence, g.status = .inLane 0 → g = entry5 (.inLane 0))
    ∧ (entry5 (.inLane 0)).inhibitDiscard = false ∧ (entry5 (.inLane 0)).slot? = some 40

/-- Lane 0 of `free` is IDLE: the oldest verification is `r`, the oldest expansion of slot 41, and port 3 holds an entry that
waits, with a PASS entry behind it; the round-robin pointer is at port 2. -/
def arbiter (verify : List VerifyReq) (expand : List SlotNum) : State :=
  { freePort (fun x => { x with sequence := [entry5 .done, entry5 .waitingLane, passEntry .waitingLane] }) with
    verifyQueue := verify, expansionFifo := expand, roundRobin := 2 }

theorem witness_TransformCompletes :
    (let s := transforming .active
     Transforming s ∧ (s.slot 40).state ≠ .faulted ∧ s.inhibit = .released ∧ (s.port 3).link = .up
     ∧ (∀ q, ∀ g ∈ (s.port q).sequence, g.status ≠ .waitingLane) ∧ s.verifyQueue = [] ∧ s.expansionFifo = [])
    ∧ (let s := transformingTwo true .asserted id
       Transforming s ∧ (s.slot 40).state ≠ .faulted ∧ s.inhibit = .asserted
       ∧ (s.port 3).sequence = entry5 (.inLane 1) :: [entry5 (.inLane 0)] ∧ (entry5 (.inLane 1)).status = .inLane 1
       ∧ (1 : LaneNum) ≠ 0)
    ∧ (∀ inhibit : InhibitState, let s := transformingTwo false inhibit fun x => { x with mode := .off, link := .down }
       Transforming s ∧ (s.slot 40).state ≠ .faulted ∧ s.inhibit = inhibit ∧ (s.port 3).link ≠ .up ∧ (s.port 3).mode = .off
       ∧ (s.port 3).sequence = entry5 (.inLane 0) :: [entry5 (.inLane 1)] ∧ (entry5 (.inLane 1)).status ≠ .inLane 0
       ∧ (entry5 (.inLane 1)).status.isInLane = true)
    ∧ (let s := transforming .faulted
       Transforming s ∧ (s.slot 40).state = .faulted
       ∧ (s.port 3).sequence.countP (fun g => g.status == .inLane 0) = 1)
    ∧ ((∀ l, ((List.finRange 6).foldl (fun s m => s.setLane m .outOfService) free).lane l ≠ .idle)
      ∧ grantOne open3 = none ∧ (grantOne (arbiter [] [])).isSome = true)
    ∧ ((∀ v e, (arbiter v e).lane 0 = .idle) ∧ ∀ m : LaneNum, ¬m < 0)
    ∧ (∀ r, (arbiter [r] [41]).verifyQueue = r :: [])
    ∧ ((arbiter [] [41]).verifyQueue = [] ∧ (arbiter [] [41]).expansionFifo = 41 :: []
      ∧ (∀ m, (arbiter [] [41]).lane m = .idle))
    ∧ (∀ p, (open3.port p).sequence = [])
    ∧ (let s := arbiter [] []
       s.verifyQueue = [] ∧ s.expansionFifo = [] ∧ s.roundRobin + 1 = 3
       ∧ (s.port 3).sequence = [entry5 .done] ++ entry5 .waitingLane :: ([passEntry .waitingLane] ++ [])
       ∧ (∀ g ∈ [entry5 .done], g.status ≠ .waitingLane) ∧ (entry5 .waitingLane).status = .waitingLane
       ∧ (entry5 .waitingLane).body ≠ .pass ∧ (s.port 3).sequence.countP (fun g => g.status.isInLane) < 2
       ∧ (∀ j : PortNum, j < 1 → (s.port (s.roundRobin + j)).sequence = [])
       ∧ (∀ g ∈ [passEntry .waitingLane], g.body = .pass ∧ g.status = .waitingLane)
       ∧ (entry5 .waitingLane).slot? = some 40) := by
  unfold Transforming
  refine ⟨by decide +kernel, by decide +kernel, fun inhibit => by cases inhibit <;> decide +kernel, by decide +kernel,
    by decide +kernel, ⟨fun v e => ?_, fun m => Nat.not_lt_zero _⟩, fun r => rfl, by decide +kernel, by decide +kernel,
    by decide +kernel⟩
  have h : free.lane 0 = .idle := by decide +kernel
  exact h

theorem witness_ProtectedFrameLayout :
    (let e := { entry5 (.inLane 0) with frame := List.replicate 20 0 }
     e.body = .data 5 40 1 .confidential .keepClear 0 ∧ 20 ≤ e.frame.length)
    ∧ (let e := { entry5 (.inLane 0) with body := .notice 5 40 1, frame := List.replicate 44 0 }
       e.body = .notice 5 40 1 ∧ e.frame.length = 44) := by decide +kernel

/-- Lane 0 expands the key of slot 41, LOADED. -/
def expanding (f : Assoc → Assoc) : State :=
  ((free5 f).updSlot 41 fun x => { x with state := .loaded }).setLane 0 (.busy (.expand 41 [7] true))

/-- The state in which a switch may begin at the completion of `expanding`. -/
def expanded (f : Assoc → Assoc) : State := (expanding f).updSlot 41 fun x => { x with state := .ready }

theorem witness_ExpansionCompletes :
    (∀ f ∈ [id, fun x => { x with state := .exhausted }, fun x => { x with confirmPolicy := .unilateral },
          fun x => { x with triggerPolicy := .manual }, fun x => { x with state := .suspended }],
        let s := expanding f
        s.pins.resetLow = false ∧ s.lane 0 = .busy (.expand 41 [7] true) ∧ (s.slot 41).state = .loaded
        ∧ (s.slot 41).owner = some 5)
    ∧ (∀ f ∈ [id, fun x => { x with state := .exhausted }, fun x => { x with confirmPolicy := .unilateral }],
        let s := expanding f
        (s.assoc 5).triggerPolicy = .auto ∧ (s.assoc 5).switchPending = true
        ∧ SwitchCanStart (expanded f) 5 (s.port (s.assoc 5).port).mode s.inhibit
        ∧ (s.assoc 5).next = some 41 ∧ (s.assoc 5).current ≠ some 41)
    ∧ ((expanding fun x => { x with triggerPolicy := .manual }).assoc 5).triggerPolicy ≠ .auto
    ∧ (let f := fun x : Assoc => { x with state := .suspended }
       ¬SwitchCanStart (expanded f) 5 ((expanding f).port ((expanding f).assoc 5).port).mode (expanding f).inhibit)
    ∧ ((free.setLane 0 (.busy (.expand 41 [7] false))).lane 0 = .busy (.expand 41 [7] false)
      ∧ (free.slot 41).state ≠ .loaded) := by
  unfold SwitchCanStart
  decide +kernel

theorem ofBE_snoc (bs : Bytes) (b : Byte) : ofBE (bs ++ [b]) = ofBE bs * 256 + b.toNat := by simp [ofBE]

theorem ofBE_toBE (w n : Nat) : ofBE (toBE w n) = n % 256 ^ w := by
  induction w generalizing n with
  | zero => simp [toBE, toLE, ofBE, Nat.mod_one]
  | succ w ih =>
    have := ih (n / 256)
    rw [toBE] at this
    rw [toBE, toLE, List.reverse_cons, ofBE_snoc, this, Nat.pow_succ, Nat.mul_comm (256 ^ w), Nat.mod_mul,
      BitVec.toNat_ofNat]
    omega

/-- A captured frame with an ICV. -/
def sealed (head : Bytes) (icv : BitVec 128) : Bytes := head ++ toBE 16 icv.toNat ++ [0, 0, 0, 0]

theorem ctlIcv_sealed (head : Bytes) (h : head.length = 44) (icv : BitVec 128) : ctlIcv (sealed head icv) = icv := by
  have : slice (sealed head icv) 44 16 = toBE 16 icv.toNat := by
    simp [slice, sealed, h, toBE, toLE]
  rw [ctlIcv, this, ofBE_toBE]
  apply BitVec.eq_of_toNat_eq
  have := icv.isLt
  rw [BitVec.toNat_ofNat, Nat.mod_eq_of_lt (a := icv.toNat) (by omega), Nat.mod_eq_of_lt this]

/-- The copy of a slot's key material. -/
def copy1 : KeyCopy := { expandedKey := [1], salt := 0, epoch := 10 }

/-- The ICV that the part computes over a head. -/
def icvOf (head : Bytes) : BitVec 128 :=
  Config.icv [1] (nonceOf 0 (ctlTagAnum head) (ctlTagEpoch head) (slice head 18 5) 0x83) head []

/-- The verification of a head with an ICV. -/
def verifying (head : Bytes) (icv : BitVec 128) (role : KeyRole) : VerifyReq :=
  { port := 3, place := 0, frame := sealed head icv, anum := 5, role := role, slot := if role = .next then 41 else 40 }

theorem verifyPasses_sealed (b r e n : Byte) (icv : BitVec 128) (role : KeyRole) :
    verifyPasses (verifying (head44 b r e n) icv role) copy1 = (icv == icvOf (head44 b r e n)) := by
  have h : (head44 b r e n).length = 44 := rfl
  have h1 : (sealed (head44 b r e n) icv).take 44 = head44 b r e n := by
    simp [sealed, h]
  have h2 : ctlTagAnum (sealed (head44 b r e n) icv) = ctlTagAnum (head44 b r e n)
    ∧ ctlTagEpoch (sealed (head44 b r e n) icv) = ctlTagEpoch (head44 b r e n)
    ∧ slice (sealed (head44 b r e n) icv) 18 5 = slice (head44 b r e n) 18 5 := ⟨rfl, rfl, rfl⟩
  simp only [verifyPasses, verifying, ctlIcv_sealed _ h, h1, h2]
  rfl

/-- The comparison of R87 as the statement writes it out. -/
def Passes (r : VerifyReq) (copy : KeyCopy) : Prop :=
  BitVec.ofNat 128 (ofBE ((r.frame.drop 44).take 16))
    = Config.icv copy.expandedKey (toBE 4 copy.salt.toNat ++ [byteAt r.frame 16, byteAt r.frame 17] ++ (r.frame.drop 18).take 5
        ++ [BitVec.ofNat 8 (0x80 + r.port.val)]) (r.frame.take 44) []

theorem verifyPasses_iff (r : VerifyReq) (copy : KeyCopy) : verifyPasses r copy = true ↔ Passes r copy := by
  simp [verifyPasses, Passes, nonceOf, ctlIcv, ctlTagAnum, ctlTagEpoch, slice]

/-- Lane 0 verifies a REPLY to association 5 of `channel`, whose next slot's check value is 0. -/
def judging (f : Assoc → Assoc) (op : LaneOp) : State := (channel f).setLane 0 (.busy op)

theorem witness_VerdictsTakeEffect :
    (∀ r w, (judging id (.verify r copy1 w)).pins.resetLow = false
      ∧ (judging id (.verify r copy1 w)).lane 0 = .busy (.verify r copy1 w))
    ∧ (∀ b r e n role, Passes (verifying (head44 b r e n) (icvOf (head44 b r e n)) role) copy1
      ∧ ¬Passes (verifying (head44 b r e n) (~~~ icvOf (head44 b r e n)) role) copy1)
    ∧ (ctlTagPn (head44 2 0 10 0) ≤ ((channel id).assoc 5).floorNext
      ∧ ((channel id).assoc 5).floorNext < ctlTagPn (head44 2 0 10 1))
    ∧ ((channel id).assoc 5).floorCurrent < ctlTagPn (head44 3 0 9 1)
    ∧ (let x := (channel id).assoc 5
       x.next = some 41 ∧ x.attempt = some (attempt1 .issued) ∧ x.current ≠ some 41 ∧ (attempt1 .issued).status = .issued
       ∧ ∀ result ∈ [0, 1, 2], (attempt1 .issued).number = ctlAttempt (head44 2 result 10 1)
         ∧ ((channel id).slot 41).checkValue = ctlCheckValue (head44 2 result 10 1)
         ∧ ctlResult (head44 2 result 10 1) = result)
    ∧ (attempt1 .issued).step < ((channel id).port ((channel id).assoc 5).port).lastStep
    ∧ (let a : Attempt := { number := 1, step := 7, pulses := 1, status := .issued }
       let s := channel fun x => { x with attempt := some a }
       (s.assoc 5).attempt = some a ∧ a.status = .issued ∧ a.number = ctlAttempt (head44 2 1 10 1)
       ∧ (s.port (s.assoc 5).port).lastStep ≤ a.step)
    ∧ (((channel id).assoc 5).current = some 40 ∧ EventsOpen (channel id)
      ∧ (((channel id).updSlot 40 fun x => { x with inFlight := 0 }).slot 40).inFlight = 0)
    ∧ (let x := (channel fun x => { x with attempt := some (attempt1 .queued) }).assoc 5
       x.attempt = some (attempt1 .queued) ∧ (attempt1 .queued).status ≠ .issued) := by
  refine ⟨fun r w => ⟨rfl, by simp [judging]⟩, fun b r e n role => ?_, by decide +kernel, by decide +kernel,
    by decide +kernel, by decide +kernel, by decide +kernel, by unfold EventsOpen; decide +kernel, by decide +kernel⟩
  rw [← verifyPasses_iff, ← verifyPasses_iff, verifyPasses_sealed, verifyPasses_sealed]
  have hne : ~~~ icvOf (head44 b r e n) ≠ icvOf (head44 b r e n) := by
    intro h
    have h0 := congrArg (BitVec.getLsbD · 0) h
    revert h0
    simp
  exact ⟨by simp, by simp [hne]⟩

/-! ### Schedulers, transmitters and the management line -/

/-- The state in which the MARK trigger of a frame of `queued5` reaches association 5: its number is taken. -/
def marked5 (f : Assoc → Assoc) : State :=
  ((queued5 f).updAssoc 5 fun x => { x with nextPn := x.nextPn + 1 }).updSlot 40 fun x => { x with inFlight := x.inFlight + 1 }

/-- Every row of the table of R130 is met: a trigger that is ignored, one under MANUAL, and under AUTO one that begins a switch
by an exchange or by a cut-over, one that finds switch pending, and one that sets it. -/
theorem witness_TriggerOutcome :
    let starts (f : Assoc → Assoc) : Prop := ((marked5 f).assoc 5).state = .running ∧ ((marked5 f).assoc 5).attempt = none
      ∧ ((marked5 f).assoc 5).triggerPolicy = .auto
      ∧ SwitchCanStart (marked5 f) 5 ((marked5 f).port ((marked5 f).assoc 5).port).mode (marked5 f).inhibit
    let waits (f : Assoc → Assoc) : Prop := ((marked5 f).assoc 5).state = .running ∧ ((marked5 f).assoc 5).attempt = none
      ∧ ((marked5 f).assoc 5).triggerPolicy = .auto
      ∧ ¬SwitchCanStart (marked5 f) 5 ((marked5 f).port ((marked5 f).assoc 5).port).mode (marked5 f).inhibit
    ((marked5 fun x => { x with attempt := some (attempt1 .issued) }).assoc 5).attempt ≠ none
    ∧ (let x := (marked5 fun x => { x with triggerPolicy := .manual }).assoc 5
       x.state = .running ∧ x.attempt = none ∧ x.triggerPolicy = .manual)
    ∧ (starts id ∧ ((marked5 id).assoc 5).confirmPolicy = .confirmed)
    ∧ (let f := fun x : Assoc => { x with confirmPolicy := .unilateral }
       starts f ∧ ((marked5 f).assoc 5).confirmPolicy = .unilateral ∧ ((marked5 f).assoc 5).next = some 41
       ∧ ((marked5 f).assoc 5).current = some 40 ∧ EventsOpen (marked5 f))
    ∧ (let f := fun x : Assoc => { x with next := none }
       waits f ∧ ((marked5 f).assoc 5).switchPending = true)
    ∧ (let f := fun x : Assoc => { x with next := none, switchPending := false }
       waits f ∧ ((marked5 f).assoc 5).switchPending = false) := by
  unfold SwitchCanStart EventsOpen
  decide +kernel

/-- The premises that DataFramesAreNumbered and StopMarkExhausts share. -/
def TakesNumber (s : State) : Prop :=
  TakesNext s 3 0 record5 ∧ record5.outcome = .protect 5 ∧ (s.assoc 5).state = .running ∧ (s.assoc 5).port = 3
    ∧ (s.assoc 5).current = some 40 ∧ (s.assoc 5).switchMark < (s.assoc 5).stopMark ∧ Unmarked (s.port 3)

theorem witness_DataFramesAreNumbered :
    (let s := queued5 id
     TakesNumber s ∧ (s.assoc 5).nextPn < (s.assoc 5).switchMark)
    ∧ ∀ n ∈ [100, 199], let s := queued5 fun x => { x with nextPn := n }
      TakesNumber s ∧ (s.assoc 5).switchMark ≤ (s.assoc 5).nextPn ∧ (s.assoc 5).nextPn < (s.assoc 5).stopMark := by
  unfold TakesNumber TakesNext SchedulerServes Unmarked
  decide +kernel

theorem witness_StopMarkExhausts :
    (∀ f ∈ [id, fun x => { x with triggerPolicy := .manual }, fun x => { x with confirmPolicy := .unilateral }],
        let s := queued5 fun x => f { x with nextPn := 200 }
        TakesNumber s ∧ (s.assoc 5).nextPn = (s.assoc 5).stopMark ∧ EventsOpen s)
    ∧ (let x := (queued5 fun x => { x with triggerPolicy := .manual }).assoc 5
       x.confirmPolicy = .confirmed ∧ x.attempt = none ∧ x.triggerPolicy = .manual)
    ∧ ((queued5 fun x => { x with attempt := some (attempt1 .issued) }).assoc 5).attempt = some (attempt1 .issued) := by
  unfold TakesNumber TakesNext SchedulerServes Unmarked EventsOpen
  decide +kernel

theorem witness_DequeueDiscardsAndPasses :
    (∀ f : Assoc → Assoc, TakesNext (queued5 f) 3 0 record5 ∧ record5.outcome = .protect 5)
    ∧ ((queued5 fun x => { x with state := .idle }).assoc 5).state = .idle
    ∧ (((queued5 fun x => { x with port := 2 }).assoc 5).state ≠ .idle
      ∧ ((queued5 fun x => { x with port := 2 }).assoc 5).port ≠ 3)
    ∧ (((queued5 fun x => { x with state := .suspended }).assoc 5).state = .suspended
      ∧ ((queued5 fun x => { x with state := .exhausted }).assoc 5).state = .exhausted
      ∧ ((queued5 id).assoc 5).port = 3)
    ∧ (let s := freePort fun x => { x with sequence := [], queues := #v[[], [], [], [bigRecord 1]] }
       TakesNext s 3 3 (bigRecord 1) ∧ (bigRecord 1).outcome = .pass ∧ Unmarked (s.port 3))
    ∧ (∀ s ∈ [freePort fun x => { x with mode := .off }, freePort fun x => { x with link := .settling }, live,
          freePort fun x => { x with sequence := List.replicate 4 (entry5 .done) }, noticed5 id,
          freePort fun x => { x with queues := #v[[record5], [], [], []], campusPause := Vector.replicate 8 1 }],
        s.pins.resetLow = false)
    ∧ ((freePort fun x => { x with mode := .off }).port 3).mode = .off
    ∧ ((freePort fun x => { x with link := .settling }).port 3).link ≠ .up ∧ live.inhibit = .asserted
    ∧ 4 ≤ ((freePort fun x => { x with sequence := List.replicate 4 (entry5 .done) }).port 3).sequence.length
    ∧ ((noticed5 id).port 3).controlQueue ≠ []
    ∧ (let s := freePort fun x => { x with queues := #v[[record5], [], [], []], campusPause := Vector.replicate 8 1 }
       ∀ k, row (s.port 3).queues k = [] ∨ (s.port 3).campusPaused k = true) := by
  refine ⟨fun f => ⟨witness_DataFramesAreNumbered.1.1.1, rfl⟩, by decide +kernel, by decide +kernel, by decide +kernel, ?_⟩
  unfold TakesNext SchedulerServes Unmarked
  decide +kernel

theorem witness_NoticesArePlaced :
    (let s := noticed5 id
     SchedulerServes s 3 ∧ (s.port 3).controlQueue = [5] ∧ (s.assoc 5).port = 3 ∧ Unmarked (s.port 3)
     ∧ (s.assoc 5).attempt = some (attempt1 .queued) ∧ (s.assoc 5).current = some 40 ∧ (s.assoc 5).next = some 41)
    ∧ ((noticed5 fun x => { x with nextPn := 1099511627775 }).assoc 5).nextPn ≤ Config.pnMax
    ∧ (let x := (noticed5 fun x => { x with nextPn := 200 }).assoc 5
       x.state = .switching ∧ x.nextPn = x.stopMark ∧ x.nextPn ≤ Config.pnMax)
    ∧ (Config.pnMax < ((noticed5 fun x => { x with nextPn := 1099511627776 }).assoc 5).nextPn
      ∧ (5 : Anum) ∉ ([] : List Anum))
    ∧ ((freePort fun x => { x with mode := .off }).pins.resetLow = false
      ∧ ((freePort fun x => { x with mode := .off }).port 3).mode = .off)
    ∧ ((freePort fun x => { x with link := .down }).port 3).link ≠ .up ∧ live.inhibit = .asserted
    ∧ 4 ≤ ((freePort fun x => { x with sequence := List.replicate 4 (entry5 .done) }).port 3).sequence.length
    ∧ (free.port 3).controlQueue = [] := by
  unfold SchedulerServes Unmarked
  decide +kernel

theorem witness_CampusTransmitter :
    (let s := freePort fun x => { x with sequence := [entry5 .done] }
     s.pins.resetLow = false ∧ (s.port 3).sequence = [entry5 .done] ∧ (s.port 3).campusTx = none
     ∧ (entry5 .done).status = .done ∧ (s.port 3).link = .up ∧ s.inhibit = .released ∧ Unmarked (s.port 3)
     ∧ (entry5 .done).slot? = some 40 ∧ ¬((s.slot 40).state = .draining ∧ (s.slot 40).inFlight ≤ 1))
    ∧ (let s := (freePort fun x => { x with sequence := [entry5 .done] }).updSlot 40 fun x => { x with state := .draining }
       s.pins.resetLow = false ∧ (s.port 3).sequence = [entry5 .done] ∧ (s.slot 40).state = .draining
       ∧ (s.slot 40).inFlight ≤ 1)
    ∧ (∀ tx ∈ [CampusTx.data 5 true [], .notice 5 [], .pass []],
        ((freePort fun x => { x with campusTx := some tx }).port 3).campusTx = some tx)
    ∧ ((freePort fun x => { x with campusTx := some (.pass []) }).port 3).campusTx ≠ none
    ∧ ((freePort fun x => { x with link := .down }).port 3).link ≠ .up ∧ live.inhibit = .asserted
    ∧ (∀ l ∈ [[], [entry5 .waitingLane], [{ entry5 .done with inhibitDiscard := true }]],
        let x := (freePort fun x => { x with sequence := l }).port 3
        ∀ e ∈ x.sequence.head?, e.status ≠ .done ∨ e.inhibitDiscard = true) := by
  unfold Unmarked
  decide +kernel

theorem witness_RackTransmitter :
    (let s := freePort fun x => { x with pauseOwed := true }
     s.pins.resetLow = false ∧ row s.pins.rackLink 3 = true ∧ (s.port 3).rackTx = none ∧ (s.port 3).pauseOwed = true)
    ∧ (let x := (freePort fun x => { x with returnFifo := [raw64] }).port 3
       x.pauseOwed = false ∧ x.returnFifo = [raw64] ∧ row x.rackPause 0 = 0)
    ∧ (let x := (freePort fun x => { x with returnFifo := [raw64], rackPause := Vector.replicate 8 1 }).port 3
       0 < row x.rackPause (if frameTagged raw64 then framePrio raw64 else 0))
    ∧ (∀ tx ∈ [RackTx.pause [], .returned []],
        ((freePort fun x => { x with rackTx := some tx }).port 3).rackTx = some tx ∧ some tx ≠ none)
    ∧ row ({ running with pins := { running.pins with rackLink := Vector.replicate 4 false } } : State).pins.rackLink 3 = false
    ∧ ((free.port 3).pauseOwed = false ∧ (free.port 3).returnFifo = []) := by decide +kernel

theorem witness_ReceiverTakesBytes :
    (running.pins.resetLow = false ∧ running.receiver = .hunt ∧ (0xC2 : Byte) ≠ 0xC3)
    ∧ (∀ got, ({ running with receiver := .record got 1 } : State).receiver = .record got 1)
    ∧ (∀ first second : Byte, first = 1 ∧ second = 0 ∨ first = 3 ∧ second = 4 →
        let length := (byteAt ([first] ++ [second]) 0).toNat + 256 * (byteAt ([first] ++ [second]) 1).toNat
        length < 2 ∨ 1026 < length)
    ∧ (let length := (byteAt ([2, 0, 0x81, 0] ++ [5]) 0).toNat + 256 * (byteAt ([2, 0, 0x81, 0] ++ [5]) 1).toNat
       1 ≤ [2, 0, 0x81, (0 : Byte)].length ∧ 2 ≤ length ∧ length ≤ 1026 ∧ [2, 0, 0x81, (0 : Byte)].length + 1 < length + 4)
    ∧ (let length := (byteAt ([2, 0, 0x81, 0, 7] ++ [5]) 0).toNat + 256 * (byteAt ([2, 0, 0x81, 0, 7] ++ [5]) 1).toNat
       2 ≤ length ∧ length ≤ 1026 ∧ [2, 0, 0x81, 0, (7 : Byte)].length + 1 = length + 4) := by
  refine ⟨by decide +kernel, fun _ => rfl, ?_, by decide +kernel, by decide +kernel⟩
  rintro a b (⟨rfl, rfl⟩ | ⟨rfl, rfl⟩) <;> decide

theorem witness_BytesMakeTheRecord : running.pins.resetLow = false ∧ running.receiver = .hunt
    ∧ (List.replicate 1024 (0xC3 : Byte)).length ≤ 1024 := ⟨rfl, rfl, List.length_replicate.le⟩

theorem witness_RequestsRoundTrip : requestRecord (.countersRead 255 255 255 255 255)
    = some (.countersRead, 255, [255, 255, 255, 255]) := rfl

theorem witness_RequestsAreRecords : (Instr.transportKey 0 (List.replicate 1024 0)).wellFormed = true
    ∧ ∀ key, requestRecord (.transportKey 0 key) = some (.transportKey, 0, key) :=
  ⟨test_transport_key_fits.1, fun _ => rfl⟩

theorem witness_OneReplyIsOwed :
    let x : Reply := { kind := 0x82, tag := 0, body := [0x10] }
    let m : BusyMark := { kind := 1, tag := 0 }
    (let s := { running with replyOwed := some x }
     s.pins.resetLow = false ∧ s.replyOwed = some x ∧ s.busyOwed = none ∧ x.body ≠ [0x00])
    ∧ (let s := { running with replyOwed := some x, busyOwed := some m }
       s.replyOwed = some x ∧ s.busyOwed = some m)
    ∧ (let s := { running with busyOwed := some m }
       s.replyOwed = none ∧ s.busyOwed = some m) ∧ running.replyOwed = none ∧ running.busyOwed = none := by decide +kernel

theorem witness_RecordsAreRefused :
    let good (r : Record) : Prop := crc16 (toLE 2 (r.body.length + 2) ++ [r.kind, r.tag] ++ r.body) = r.check
    let ofKind (k : Byte) : Record := { kind := k, tag := 0, body := [], check := crc16 [2, 0, k, 0] }
    (running.pins.resetLow = false ∧ running.replyOwed = none ∧ running.busyOwed = none)
    ∧ ¬good { ofKind 1 with check := ~~~ crc16 [2, 0, 1, 0] }
    ∧ (∀ k, good (ofKind k)) ∧ (¬(1 ≤ (0x1B : Byte).toNat ∧ (0x1B : Byte).toNat ≤ 0x1A))
    ∧ (1 ≤ (0x1A : Byte).toNat ∧ (0x1A : Byte).toNat ≤ 0x1A ∧ State.reset.partState = .testing)
    ∧ ({ running with partState := .halted }.partState = .halted ∧ (3 : Byte) ≠ 1 ∧ (3 : Byte) ≠ 2 ∧ (3 : Byte) ≠ 0x19)
    ∧ (running.partState = .running ∧ RequestKind.ofCode 3 = some .portSet
      ∧ (ofKind 3).body.length < RequestKind.portSet.bodyRange.1) := by
  refine ⟨by decide +kernel, by decide +kernel, fun k => congrArg crc16 (by simp [toLE]),
    by decide, by decide +kernel, by decide +kernel, by decide +kernel⟩

theorem witness_SoftResetFollowsItsReply :
    let s := { running with replyOwed := some { kind := 0x82, tag := 7, body := [0x00] } }
    s.pins.resetLow = false ∧ s.replyOwed = some { kind := 0x82, tag := 7, body := [0x00] } := by decide +kernel

/-! ### Requests -/

theorem witness_ReportsChangeNothing :
    (∀ state ∈ [PartState.running, .halted], let s := { running with partState := state }
      s.pins.resetLow = false ∧ s.replyOwed = none ∧ s.busyOwed = none ∧ (s.partState = .running ∨ s.partState = .halted))
    ∧ TakesRequests running ∧ (4 ≤ (4 : Byte).toNat ∧ 128 ≤ (128 : Byte).toNat ∧ 64 ≤ (64 : Byte).toNat)
    ∧ (3 : Byte).toNat = (3 : PortNum).val ∧ (127 : Byte).toNat = (127 : EntryIdx).val
    ∧ (63 : Byte).toNat = (63 : Anum).val ∧ (127 : Byte).toNat = (127 : SlotNum).val :=
  ⟨by decide +kernel, running_takes, by decide, by decide, by decide, by decide, by decide⟩

theorem witness_PortSetAndPortSwitch :
    let b := portBody 3 1518
    (TakesRequests open3 ∧ b.port.toNat = (3 : PortNum).val ∧ (open3.port 3).mode = .protect)
    ∧ 4 ≤ (portBody 4 1518).port.toNat
    ∧ (¬(0x0600 ≤ ({ b with clpType := 0x05FF } : PortSetBody).clpType.toNat)
      ∧ ({ b with settle := 0 } : PortSetBody).settle = 0)
    ∧ (TakesRequests running ∧ (running.port 3).mode = .off ∧ b.portAddress.getLsbD 40 = false
      ∧ b.peerAddress.getLsbD 40 = false ∧ 0x0600 ≤ b.clpType.toNat ∧ b.clpType ≠ 0x8100 ∧ b.clpType ≠ 0x8808
      ∧ (∀ q : Prio, (row b.classes q).toNat = (row (#v[0, 0, 1, 1, 2, 2, 3, 3] : Vector ClassNum 8) q).val)
      ∧ b.untaggedClass.toNat = (0 : ClassNum).val ∧ b.settle ≠ 0 ∧ b.linkDownPolicy = LinkDownPolicy.hold.code
      ∧ b.inhibitAction = InhibitAction.hold.code ∧ CodesAction b.action b.actionAnum .drop)
    ∧ 4 ≤ (4 : Byte).toNat ∧ (min (4 : Byte).toNat 7 < min (5 : Byte).toNat 7) ∧ min (9 : Byte).toNat 7 ≤ min (7 : Byte).toNat 7 := by
  unfold TakesRequests CodesAction
  decide +kernel

/-- `free` with port 3 in OFF, and changed. -/
def offPort (f : Port → Port) : State := freePort fun x => f { x with mode := .off }

/-- `offPort` with association 5 under UNILATERAL. -/
def offAlone : State := (offPort id).updAssoc 5 fun x => { x with confirmPolicy := .unilateral }

theorem offPort_coherent (f : Port → Port) (h : ∀ x, (f x).controlQueue = x.controlQueue) : Coherent (offPort f) :=
  coherent_congr free_coherent rfl (fun _ => ⟨rfl, rfl⟩) fun p => by
    by_cases hp : 3 = p <;> simp [offPort, freePort, State.port_updPort, hp, h]

theorem offAlone_coherent : Coherent offAlone :=
  ⟨by unfold AssocsOk Assoc.Ok; decide +kernel, by unfold SlotsBound Bound; decide +kernel,
    by unfold ControlQueuesOk; decide +kernel⟩

theorem witness_PortModeChanges :
    (TakesRequests running ∧ 4 ≤ (4 : Byte).toNat ∧ 2 ≤ (2 : Byte).toNat)
    ∧ (TakesRequests free ∧ (3 : Byte).toNat = (3 : PortNum).val ∧ (free.port 3).mode = .protect)
    ∧ (let s := offPort id
       TakesRequests s ∧ Coherent s ∧ (s.port 3).mode = .off ∧ row s.hwFaults.buffers 3 = false
       ∧ (s.assoc 5).port = 3 ∧ (s.assoc 5).triggerPolicy = .auto ∧ (s.assoc 5).switchPending = true
       ∧ (s.assoc 5).confirmPolicy = .confirmed ∧ SwitchCanStart s 5 .protect s.inhibit
       ∧ ¬({ s.port 3 with mode := .protect } : Port).flushes s.inhibit ∧ (s.assoc 0).switchPending ≠ true)
    ∧ (let s := offAlone
       TakesRequests s ∧ Coherent s ∧ (s.port 3).mode = .off ∧ row s.hwFaults.buffers 3 = false
       ∧ (s.assoc 5).port = 3 ∧ (s.assoc 5).triggerPolicy = .auto ∧ (s.assoc 5).switchPending = true
       ∧ SwitchCanStart s 5 .protect s.inhibit ∧ (s.assoc 5).confirmPolicy = .unilateral ∧ (s.assoc 5).next = some 41
       ∧ (s.assoc 5).current = some 40
       ∧ (after (.portMode 0 3 1) s).any (fun t => entriesAgainst t 40 = entriesAgainst s 40) = true
       ∧ (after (.portMode 0 3 1) s).any (fun t => entriesAgainst t 41 = entriesAgainst s 41) = true)
    ∧ (let s := offPort fun x => { x with link := .down, settings := { x.settings with linkDownPolicy := .flush } }
       Coherent s ∧ ({ s.port 3 with mode := .protect } : Port).flushes s.inhibit)
    ∧ row ({ running with hwFaults := { running.hwFaults with buffers := Vector.replicate 4 true } } : State).hwFaults.buffers 3
      = true
    ∧ (((noticed5 id).port 3).mode = .protect ∧ ((noticed5 id).assoc 5).port = 3 ∧ ((noticed5 id).assoc 5).attempt ≠ none
      ∧ (noticed5 id).events = [] ∧ (noticed5 id).eventMask = BitVec.allOnes 21)
    ∧ (free.assoc 5).attempt = none := by
  refine ⟨⟨running_takes, by decide, by decide⟩, ⟨free_takes, by decide, by decide +kernel⟩,
    ⟨free_takes, offPort_coherent _ fun _ => rfl, ?_⟩, ⟨free_takes, offAlone_coherent, ?_⟩,
    ⟨offPort_coherent _ fun _ => rfl, ?_⟩, by decide +kernel, by decide +kernel, by decide +kernel⟩
  all_goals
    try unfold SwitchCanStart
    try unfold Port.flushes
    decide +kernel

theorem witness_PortFlowReplacesTheSettings :
    (NotRunning State.reset ∧ TakesRequests open3 ∧ (open3.port 0).mode = .off ∧ (open3.port 3).mode = .protect)
    ∧ 4 ≤ ({ flowBody 512 with port := 4 } : PortFlowBody).port.toNat
    ∧ (∀ b ∈ [flowBody 512, { flowBody 0 with ceiling := #v[2042, 2, 2, 2] }],
        (row b.ceiling 0).toNat + (row b.ceiling 1).toNat + (row b.ceiling 2).toNat + (row b.ceiling 3).toNat ≤ 2048
        ∧ b.pauseEnable = 0 ∧ ∀ k : ClassNum, 0 < (row b.lower k).toNat ∧ (row b.lower k).toNat < (row b.upper k).toNat
          ∧ (row b.upper k).toNat ≤ (row b.ceiling k).toNat ∧ (row b.ceiling k).toNat ≤ 2048)
    ∧ (let b := flowBody 513
       ¬((row b.ceiling 0).toNat + (row b.ceiling 1).toNat + (row b.ceiling 2).toNat + (row b.ceiling 3).toNat ≤ 2048)) := by
  unfold NotRunning TakesRequests
  decide +kernel

theorem witness_SteeringRequests :
    (TakesRequests running ∧ 128 ≤ (128 : Byte).toNat ∧ (127 : Byte).toNat = (127 : EntryIdx).val)
    ∧ (let s := running.updEntry 127 fun e => { e with valid := true, locked := true }
       TakesRequests s ∧ (s.entry 127).locked = true ∧ (s.entry 127).valid = true)
    ∧ ((running.entry 127).locked = false ∧ (running.entry 127).valid = false)
    ∧ (let b := steerBody 127 63
       b.tagging = Tagging.any.code ∧ b.ports.toNat < 16 ∧ b.vlanValue.toNat < 4096 ∧ b.vlanMask.toNat < 4096
       ∧ b.prioValue.toNat < 8 ∧ b.prioMask.toNat < 8 ∧ CodesAction b.action b.actionAnum (.protect 63)
       ∧ b.classOverride = optionByte (some (3 : ClassNum)))
    ∧ (∀ tagging : Tagging, ({ steerBody 127 63 with tagging := 3 } : SteerSetBody).tagging ≠ tagging.code)
    ∧ (let b := { steerBody 127 63 with vlanValue := 0xFFFF, prioValue := 8 }
       b.vlanMask = 0 ∧ ¬b.vlanValue.toNat < 4096 ∧ b.prioMask = 0 ∧ ¬b.prioValue.toNat < 8)
    ∧ (let b := { steerBody 127 63 with vlanValue := 0xFFF, prioValue := 7 }
       b.vlanValue.toNat < 4096 ∧ b.prioValue.toNat < 8) := by
  refine ⟨⟨running_takes, by decide, by decide⟩, ⟨running_takes, by decide +kernel, by decide +kernel⟩,
    by decide +kernel, ?_, fun t => by cases t <;> decide, by decide⟩
  unfold CodesAction
  decide +kernel

theorem witness_AssocSetConfigures :
    (TakesRequests free ∧ 64 ≤ ({ body7 with anum := 64 } : AssocSetBody).anum.toNat
      ∧ (free.assoc 5).state ≠ .idle ∧ (free.assoc 5).state ≠ .configured)
    ∧ ((free.assoc 7).state = .idle ∧ body7.anum.toNat = (7 : Anum).val
      ∧ 1 ≤ body7.switchMark.toNat ∧ body7.switchMark.toNat < body7.stopMark.toNat
      ∧ body7.stopMark.toNat ≤ 1099511627519 ∧ body7.port.toNat = (0 : PortNum).val
      ∧ body7.protection = Protection.confidential.code ∧ body7.vlan = VlanHandling.keepClear.code
      ∧ body7.triggerPolicy = TriggerPolicy.auto.code ∧ body7.confirmPolicy = ConfirmPolicy.confirmed.code
      ∧ body7.lifetimeScale = LifetimeScale.fine.code ∧ (free.assoc 7).next = none)
    ∧ ¬(({ body7 with stopMark := 1000 } : AssocSetBody).switchMark.toNat < 1000)
    ∧ (let s := free5 fun x => { x with state := .configured, current := none }
       (s.assoc 5).state = .configured ∧ (s.assoc 5).next = some 41 ∧ (s.slot 41).epoch ≠ body7.firstEpoch
       ∧ (s.slot 41).epoch = ({ body7 with firstEpoch := 10 } : AssocSetBody).firstEpoch) := by
  unfold TakesRequests
  decide +kernel

/-- Association 5 of `free`, changed and SUSPENDED, once its resumption is counted and made. -/
def resumed (f : Assoc → Assoc) : State :=
  (counted (free5 fun x => { f x with state := .suspended })).updAssoc 5 fun x => { x with state := .running }

theorem witness_AssocStartsSuspendsAndResumes :
    (∀ f : Assoc → Assoc, TakesRequests (free5 f)) ∧ 64 ≤ (64 : Byte).toNat ∧ (5 : Byte).toNat = (5 : Anum).val
    ∧ ((free.assoc 5).state ≠ .configured ∧ (free.assoc 5).state = .running ∧ (free.assoc 5).state ≠ .suspended)
    ∧ (let s := free5 fun x => { x with state := .configured, current := none }
       (s.assoc 5).state = .configured ∧ (s.assoc 5).next = some 41 ∧ (s.slot 41).state = .ready
       ∧ (s.assoc 5).state ≠ .running)
    ∧ (let s := free5 fun x => { x with state := .configured, current := none, next := none }
       (s.assoc 5).state = .configured ∧ s.nextReady 5 = false)
    ∧ (let s := free5 fun x => { x with state := .suspended, switchPending := false }
       (s.assoc 5).state = .suspended ∧ (s.assoc 5).switchPending = false)
    ∧ (let s := free5 fun x => { x with state := .suspended }
       (s.assoc 5).state = .suspended ∧ (s.assoc 5).triggerPolicy = .auto ∧ (s.assoc 5).switchPending = true
       ∧ (s.assoc 5).confirmPolicy = .confirmed ∧ s.nextReady 5 = true ∧ (s.assoc 5).attempt = none
       ∧ (s.port (s.assoc 5).port).mode = .protect ∧ s.inhibit = .released)
    ∧ (let s := resumed fun x => { x with next := none }
       ¬SwitchCanStart s 5 (s.port (s.assoc 5).port).mode s.inhibit)
    ∧ (let f := fun x : Assoc => { x with confirmPolicy := .unilateral }
       let s := resumed f
       (s.assoc 5).triggerPolicy = .auto ∧ (s.assoc 5).switchPending = true ∧ (s.assoc 5).confirmPolicy = .unilateral
       ∧ SwitchCanStart s 5 (s.port (s.assoc 5).port).mode s.inhibit ∧ (s.assoc 5).next = some 41
       ∧ (s.assoc 5).current = some 40 ∧ EventsOpen s) :=
  ⟨fun _ => free_takes, by unfold SwitchCanStart EventsOpen; decide +kernel⟩

theorem witness_AssocClearEmptiesTheRecord : TakesRequests free ∧ (5 : Byte).toNat = (5 : Anum).val
    ∧ (free.assoc 7).state = .idle ∧ (free.assoc 5).state ≠ .idle ∧ Coherent free ∧ (free.assoc 5).current = some 40
    ∧ (free.assoc 5).next = some 41 ∧ 64 ≤ (64 : Byte).toNat
    ∧ (Coherent freeDone ∧ TakesRequests freeDone ∧ (freeDone.assoc 5).state ≠ .idle ∧ (freeDone.assoc 5).current = some 40
      ∧ (freeDone.slot 40).inFlight = 0 ∧ EventsOpen freeDone)
    ∧ (Coherent exchanging ∧ TakesRequests exchanging ∧ (exchanging.assoc 5).attempt ≠ none ∧ exchanging.events = []
      ∧ exchanging.eventMask = BitVec.allOnes 21) := by
  refine ⟨free_takes, by decide, by decide +kernel, by decide +kernel, free_coherent, by decide +kernel, by decide +kernel,
    by decide, ⟨freeDone_coherent, free_takes, ?_⟩, exchanging_coherent, free_takes, ?_⟩
  · unfold EventsOpen
    decide +kernel
  · decide +kernel

theorem witness_TestCorruptSetsTheFlags : TakesRequests free ∧ (5 : Byte).toNat = (5 : Anum).val ∧ 2 < (3 : Byte).toNat
    ∧ (2 : Byte).toNat ≤ 2 ∧ (free.assoc 7).state = .idle ∧ (free.assoc 5).state ≠ .idle ∧ 64 ≤ (64 : Byte).toNat :=
  ⟨free_takes, by decide, by decide, by decide, by decide +kernel, by decide +kernel, by decide⟩

theorem witness_SwitchNowBeginsTheSwitch :
    (∀ f : Assoc → Assoc, TakesRequests (free5 f)) ∧ TakesRequests live ∧ (5 : Byte).toNat = (5 : Anum).val
    ∧ ¬((free.assoc 7).state = .running ∨ (free.assoc 7).state = .exhausted)
    ∧ ((free.assoc 5).state = .running ∧ (free.assoc 5).attempt = none ∧ free.nextReady 5 = true
      ∧ (free.assoc 5).confirmPolicy = .confirmed ∧ (free.port (free.assoc 5).port).mode = .protect
      ∧ free.inhibit = .released)
    ∧ (free5 fun x => { x with next := none }).nextReady 5 = false ∧ live.inhibit = .asserted
    ∧ (let x := (free5 fun x => { x with confirmPolicy := .unilateral }).assoc 5
       x.state = .running ∧ x.attempt = none ∧ x.next = some 41 ∧ (free.slot 41).state = .ready
       ∧ x.confirmPolicy = .unilateral ∧ x.current ≠ some 41 ∧ x.current = some 40) ∧ EventsOpen free
    ∧ 64 ≤ (64 : Byte).toNat
    ∧ ((freeDone.assoc 5).current = some 40 ∧ (freeDone.slot 40).inFlight = 0 ∧ EventsOpen freeDone) :=
  ⟨fun _ => free_takes, ⟨rfl, rfl, rfl, rfl⟩, by unfold EventsOpen; decide +kernel⟩

theorem witness_TransportKeyIsInstalledOnce :
    NotRunning State.reset ∧ TakesRequests { running with transportKey := some [] } ∧ TakesRequests running
    ∧ running.transportKey = none ∧ (List.replicate 17 (0 : Byte)).length ≠ 16 ∧ (List.replicate 17 (0 : Byte)).length ≠ 32
    ∧ (List.replicate 32 (0 : Byte)).length = 32 := by
  refine ⟨by unfold NotRunning; decide +kernel, running_takes, running_takes, by decide +kernel⟩

theorem witness_KeysAreLoaded :
    let s := { free5 (fun x => { x with next := none }) with transportKey := some [] }
    (TakesRequests running ∧ running.transportKey = none) ∧ (TakesRequests s ∧ s.transportKey = some [])
    ∧ (128 ≤ (128 : Byte).toNat ∧ 64 ≤ (64 : Byte).toNat ∧ (127 : Byte).toNat = (127 : SlotNum).val
      ∧ (5 : Byte).toNat = (5 : Anum).val)
    ∧ ((s.slot 40).state ≠ .empty ∧ (s.slot 127).state = .empty ∧ (s.assoc 7).state = .idle ∧ (s.assoc 5).state ≠ .idle
      ∧ (free.assoc 5).next ≠ none ∧ (s.assoc 5).next = none
      ∧ (if (s.assoc 5).current = none then (s.assoc 5).firstEpoch else (s.assoc 5).currentEpoch + 1) = 10)
    ∧ ((List.replicate 33 (0 : Byte)).length ≠ 32 ∧ (List.replicate 33 (0 : Byte)).length ≠ 48
      ∧ (List.replicate 48 (0 : Byte)).length = 48 ∧ (List.replicate 48 (0 : Byte)).length + 3 ≤ 1024) :=
  ⟨⟨running_takes, rfl⟩, ⟨free_takes, rfl⟩, by decide, by decide +kernel, by decide⟩

theorem witness_KeyEraseEmptiesTheSlot :
    NotRunning State.reset ∧ TakesRequests free ∧ 128 ≤ (128 : Byte).toNat ∧ (127 : Byte).toNat = (127 : SlotNum).val
    ∧ (free.slot 127).state = .empty
    ∧ ((free.slot 41).owner = some 5 ∧ (free.slot 41).state = .ready ∧ (free.assoc 5).attempt = none)
    ∧ ((noticed5 id).assoc 5).attempt ≠ none ∧ (free.slot 40).state = .active
    ∧ ((expanding id).slot 41).state = .loaded
    ∧ ((failing 40).updSlot 9 (fun x => { x with state := .faulted })).slot 9
      = { Slot.empty with state := .faulted, inFlight := 0 }
    ∧ (((transforming .faulted).slot 40).state = .faulted ∧ 0 < ((transforming .faulted).slot 40).inFlight) := by
  refine ⟨by unfold NotRunning; decide +kernel, free_takes, by decide, by decide, by decide +kernel, by decide +kernel,
    by decide +kernel, by decide +kernel, by decide +kernel, ?_, by decide +kernel⟩
  decide +kernel

theorem witness_EventsAreTaken :
    let e : Event := { kind := .linkUp, source := .port 0, count := 255, detail := 0 }
    let s := { running with events := List.replicate 64 e }
    ({ running with eventMask := 0 } : State).eventMask.getLsbD EventKind.linkUp.code = false
    ∧ s.eventMask.getLsbD EventKind.linkUp.code = true
    ∧ (∃ e ∈ s.events, e.kind = .linkUp ∧ e.source = .port 0)
    ∧ (¬(∃ e ∈ s.events, e.kind = .linkUp ∧ e.source = .port 1) ∧ 64 ≤ s.events.length)
    ∧ running.events.length < 64 := by decide +kernel

theorem witness_EventsAndFaultsAreRead : TakesRequests running ∧ 1 < (2 : Byte).toNat ∧ (1 : Byte).toNat ≤ 1
    ∧ (let s := { running with partState := .halted }
       s.pins.resetLow = false ∧ s.replyOwed = none ∧ s.busyOwed = none ∧ s.partState = .halted) :=
  ⟨running_takes, by decide, by decide, by decide +kernel⟩

theorem witness_CountersAreRead : TakesRequests running ∧ 2 < (3 : Byte).toNat ∧ 1 < (2 : Byte).toNat
    ∧ (4 ≤ (4 : Byte).toNat ∧ 64 ≤ (64 : Byte).toNat ∧ 128 ≤ (128 : Byte).toNat)
    ∧ ((3 : Byte).toNat < 4 ∧ (63 : Byte).toNat < 64 ∧ (127 : Byte).toNat < 128 ∧ (1 : Byte).toNat ≤ 1) :=
  ⟨running_takes, by decide⟩

/-! ### What every step keeps: `live`, with INHIBIT_RELEASE in front of its queue -/

def liveStep : State := { live with pending := [.inhibitRelease] }

theorem liveStep_next : ∃ t, step liveStep = .next t := ⟨_, rfl⟩

theorem liveStep_coherent : Coherent liveStep := coherent_congr live_coherent rfl (fun _ => ⟨rfl, rfl⟩) fun _ => rfl

theorem witness_EveryStepKeepsTheLists : (∃ t, step liveStep = .next t)
    ∧ EventsOk liveStep ∧ FaultListOk liveStep ∧ CountersOk liveStep ∧ CountsOk liveStep := by
  refine ⟨liveStep_next, ?_⟩
  unfold EventsOk FaultListOk CountersOk CountsOk
  decide +kernel

theorem witness_EveryStepKeepsTheSlotBinding : Coherent liveStep ∧ (∃ t, step liveStep = .next t)
    ∧ ((liveStep.assoc 5).current = some 40 ∨ (liveStep.assoc 5).next = some 40)
    ∧ (liveStep.slot 41).owner = some 5 ∧ (liveStep.slot 41).state = .ready :=
  ⟨liveStep_coherent, liveStep_next, by decide +kernel⟩

theorem witness_NumbersAreNeverReused : Coherent liveStep ∧ InFlightOk liveStep ∧ NumbersOk liveStep
    ∧ (∃ t, step liveStep = .next t ∧ (t.assoc 5).current = some 40) ∧ (liveStep.assoc 5).current = some 40 :=
  ⟨liveStep_coherent, live_inFlightOk, live_numbersOk, ⟨_, rfl, by decide +kernel⟩, by decide +kernel⟩

theorem witness_EveryStepKeepsSlotsZeroised : Coherent liveStep ∧ SlotsOk liveStep ∧ ∃ t, step liveStep = .next t :=
  ⟨liveStep_coherent, live_slotsOk, liveStep_next⟩

theorem witness_EveryStepKeepsThePorts : PortsOk liveStep ∧ HeldOff liveStep ∧ ∃ t, step liveStep = .next t :=
  ⟨live_portsOk, live_heldOff, liveStep_next⟩

theorem witness_EveryStepKeepsLanesAndCounts : Coherent liveStep ∧ HeldOff liveStep ∧ InFlightOk liveStep ∧ LanesOk liveStep
    ∧ ∃ t, step liveStep = .next t := ⟨liveStep_coherent, live_heldOff, live_inFlightOk, live_lanesOk, liveStep_next⟩

/-- `free` with another key in slot 40. -/
def otherKey : State := free.updSlot 40 fun x => { x with key := [1], salt := 7 }

theorem witness_KeysAndLocksStay :
    (let s := { running.updEntry 9 (fun e => { e with valid := true, locked := true }) with transportKey := some [1] }
     (∃ t, exec (.steerClear 0 9) s = .next t) ∧ (∀ pins, Instr.steerClear 0 9 ≠ .powerOn pins)
     ∧ (∀ r x, Instr.steerClear 0 9 ≠ .pinResetRelease r x) ∧ (s.entry 9).locked = true
     ∧ Instr.steerClear 0 9 ≠ .replySent ∧ s.transportKey ≠ none)
    ∧ SameButKeys free otherKey ∧ (∃ t, exec (.slotGet 0 40) free = .next t) ∧ ∃ t, exec (.slotGet 0 40) otherKey = .next t := by
  refine ⟨⟨⟨_, rfl⟩, by simp, by simp, by decide +kernel, by simp, by decide +kernel⟩, ⟨fun k => ?_, rfl⟩, ⟨_, rfl⟩, ⟨_, rfl⟩⟩
  by_cases h : 40 = k <;> simp [otherKey, State.slot_updSlot, h]

end Sys2Proof.Tests
end

section
/-! SUPPORT. RSIDE_FRAME_RECEIVED: the acceptance checks of R9 in their order, the rack pause of R122, and the drop under
inhibit of R12 (O15). -/

namespace Sys2Proof.Proofs

open Sys2Proof Sys2Proof.Machine

/-! ## The command outside reset -/

theorem unlessHeld_released {s : State} (h : s.pins.resetLow = false) (act : Result) : unlessHeld s act = act := by
  simp [unlessHeld, h]

/-- With the part out of reset and the rack link good, the frame is received (R8, R115). -/
theorem exec_rsideFrameReceived {p : PortNum} {s : State} (hreset : s.pins.resetLow = false)
    (hlink : row s.pins.rackLink p = true) (f : Bytes) : exec (.rsideFrameReceived p f) s = .next (receiveRack p f s) :=
  calc exec (.rsideFrameReceived p f) s
    _ = unlessHeld s (if row s.pins.rackLink p then .next (receiveRack p f s) else .next s) := rfl
    _ = .next (receiveRack p f s) := by rw [unlessHeld_released hreset, if_pos hlink]

/-! ## The acceptance checks, in the order of R9 -/

section Acceptance

variable {x : Port} {f : Bytes}

theorem acceptanceDrop_off (hmode : x.mode = .off) : acceptanceDrop x f = some .portOffDrops := if_pos hmode

/-- In PROTECT the first check of R9 passes, and the three on the frame itself remain. -/
theorem acceptanceDrop_protect (hmode : x.mode = .protect) : acceptanceDrop x f =
    if f.length < 64 then some .runtDrops
    else if x.settings.frameCeiling < f.length then some .oversizeDrops
    else if fcsGood f = false then some .fcsDrops else none :=
  if_neg (by simp [hmode])

theorem acceptanceDrop_runt (hmode : x.mode = .protect) (hlen : f.length < 64) :
    acceptanceDrop x f = some .runtDrops := by
  rw [acceptanceDrop_protect hmode, if_pos hlen]

theorem acceptanceDrop_oversize (hmode : x.mode = .protect) (hmin : 64 ≤ f.length)
    (hlen : x.settings.frameCeiling < f.length) : acceptanceDrop x f = some .oversizeDrops := by
  rw [acceptanceDrop_protect hmode, if_neg hmin.not_gt, if_pos hlen]

/-- A frame of a length that the port takes passes R9 exactly if its frame check sequence is right. -/
theorem acceptanceDrop_of_length (hmode : x.mode = .protect) (hmin : 64 ≤ f.length)
    (hmax : f.length ≤ x.settings.frameCeiling) :
    acceptanceDrop x f = if fcsGood f = false then some .fcsDrops else none := by
  rw [acceptanceDrop_protect hmode, if_neg hmin.not_gt, if_neg hmax.not_gt]

end Acceptance

/-! ## A received frame: dropped, applied as a pause, or dropped under inhibit -/

theorem receiveRack_dropped {p : PortNum} {f : Bytes} {s : State} {c : PortCounter}
    (h : acceptanceDrop (s.port p) f = some c) : receiveRack p f s = bumpPort p c 1 (countedIn p f s) := by
  simp only [receiveRack, h, countedIn]

/-- A frame that passes R9: a MAC control frame is consumed (R11), another is dropped under inhibit or steered (R12). -/
theorem receiveRack_accepted {p : PortNum} {f : Bytes} {s : State} (h : acceptanceDrop (s.port p) f = none) :
    receiveRack p f s = if isMacControl f then applyRackPause p f (countedIn p f s)
      else if s.inhibited = true ∧ (s.port p).settings.inhibitAction = .discard then
        bumpPort p .inhibitDrops 1 (countedIn p f s)
      else steerFrame p f (countedIn p f s) := by
  simp only [receiveRack, h, countedIn]

theorem isMacControl_of_type {f : Bytes} (htag : frameTagged f = false) (htype : frameType f = 0x8808) :
    isMacControl f = true := by
  simp [isMacControl, htag, htype]

theorem inhibited_of_asserted {s : State} (h : s.inhibit = .asserted) : s.inhibited = true := by
  simp [State.inhibited, h]

/-! ## The rack pause (R122), by the opcode of the frame -/

theorem applyRackPause_plain {f : Bytes} (h : be16At f 14 = 0x0001) (p : PortNum) (s : State) :
    applyRackPause p f s = s.updPort p fun y => { y with rackPause := Vector.replicate 8 (be16At f 16).toNat } := by
  have htimes : ∀ times, pauseTimes f times = some (Vector.replicate 8 (be16At f 16).toNat) := fun _ => if_pos h
  simp only [applyRackPause, htimes]

/-- A priority pause writes the times of the priorities that its enable vector names and keeps the others. -/
theorem applyRackPause_prio {f : Bytes} (h : be16At f 14 = 0x0101) (p : PortNum) (s : State) :
    applyRackPause p f s = s.updPort p fun y =>
      { y with rackPause := Vector.ofFn fun q : Fin 8 =>
          if (be16At f 16).getLsbD q.val then (be16At f (18 + 2 * q.val)).toNat else row y.rackPause q } := by
  have hplain : be16At f 14 ≠ 0x0001 := by simp [h]
  have htimes : ∀ times, pauseTimes f times = some (Vector.ofFn fun q : Fin 8 =>
      if (be16At f 16).getLsbD q.val then (be16At f (18 + 2 * q.val)).toNat else row times q) :=
    fun _ => (if_neg hplain).trans (if_pos h)
  simp only [applyRackPause, htimes]
  rfl

theorem applyRackPause_other {f : Bytes} (hplain : be16At f 14 ≠ 0x0001) (hprio : be16At f 14 ≠ 0x0101) (p : PortNum)
    (s : State) : applyRackPause p f s = s := by
  have htimes : ∀ times, pauseTimes f times = none := fun _ => (if_neg hplain).trans (if_neg hprio)
  simp only [applyRackPause, htimes]

/-- Settles O15: the checks of R9 fix `acceptanceDrop`, and what passes them is consumed or dropped by R11 and R12. -/
theorem rackFrameChecks : Obligations.RackFrameChecks := by
  unfold Obligations.RackFrameChecks
  intro p f s hreset hlink x s1
  rw [exec_rsideFrameReceived hreset hlink]
  have accepted (hmode : x.mode = .protect) (hmin : 64 ≤ f.length) (hmax : f.length ≤ x.settings.frameCeiling)
      (hfcs : fcsGood f = true) : acceptanceDrop x f = none := by
    rw [acceptanceDrop_of_length hmode hmin hmax, if_neg (by simp [hfcs])]
  refine ⟨fun hmode => ?off, fun hmode hlen => ?runt, fun hmode hmin hlen => ?oversize,
    fun hmode hmin hmax hfcs => ?badFcs, fun hmode hmin hmax hfcs htag htype => ?macControl,
    fun hmode hmin hmax hfcs hmac hinhibit hdiscard => ?inhibit⟩
  case off => rw [receiveRack_dropped (acceptanceDrop_off hmode)]
  case runt => rw [receiveRack_dropped (acceptanceDrop_runt hmode hlen)]
  case oversize => rw [receiveRack_dropped (acceptanceDrop_oversize hmode hmin hlen)]
  case badFcs => rw [receiveRack_dropped ((acceptanceDrop_of_length hmode hmin hmax).trans (if_pos hfcs))]
  case macControl =>
    rw [receiveRack_accepted (accepted hmode hmin hmax hfcs), if_pos (isMacControl_of_type htag htype)]
    exact ⟨fun hplain => by rw [applyRackPause_plain hplain], fun hprio => by rw [applyRackPause_prio hprio],
      fun hplain hprio => by rw [applyRackPause_other hplain hprio]⟩
  case inhibit =>
    rw [receiveRack_accepted (accepted hmode hmin hmax hfcs), if_neg (by simp [hmac]),
      if_pos ⟨inhibited_of_asserted hinhibit, hdiscard⟩]

end Sys2Proof.Proofs
end

section
/-! SUPPORT. The candidates of the steering table (R27), field by field and bit by bit (O17). -/

namespace Sys2Proof.Proofs

open Sys2Proof Sys2Proof.Machine

/-! ## One value and mask pair, one tagging condition -/

/-- "A pair matches when every bit that is 1 in the mask has the same value in the frame's field as in the entry's
value" (R27). -/
theorem maskMatches_iff {n : Nat} {value mask field : BitVec n} : maskMatches value mask field = true ↔
    ∀ i, i < n → mask.getLsbD i = true → value.getLsbD i = field.getLsbD i := by
  have bit (i : Nat) : ((value ^^^ field) &&& mask).getLsbD i = false ↔
      (mask.getLsbD i = true → value.getLsbD i = field.getLsbD i) := by
    rw [BitVec.getLsbD_and, BitVec.getLsbD_xor]
    cases mask.getLsbD i <;> simp
  calc maskMatches value mask field = true
    _ ↔ (value ^^^ field) &&& mask = 0 := beq_iff_eq
    _ ↔ ∀ i, i < n → ((value ^^^ field) &&& mask).getLsbD i = false := by
      rw [BitVec.eq_of_getLsbD_eq_iff]
      simp only [BitVec.ofNat_eq_ofNat, BitVec.getLsbD_zero]
    _ ↔ ∀ i, i < n → mask.getLsbD i = true → value.getLsbD i = field.getLsbD i := by simp only [bit]

@[simp] theorem allows_tagged {tagged : Bool} : Tagging.tagged.allows tagged = true ↔ tagged = true := Iff.rfl

@[simp] theorem allows_untagged {tagged : Bool} : Tagging.untagged.allows tagged = true ↔ tagged = false :=
  iff_of_eq (Bool.not_eq_true' tagged)

@[simp] theorem allows_any (tagged : Bool) : Tagging.any.allows tagged = true := rfl

/-! ## The whole entry -/

/-- The VLAN and priority pairs are compared for a tagged frame; for an untagged one their masks are zero (R27). -/
theorem candidate_iff {e : SteerEntry} {p : PortNum} {f : Bytes} : e.candidate p f = true ↔
    e.valid = true ∧ e.ports.getLsbD p.val = true ∧ e.tagging.allows (frameTagged f) = true
    ∧ (frameTagged f = true → maskMatches e.vlanValue e.vlanMask (frameVlan f) = true
        ∧ maskMatches e.prioValue e.prioMask (BitVec.ofNat 3 (framePrio f).val) = true)
    ∧ (frameTagged f = false → e.vlanMask = 0 ∧ e.prioMask = 0)
    ∧ maskMatches e.addressValue e.addressMask (frameDA f) = true
    ∧ maskMatches e.typeValue e.typeMask (frameType f) = true := by
  cases htag : frameTagged f with
  | true => simp [SteerEntry.candidate, htag, and_assoc]
  | false => simp [SteerEntry.candidate, htag, and_assoc]

/-- Settles O17: the conditions of R27 one by one, the tagging condition by its three values and each mask by its bits. -/
theorem candidatesMatchByValueAndMask : Obligations.CandidatesMatchByValueAndMask := by
  unfold Obligations.CandidatesMatchByValueAndMask
  intro e p f
  rw [candidate_iff]
  simp only [maskMatches_iff]
  cases e.tagging with
  | tagged => rw [allows_tagged]
  | untagged => rw [allows_untagged]
  | any => rw [allows_any, eq_self_iff_true]

end Sys2Proof.Proofs
end

section
/-! SUPPORT. Requests that the part takes at once (R165, R168), the codes of enumerated fields (R169), and ASSOC_SET: the
checks of R44 in their order and the record that R45 makes (O43). -/

namespace Sys2Proof.Proofs

open Sys2Proof Sys2Proof.Machine

/-! ## A request that is taken, done or refused -/

section Taken

variable {kind : RequestKind} {tag : Byte} {n : Nat} {serve : State → Served} {s t : State}

theorem requestArrives_done {fields : Bytes} (h : TakesRequests s)
    (hlen : kind.bodyRange.1 ≤ n ∧ n ≤ kind.bodyRange.2) (hserve : serve (counted s) = done fields t) :
    requestArrives kind tag n serve s = .next (owingOk (replyKind kind.code) tag fields t) := by
  rw [requestArrives_taken kind tag n serve s h hlen.1 hlen.2, hserve, oweReply_done]

theorem requestArrives_refused {status : Status} (h : TakesRequests s)
    (hlen : kind.bodyRange.1 ≤ n ∧ n ≤ kind.bodyRange.2) (hserve : serve (counted s) = refuse status (counted s))
    (hstatus : status ≠ .ok) :
    requestArrives kind tag n serve s = .next (owingRefusal (replyKind kind.code) tag status.code (counted s)) := by
  rw [requestArrives_taken kind tag n serve s h hlen.1 hlen.2, hserve, oweReply_refuse _ _ _ _ hstatus]

end Taken

/-! ## Numbers and codes read from a body (R169) -/

theorem inRange_eq_none {n : Nat} {b : Byte} (h : n ≤ b.toNat) : inRange n b = none := dif_neg h.not_gt

theorem inRange_eq_some_iff {n : Nat} {b : Byte} {i : Fin n} : inRange n b = some i ↔ b.toNat = i.val := by
  unfold inRange
  split
  · simp [Fin.ext_iff]
  · simp only [reduceCtorEq, false_iff]
    omega

/-- Of an enumeration of two values the first has code 0 and the second code 1. -/
theorem twoCodes_eq_some_iff {α : Type} {x y v : α} {b : Byte} :
    [x, y][b.toNat]? = some v ↔ b = 0 ∧ x = v ∨ b = 1 ∧ y = v := by
  have code (c : Byte) : b = c ↔ b.toNat = c.toNat := BitVec.toNat_eq
  rw [code 0, code 1]
  match b.toNat with
  | 0 => simp
  | 1 => simp
  | n + 2 => simp

theorem protection_ofCode_iff {b : Byte} {v : Protection} : Protection.ofCode b = some v ↔ b = v.code :=
  twoCodes_eq_some_iff.trans (by cases v <;> simp [Protection.code])

theorem vlanHandling_ofCode_iff {b : Byte} {v : VlanHandling} : VlanHandling.ofCode b = some v ↔ b = v.code :=
  twoCodes_eq_some_iff.trans (by cases v <;> simp [VlanHandling.code])

theorem triggerPolicy_ofCode_iff {b : Byte} {v : TriggerPolicy} : TriggerPolicy.ofCode b = some v ↔ b = v.code :=
  twoCodes_eq_some_iff.trans (by cases v <;> simp [TriggerPolicy.code])

theorem confirmPolicy_ofCode_iff {b : Byte} {v : ConfirmPolicy} : ConfirmPolicy.ofCode b = some v ↔ b = v.code :=
  twoCodes_eq_some_iff.trans (by cases v <;> simp [ConfirmPolicy.code])

theorem lifetimeScale_ofCode_iff {b : Byte} {v : LifetimeScale} : LifetimeScale.ofCode b = some v ↔ b = v.code :=
  twoCodes_eq_some_iff.trans (by cases v <;> simp [LifetimeScale.code])

/-! ## The record that ASSOC_SET makes (R44 checks 3 and 4, R45) -/

/-- The body's port and codes are in range and name these values (R44 check 3). -/
def AssocCodes (b : AssocSetBody) (port : PortNum) (protection : Protection) (vlan : VlanHandling)
    (trigger : TriggerPolicy) (confirm : ConfirmPolicy) (scale : LifetimeScale) : Prop :=
  b.port.toNat = port.val ∧ b.protection = protection.code ∧ b.vlan = vlan.code ∧ b.triggerPolicy = trigger.code
    ∧ b.confirmPolicy = confirm.code ∧ b.lifetimeScale = scale.code

/-- The body's marks are in range (R44 check 4). -/
def AssocMarks (b : AssocSetBody) : Prop :=
  1 ≤ b.switchMark.toNat ∧ b.switchMark.toNat < b.stopMark.toNat ∧ b.stopMark.toNat ≤ 1099511627519

/-- The record after an ASSOC_SET with these values (R45). -/
def configuredRecord (b : AssocSetBody) (port : PortNum) (protection : Protection) (vlan : VlanHandling)
    (trigger : TriggerPolicy) (confirm : ConfirmPolicy) (scale : LifetimeScale) (x : Assoc) : Assoc :=
  { x with
    state := .configured, port := port, protection := protection, vlan := vlan, label := b.label,
    firstEpoch := b.firstEpoch, switchMark := b.switchMark.toNat, stopMark := b.stopMark.toNat,
    triggerPolicy := trigger, confirmPolicy := confirm, lifetimeReload := b.lifetimeReload.toNat,
    lifetimeScale := scale, currentEpoch := b.firstEpoch, nextPn := 1, switchPending := false,
    switchDue := false, pendingKind := none, floorCurrent := 0, floorNext := 0, lifetimeRemaining := 0,
    corruptOne := if x.state = .idle then false else x.corruptOne
    corruptAll := if x.state = .idle then false else x.corruptAll }

theorem keptFlag_eq (x : Assoc) (flag : Bool) : x.keptFlag flag = if x.state = .idle then false else flag := by
  by_cases h : x.state = .idle <;> simp [Assoc.keptFlag, h]

theorem marksOk_iff {b : AssocSetBody} : marksOk b.switchMark.toNat b.stopMark.toNat = true ↔ AssocMarks b :=
  decide_eq_true_iff

/-- A body gives a record exactly if its codes and marks are in range, and then the record of R45. -/
theorem configuredOf_eq_some_iff {b : AssocSetBody} {x y : Assoc} : configuredOf b x = some y ↔
    ∃ port protection vlan trigger confirm scale, AssocCodes b port protection vlan trigger confirm scale ∧ AssocMarks b
      ∧ configuredRecord b port protection vlan trigger confirm scale x = y := by
  simp only [configuredOf, Option.bind_eq_bind, Option.bind_eq_some_iff, inRange_eq_some_iff, protection_ofCode_iff,
    vlanHandling_ofCode_iff, triggerPolicy_ofCode_iff, confirmPolicy_ofCode_iff, lifetimeScale_ofCode_iff, marksOk_iff,
    Option.guard_eq_some', Option.pure_def, Option.some.injEq, keptFlag_eq]
  constructor
  · rintro ⟨port, hport, protection, hprotection, vlan, hvlan, trigger, htrigger, confirm, hconfirm, scale, hscale, -,
      hmarks, rfl⟩
    exact ⟨port, protection, vlan, trigger, confirm, scale,
      ⟨hport, hprotection, hvlan, htrigger, hconfirm, hscale⟩, hmarks, rfl⟩
  · rintro ⟨port, protection, vlan, trigger, confirm, scale, ⟨hport, hprotection, hvlan, htrigger, hconfirm, hscale⟩,
      hmarks, rfl⟩
    exact ⟨port, hport, protection, hprotection, vlan, hvlan, trigger, htrigger, confirm, hconfirm, scale, hscale, (),
      hmarks, rfl⟩

theorem configuredOf_eq_none {b : AssocSetBody} {x : Assoc} (h : ¬AssocMarks b ∨
    ∀ port protection vlan trigger confirm scale, ¬AssocCodes b port protection vlan trigger confirm scale) :
    configuredOf b x = none := by
  rw [Option.eq_none_iff_forall_ne_some]
  intro y hy
  obtain ⟨port, protection, vlan, trigger, confirm, scale, hcodes, hmarks, -⟩ := configuredOf_eq_some_iff.mp hy
  exact h.elim (fun hbad => hbad hmarks) (fun hbad => hbad _ _ _ _ _ _ hcodes)

/-! ## The checks of R44 in their order -/

theorem nextEpochOk_iff {s : State} {a : Anum} {epoch : Byte} :
    nextEpochOk s a epoch = true ↔ ∀ k, (s.assoc a).next = some k → (s.slot k).epoch = epoch := by
  unfold nextEpochOk
  cases (s.assoc a).next <;> simp

/-- The states in which ASSOC_SET is taken pass check 2 of R44. -/
theorem settable_not_refused {x : AssocState} (h : x = .idle ∨ x = .configured) : ¬(x ≠ .idle ∧ x ≠ .configured) := by
  tauto

section AssocSet

variable {tag : Byte} {b : AssocSetBody} {s : State} {a : Anum}

theorem serveAssocSet_noAnum (h : 64 ≤ b.anum.toNat) : serveAssocSet b s = refuse .badValue s := by
  simp only [serveAssocSet, inRange_eq_none h]

theorem serveAssocSet_state (ha : b.anum.toNat = a.val)
    (hstate : (s.assoc a).state ≠ .idle ∧ (s.assoc a).state ≠ .configured) : serveAssocSet b s = refuse .state s := by
  simp only [serveAssocSet, inRange_eq_some_iff.mpr ha, if_pos hstate]

theorem serveAssocSet_badBody (ha : b.anum.toNat = a.val)
    (hstate : (s.assoc a).state = .idle ∨ (s.assoc a).state = .configured)
    (hbody : configuredOf b (s.assoc a) = none) : serveAssocSet b s = refuse .badValue s := by
  simp only [serveAssocSet, inRange_eq_some_iff.mpr ha, if_neg (settable_not_refused hstate), hbody]

theorem serveAssocSet_nextPresent {x : Assoc} {k : SlotNum} (ha : b.anum.toNat = a.val)
    (hstate : (s.assoc a).state = .idle ∨ (s.assoc a).state = .configured)
    (hbody : configuredOf b (s.assoc a) = some x) (hk : (s.assoc a).next = some k)
    (hepoch : (s.slot k).epoch ≠ b.firstEpoch) : serveAssocSet b s = refuse .nextPresent s := by
  have hcheck : ¬nextEpochOk s a b.firstEpoch = true := fun h => hepoch (nextEpochOk_iff.mp h k hk)
  simp only [serveAssocSet, inRange_eq_some_iff.mpr ha, if_neg (settable_not_refused hstate), hbody, if_neg hcheck]

theorem serveAssocSet_done {x : Assoc} (ha : b.anum.toNat = a.val)
    (hstate : (s.assoc a).state = .idle ∨ (s.assoc a).state = .configured)
    (hbody : configuredOf b (s.assoc a) = some x)
    (hepoch : ∀ k, (s.assoc a).next = some k → (s.slot k).epoch = b.firstEpoch) :
    serveAssocSet b s = done [] (s.updAssoc a fun _ => x) := by
  simp only [serveAssocSet, inRange_eq_some_iff.mpr ha, if_neg (settable_not_refused hstate), hbody,
    if_pos (nextEpochOk_iff.mpr hepoch)]

/-! ## The command -/

theorem exec_assocSet_refused {status : Status} (h : TakesRequests s)
    (hserve : serveAssocSet b (counted s) = refuse status (counted s)) (hstatus : status ≠ .ok) :
    exec (.assocSet tag b) s = .next (owingRefusal 0x8C tag status.code (counted s)) :=
  requestArrives_refused (kind := .assocSet) h (by simp [RequestKind.bodyRange]) hserve hstatus

theorem exec_assocSet_done {t : State} (h : TakesRequests s) (hserve : serveAssocSet b (counted s) = done [] t) :
    exec (.assocSet tag b) s = .next (owingOk 0x8C tag [] t) :=
  requestArrives_done (kind := .assocSet) h (by simp [RequestKind.bodyRange]) hserve

end AssocSet

/-- Settles O43: the checks of R44 one after another, and the record of R45 once they pass. -/
theorem assocSetConfigures : Obligations.AssocSetConfigures := by
  unfold Obligations.AssocSetConfigures
  intro tag b s htakes
  refine ⟨fun h => exec_assocSet_refused htakes (serveAssocSet_noAnum h) (by decide), ?_⟩
  intro a ha x marks codes
  refine ⟨fun hidle hconfigured => ?state, fun hstate hbad => ?badBody,
    fun port protection vlan trigger confirm scale hstate hmarks hcodes => ?good⟩
  case state => exact exec_assocSet_refused htakes (serveAssocSet_state ha ⟨hidle, hconfigured⟩) (by decide)
  case badBody =>
    exact exec_assocSet_refused htakes (serveAssocSet_badBody ha hstate (configuredOf_eq_none hbad)) (by decide)
  case good =>
    have hbody : configuredOf b x = some (configuredRecord b port protection vlan trigger confirm scale x) :=
      configuredOf_eq_some_iff.mpr ⟨port, protection, vlan, trigger, confirm, scale, hcodes, hmarks, rfl⟩
    exact ⟨fun k hk hepoch =>
        exec_assocSet_refused htakes (serveAssocSet_nextPresent ha hstate hbody hk hepoch) (by decide),
      fun hepoch => exec_assocSet_done htakes (serveAssocSet_done ha hstate hbody hepoch)⟩

end Sys2Proof.Proofs
end

section
/-! SUPPORT. How a switch begins (R131 to R133): the exchange of R136, the cut-over of R137 and R157 with everything that it
touches, and the events it raises. -/

namespace Sys2Proof.Proofs

open Sys2Proof Sys2Proof.Machine

/-! ## Updates of one association after another -/

theorem updAssoc_updAssoc (s : State) (a : Anum) (f g : Assoc → Assoc) :
    (s.updAssoc a f).updAssoc a g = s.updAssoc a fun x => g (f x) := by
  simp [State.updAssoc, updRow, row, setRow]

/-! ## Events in the list (R174, R175) -/

section Events

variable {kind : EventKind} {source : EventSource} {detail : BitVec 16} {s : State}

/-- With every kind unmasked and room in the list, an event that is raised stands in it. -/
theorem listed_raiseEvent (hmask : s.eventMask = BitVec.allOnes 21) (hroom : s.events.length < 64) :
    Listed kind source (raiseEvent kind source detail s) := by
  have hbit : s.eventMask.getLsbD kind.code = true := by rw [hmask]; cases kind <;> rfl
  obtain ⟨hmasked, -⟩ | ⟨-, ⟨e, he, hsame⟩, h⟩ | ⟨-, -, -, h⟩ | ⟨-, -, hfull, -⟩ :=
    raiseEvent_cases kind source detail s
  · simp [hbit] at hmasked
  · rw [h]
    exact ⟨e.merged kind source, List.mem_map_of_mem he, by unfold Event.merged; split <;> exact hsame⟩
  · rw [h]
    exact ⟨_, List.mem_append_right _ (List.mem_singleton_self _), rfl, rfl⟩
  · omega

/-- An event that stands in the list stays when another is raised. -/
theorem listed_raiseEvent_of_listed {kind' : EventKind} {source' : EventSource} (hlisted : Listed kind' source' s) :
    Listed kind' source' (raiseEvent kind source detail s) := by
  obtain ⟨e, he, hsame⟩ := hlisted
  obtain ⟨-, h⟩ | ⟨-, -, h⟩ | ⟨-, -, -, h⟩ | ⟨-, -, -, h⟩ := raiseEvent_cases kind source detail s <;> rw [h]
  · exact ⟨e, he, hsame⟩
  · exact ⟨e.merged kind source, List.mem_map_of_mem he, by unfold Event.merged; split <;> exact hsame⟩
  · exact ⟨e, List.mem_append_left _ he, hsame⟩
  · exact ⟨e, he, hsame⟩

theorem length_events_raiseEvent : (raiseEvent kind source detail s).events.length ≤ s.events.length + 1 := by
  obtain ⟨-, h⟩ | ⟨-, -, h⟩ | ⟨-, -, -, h⟩ | ⟨-, -, -, h⟩ := raiseEvent_cases kind source detail s <;> rw [h] <;> simp

end Events

/-! ## Withdrawn verifications (R90) -/

/-- The withdrawal of verifications touches reply inboxes, port counters, the verification queue and the lanes alone. -/
def VerifyFrame (s t : State) : Prop :=
  (∀ p, ∃ inbox counters, t.port p = { s.port p with inbox := inbox, counters := counters })
    ∧ ∃ ports verify lanes, t = { s with ports := ports, verifyQueue := verify, lanes := lanes }

theorem VerifyFrame.trans {s t u : State} (h : VerifyFrame s t) (g : VerifyFrame t u) : VerifyFrame s u := by
  obtain ⟨hport, _, _, _, rfl⟩ := h
  obtain ⟨gport, _, _, _, rfl⟩ := g
  refine ⟨fun p => ?_, _, _, _, rfl⟩
  obtain ⟨_, _, hp⟩ := hport p
  obtain ⟨inbox, counters, gp⟩ := gport p
  exact ⟨inbox, counters, by rw [gp, hp]⟩

theorem failCaptured_verifyFrame (p : PortNum) (place : Fin 4) (c : PortCounter) (s : State) :
    VerifyFrame s (failCaptured p place c s) := by
  refine ⟨fun q => ?_, _, _, _, rfl⟩
  simp only [failCaptured, bumpPort, leaveInbox, State.port_updPort]
  by_cases h : p = q
  · subst h
    simp only [if_true]
    exact ⟨_, _, rfl⟩
  · simp only [if_neg h]
    exact ⟨_, _, rfl⟩

theorem withdrawVerifies_verifyFrame (a : Anum) (s : State) : VerifyFrame s (withdrawVerifies a s) :=
  foldl_keeps (VerifyFrame s) _ (fun _ _ h => h.trans (failCaptured_verifyFrame ..)) _ _
    ⟨fun _ => ⟨_, _, rfl⟩, _, _, _, rfl⟩

@[simp] theorem assoc_withdrawVerifies (a b : Anum) (s : State) : (withdrawVerifies a s).assoc b = s.assoc b := by
  obtain ⟨-, _, _, _, h⟩ := withdrawVerifies_verifyFrame a s
  rw [h]
  rfl

@[simp] theorem slot_withdrawVerifies (a : Anum) (k : SlotNum) (s : State) :
    (withdrawVerifies a s).slot k = s.slot k := by
  obtain ⟨-, _, _, _, h⟩ := withdrawVerifies_verifyFrame a s
  rw [h]
  rfl

@[simp] theorem events_withdrawVerifies (a : Anum) (s : State) : (withdrawVerifies a s).events = s.events := by
  obtain ⟨-, _, _, _, h⟩ := withdrawVerifies_verifyFrame a s
  rw [h]

/-! ## A slot that leaves service (R77) -/

theorem slot_retireSlot_self (k : SlotNum) (s : State) : (retireSlot k s).slot k = Slot.empty := by
  simp [retireSlot]

theorem slot_retireSlot_ne (s : State) {k j : SlotNum} (h : k ≠ j) : (retireSlot k s).slot j = s.slot j := by
  simp [retireSlot, slot_emptySlot_ne s h]

/-- The outgoing slot of an association, if it has one, leaves service. -/
def outgoingLeaves : Option SlotNum → State → State
  | some j, s => leaveService j s
  | none, s => s

theorem outgoingLeaves_slotFrame (o : Option SlotNum) (s : State) : SlotFrame s (outgoingLeaves o s) :=
  match o with
  | some j => leaveService_slotFrame j s
  | none => .refl s

@[simp] theorem assoc_outgoingLeaves (o : Option SlotNum) (s : State) (b : Anum) :
    (outgoingLeaves o s).assoc b = s.assoc b := by
  obtain ⟨_, _, _, _, _, h⟩ := outgoingLeaves_slotFrame o s
  rw [h]
  rfl

@[simp] theorem port_outgoingLeaves (o : Option SlotNum) (s : State) (p : PortNum) :
    (outgoingLeaves o s).port p = s.port p := by
  obtain ⟨_, _, _, _, _, h⟩ := outgoingLeaves_slotFrame o s
  rw [h]
  rfl

@[simp] theorem eventMask_outgoingLeaves (o : Option SlotNum) (s : State) :
    (outgoingLeaves o s).eventMask = s.eventMask := by
  obtain ⟨_, _, _, _, _, h⟩ := outgoingLeaves_slotFrame o s
  rw [h]

theorem slot_outgoingLeaves_self (j : SlotNum) (s : State) :
    (outgoingLeaves (some j) s).slot j = (s.slot j).outgoing := by
  obtain ⟨hzero, h⟩ | ⟨hcount, h⟩ := leaveService_cases j s
  · rw [outgoingLeaves, h, slot_retireSlot_self, Slot.outgoing, if_pos hzero]
  · rw [outgoingLeaves, h, State.slot_updSlot_self, Slot.outgoing, if_neg hcount]

theorem slot_outgoingLeaves_ne {o : Option SlotNum} {j : SlotNum} (s : State) (h : o ≠ some j) :
    (outgoingLeaves o s).slot j = s.slot j := by
  cases o with
  | none => rfl
  | some i =>
    have hij : i ≠ j := fun hij => h (congrArg some hij)
    obtain ⟨-, h⟩ | ⟨-, h⟩ := leaveService_cases i s
    · rw [outgoingLeaves, h, slot_retireSlot_ne s hij]
    · rw [outgoingLeaves, h, State.slot_updSlot_ne _ _ hij]

theorem length_events_outgoingLeaves (o : Option SlotNum) (s : State) :
    (outgoingLeaves o s).events.length ≤ s.events.length + 1 := by
  cases o with
  | none => exact Nat.le_succ _
  | some j =>
    obtain ⟨-, h⟩ | ⟨-, h⟩ := leaveService_cases j s <;> rw [outgoingLeaves, h]
    · exact length_events_raiseEvent
    · exact Nat.le_succ _

/-- A slot that leaves service with no entry against it raises KEY_RETIRED (R77). -/
theorem listed_outgoingLeaves {j : SlotNum} {s : State} (hcount : (s.slot j).inFlight = 0)
    (hmask : s.eventMask = BitVec.allOnes 21) (hroom : s.events.length < 64) :
    Listed .keyRetired (.slot j) (outgoingLeaves (some j) s) := by
  rw [outgoingLeaves, leaveService, if_pos hcount]
  exact listed_raiseEvent hmask hroom

/-! ## The cut-over (R157) -/

section CutOver

variable {a b : Anum} {k : SlotNum} {s : State}

/-- The cut-over before the withdrawal of verifications and the event: the next slot is in service, the outgoing one leaves,
and the switch is counted. -/
def switchedOver (a : Anum) (k : SlotNum) (s : State) : State :=
  bumpAssoc a .switchesDone 1 (outgoingLeaves (s.assoc a).current
    ((s.updSlot k fun x => { x with state := .active }).updAssoc a (Assoc.cutOverTo k (s.slot k).epoch)))

theorem cutOver_eq (hk : (s.assoc a).next = some k) : cutOver a s = withdrawVerifies a
    (raiseEvent .switchDone (.assoc a) ((s.slot k).epoch.setWidth 16) (switchedOver a k s)) := by
  cases ho : (s.assoc a).current <;> simp only [cutOver, hk, ho, switchedOver, outgoingLeaves]

theorem assoc_cutOver_self (hk : (s.assoc a).next = some k) :
    (cutOver a s).assoc a = ((s.assoc a).switched k (s.slot k).epoch).withSwitchDone := by
  simp only [cutOver_eq hk, assoc_withdrawVerifies, State.assoc_raiseEvent, switchedOver, bumpAssoc,
    State.assoc_updAssoc_self, assoc_outgoingLeaves, State.assoc_updSlot]
  rfl

theorem assoc_cutOver_ne (hk : (s.assoc a).next = some k) (h : b ≠ a) : (cutOver a s).assoc b = s.assoc b := by
  simp only [cutOver_eq hk, assoc_withdrawVerifies, State.assoc_raiseEvent, switchedOver, bumpAssoc,
    State.assoc_updAssoc_ne _ _ h.symm, assoc_outgoingLeaves, State.assoc_updSlot]

theorem corruptOne_cutOver (hk : (s.assoc a).next = some k) (c : Anum) :
    ((cutOver a s).assoc c).corruptOne = (s.assoc c).corruptOne := by
  by_cases h : c = a
  · rw [h, assoc_cutOver_self hk]
    rfl
  · rw [assoc_cutOver_ne hk h]

theorem slot_cutOver (hk : (s.assoc a).next = some k) (j : SlotNum) : (cutOver a s).slot j =
    (outgoingLeaves (s.assoc a).current
      ((s.updSlot k fun x => { x with state := .active }).updAssoc a (Assoc.cutOverTo k (s.slot k).epoch))).slot j := by
  simp only [cutOver_eq hk, slot_withdrawVerifies, State.slot_raiseEvent, switchedOver, State.slot_bumpAssoc]

theorem slot_cutOver_next (hk : (s.assoc a).next = some k) (hcurrent : (s.assoc a).current ≠ some k) :
    (cutOver a s).slot k = { s.slot k with state := .active } := by
  rw [slot_cutOver hk, slot_outgoingLeaves_ne _ hcurrent, State.slot_updAssoc, State.slot_updSlot_self]

theorem slot_cutOver_current {j : SlotNum} (hk : (s.assoc a).next = some k) (hj : (s.assoc a).current = some j)
    (h : j ≠ k) : (cutOver a s).slot j = (s.slot j).outgoing := by
  rw [slot_cutOver hk, hj, slot_outgoingLeaves_self, State.slot_updAssoc, State.slot_updSlot_ne _ _ h.symm]

theorem slot_cutOver_other {j : SlotNum} (hk : (s.assoc a).next = some k) (hj : (s.assoc a).current ≠ some j)
    (h : j ≠ k) : (cutOver a s).slot j = s.slot j := by
  rw [slot_cutOver hk, slot_outgoingLeaves_ne _ hj, State.slot_updAssoc, State.slot_updSlot_ne _ _ h.symm]

/-- A cut-over leaves of a port everything but what the withdrawal of verifications touches. -/
theorem port_cutOver (hk : (s.assoc a).next = some k) (p : PortNum) :
    ∃ inbox counters, (cutOver a s).port p = { s.port p with inbox := inbox, counters := counters } := by
  obtain ⟨hport, -⟩ := withdrawVerifies_verifyFrame a
    (raiseEvent .switchDone (.assoc a) ((s.slot k).epoch.setWidth 16) (switchedOver a k s))
  obtain ⟨inbox, counters, h⟩ := hport p
  refine ⟨inbox, counters, ?_⟩
  rw [cutOver_eq hk, h]
  simp only [State.port_raiseEvent, switchedOver, State.port_bumpAssoc, port_outgoingLeaves, State.port_updAssoc,
    State.port_updSlot]

theorem listed_cutOver {kind : EventKind} {source : EventSource} (hk : (s.assoc a).next = some k)
    (h : Listed kind source (raiseEvent .switchDone (.assoc a) ((s.slot k).epoch.setWidth 16) (switchedOver a k s))) :
    Listed kind source (cutOver a s) := by
  unfold Listed
  rw [cutOver_eq hk, events_withdrawVerifies]
  exact h

theorem listed_switchDone_cutOver (hk : (s.assoc a).next = some k) (hopen : EventsOpen s) :
    Listed .switchDone (.assoc a) (cutOver a s) := by
  obtain ⟨hmask, hroom⟩ := hopen
  refine listed_cutOver hk (listed_raiseEvent ?mask ?room)
  case mask => simpa [switchedOver] using hmask
  case room =>
    have hlength : (switchedOver a k s).events.length ≤ s.events.length + 1 := length_events_outgoingLeaves ..
    omega

theorem listed_keyRetired_cutOver {j : SlotNum} (hk : (s.assoc a).next = some k) (hj : (s.assoc a).current = some j)
    (h : j ≠ k) (hcount : (s.slot j).inFlight = 0) (hopen : EventsOpen s) :
    Listed .keyRetired (.slot j) (cutOver a s) := by
  obtain ⟨hmask, hroom⟩ := hopen
  refine listed_cutOver hk (listed_raiseEvent_of_listed ?_)
  rw [switchedOver, hj]
  refine listed_outgoingLeaves ?_ hmask (Nat.lt_of_lt_of_le hroom (by decide))
  rw [State.slot_updAssoc, State.slot_updSlot_ne _ _ h.symm, hcount]

/-- The cut-over of an association whose flags have been cleared is that of a switch's beginning (R133, R137). -/
theorem cutOver_unflagged (hk : (s.assoc a).next = some k) (hcurrent : (s.assoc a).current ≠ some k) :
    CutOver a k s (cutOver a (s.updAssoc a Assoc.unflagged)) := by
  have hassoc : (s.updAssoc a Assoc.unflagged).assoc a = (s.assoc a).unflagged := State.assoc_updAssoc_self ..
  have hk' : ((s.updAssoc a Assoc.unflagged).assoc a).next = some k := by rw [hassoc]; exact hk
  have current (o : Option SlotNum) :
      ((s.updAssoc a Assoc.unflagged).assoc a).current = o ↔ (s.assoc a).current = o := by rw [hassoc]; rfl
  have ne_next {j : SlotNum} (hj : (s.assoc a).current = some j) : j ≠ k := by
    rintro rfl
    exact hcurrent hj
  refine ⟨?record, fun b hb => ?others, ?next, fun j hj => ⟨?outgoing, fun hcount hopen => ?keyRetired⟩,
    fun j hjk hj => ?slots, fun hopen => ?switchDone, fun p => ?controlQueue⟩
  case record => rw [assoc_cutOver_self hk', hassoc, State.slot_updAssoc]
  case others => rw [assoc_cutOver_ne hk' hb, State.assoc_updAssoc_ne _ _ hb.symm]
  case next => rw [slot_cutOver_next hk' (mt (current _).mp hcurrent), State.slot_updAssoc]
  case outgoing => rw [slot_cutOver_current hk' ((current _).mpr hj) (ne_next hj), State.slot_updAssoc]
  case keyRetired => exact listed_keyRetired_cutOver hk' ((current _).mpr hj) (ne_next hj) hcount hopen
  case slots => rw [slot_cutOver_other hk' (mt (current _).mp hj) hjk, State.slot_updAssoc]
  case switchDone => exact listed_switchDone_cutOver hk' hopen
  case controlQueue =>
    obtain ⟨inbox, counters, h⟩ := port_cutOver hk' p
    rw [h, State.port_updAssoc]

end CutOver

/-! ## Whether and how a switch begins (R131 to R133) -/

section Begin

variable {a : Anum} {s : State}

theorem canStart_iff :
    s.canStart a = true ↔ SwitchCanStart s a (s.port (s.assoc a).port).mode s.inhibit := by
  have hinhibit : s.inhibited = false ↔ s.inhibit = .released := by
    cases h : s.inhibit <;> simp [State.inhibited, h]
  simp [State.canStart, SwitchCanStart, hinhibit, and_assoc]

theorem beginSwitch_confirmed (h : (s.assoc a).confirmPolicy = .confirmed) : beginSwitch a s =
    (s.updAssoc a (Assoc.announced (s.port (s.assoc a).port).firstStep)).updPort (s.assoc a).port fun y =>
      { y with controlQueue := y.controlQueue ++ [a] } := by
  simp only [beginSwitch, h, joinControlQueue, updAssoc_updAssoc, State.assoc_updAssoc_self]
  rfl

theorem beginSwitch_unilateral (h : (s.assoc a).confirmPolicy = .unilateral) :
    beginSwitch a s = cutOver a (s.updAssoc a Assoc.unflagged) := by
  simp only [beginSwitch, h]
  rfl

theorem beginIfPending_starts (hauto : (s.assoc a).triggerPolicy = .auto) (hpending : (s.assoc a).switchPending = true)
    (hstart : SwitchCanStart s a (s.port (s.assoc a).port).mode s.inhibit) : beginIfPending s a = beginSwitch a s :=
  if_pos ⟨hauto, hpending, canStart_iff.mpr hstart⟩

theorem beginIfPending_stays (h : (s.assoc a).triggerPolicy = .manual ∨ (s.assoc a).switchPending = false
      ∨ ¬SwitchCanStart s a (s.port (s.assoc a).port).mode s.inhibit) : beginIfPending s a = s := by
  refine if_neg fun ⟨hauto, hpending, hstart⟩ => ?_
  rcases h with hmanual | hclear | hblocked
  · simp [hauto] at hmanual
  · simp [hpending] at hclear
  · exact hblocked (canStart_iff.mp hstart)

end Begin

end Sys2Proof.Proofs
end

section
/-! SUPPORT. ASSOC_START (R46), ASSOC_SUSPEND (R47) and ASSOC_RESUME (R48): what each does in every case (O44). -/

namespace Sys2Proof.Proofs

open Sys2Proof Sys2Proof.Machine

theorem next_not_ready {s : State} {a : Anum} (h : s.nextReady a = false) {k : SlotNum}
    (hk : (s.assoc a).next = some k) : (s.slot k).state ≠ .ready := by
  simpa [State.nextReady, hk] using h

/-! ## The requests in RUNNING, case by case -/

section Serve

variable {b : Byte} {a : Anum} {s : State}

theorem serveAssocStart_noAnum (h : 64 ≤ b.toNat) : serveAssocStart b s = refuse .badValue s := by
  simp only [serveAssocStart, inRange_eq_none h]

theorem serveAssocStart_state (ha : b.toNat = a.val) (hstate : (s.assoc a).state ≠ .configured) :
    serveAssocStart b s = refuse .state s := by
  simp only [serveAssocStart, inRange_eq_some_iff.mpr ha, if_pos hstate]

theorem serveAssocStart_noKey (ha : b.toNat = a.val) (hstate : (s.assoc a).state = .configured)
    (hready : s.nextReady a = false) : serveAssocStart b s = refuse .noKey s := by
  simp only [serveAssocStart, inRange_eq_some_iff.mpr ha, if_neg (not_not.mpr hstate)]
  cases hk : (s.assoc a).next with
  | none => rfl
  | some k => exact if_pos (next_not_ready hready hk)

theorem serveAssocStart_done {k : SlotNum} (ha : b.toNat = a.val) (hstate : (s.assoc a).state = .configured)
    (hk : (s.assoc a).next = some k) (hready : (s.slot k).state = .ready) :
    serveAssocStart b s = done [(s.slot k).epoch]
      ((s.updSlot k fun x => { x with state := .active }).updAssoc a (Assoc.started k (s.slot k).epoch)) := by
  simp only [serveAssocStart, inRange_eq_some_iff.mpr ha, if_neg (not_not.mpr hstate), hk, if_neg (not_not.mpr hready)]

theorem serveAssocSuspend_noAnum (h : 64 ≤ b.toNat) : serveAssocSuspend b s = refuse .badValue s := by
  simp only [serveAssocSuspend, inRange_eq_none h]

theorem serveAssocSuspend_state (ha : b.toNat = a.val) (hstate : (s.assoc a).state ≠ .running) :
    serveAssocSuspend b s = refuse .state s := by
  simp only [serveAssocSuspend, inRange_eq_some_iff.mpr ha, if_neg hstate]

theorem serveAssocSuspend_done (ha : b.toNat = a.val) (hstate : (s.assoc a).state = .running) :
    serveAssocSuspend b s = done [] (s.updAssoc a fun x => { x with state := .suspended }) := by
  simp only [serveAssocSuspend, inRange_eq_some_iff.mpr ha, if_pos hstate]

theorem serveAssocResume_noAnum (h : 64 ≤ b.toNat) : serveAssocResume b s = refuse .badValue s := by
  simp only [serveAssocResume, inRange_eq_none h]

theorem serveAssocResume_state (ha : b.toNat = a.val) (hstate : (s.assoc a).state ≠ .suspended) :
    serveAssocResume b s = refuse .state s := by
  simp only [serveAssocResume, inRange_eq_some_iff.mpr ha, if_neg hstate]

theorem serveAssocResume_done (ha : b.toNat = a.val) (hstate : (s.assoc a).state = .suspended) :
    serveAssocResume b s = done [] (beginIfPending (s.updAssoc a fun x => { x with state := .running }) a) := by
  simp only [serveAssocResume, inRange_eq_some_iff.mpr ha, if_pos hstate]

end Serve

/-! ## The commands -/

section Exec

variable {tag b : Byte} {status : Status} {fields : Bytes} {s t : State}

theorem exec_assocStart_refused (h : TakesRequests s)
    (hserve : serveAssocStart b (counted s) = refuse status (counted s)) (hstatus : status ≠ .ok) :
    exec (.assocStart tag b) s = .next (owingRefusal 0x8D tag status.code (counted s)) :=
  requestArrives_refused (kind := .assocStart) h (by decide) hserve hstatus

theorem exec_assocStart_done (h : TakesRequests s) (hserve : serveAssocStart b (counted s) = done fields t) :
    exec (.assocStart tag b) s = .next (owingOk 0x8D tag fields t) :=
  requestArrives_done (kind := .assocStart) h (by decide) hserve

theorem exec_assocSuspend_refused (h : TakesRequests s)
    (hserve : serveAssocSuspend b (counted s) = refuse status (counted s)) (hstatus : status ≠ .ok) :
    exec (.assocSuspend tag b) s = .next (owingRefusal 0x8E tag status.code (counted s)) :=
  requestArrives_refused (kind := .assocSuspend) h (by decide) hserve hstatus

theorem exec_assocSuspend_done (h : TakesRequests s) (hserve : serveAssocSuspend b (counted s) = done fields t) :
    exec (.assocSuspend tag b) s = .next (owingOk 0x8E tag fields t) :=
  requestArrives_done (kind := .assocSuspend) h (by decide) hserve

theorem exec_assocResume_refused (h : TakesRequests s)
    (hserve : serveAssocResume b (counted s) = refuse status (counted s)) (hstatus : status ≠ .ok) :
    exec (.assocResume tag b) s = .next (owingRefusal 0x8F tag status.code (counted s)) :=
  requestArrives_refused (kind := .assocResume) h (by decide) hserve hstatus

theorem exec_assocResume_done (h : TakesRequests s) (hserve : serveAssocResume b (counted s) = done fields t) :
    exec (.assocResume tag b) s = .next (owingOk 0x8F tag fields t) :=
  requestArrives_done (kind := .assocResume) h (by decide) hserve

end Exec

/-! ## A resumed association -/

/-- The part with a counted ASSOC_RESUME and its association RUNNING again (R48). -/
def resumedState (a : Anum) (s : State) : State := (counted s).updAssoc a fun y => { y with state := .running }

section Resume

variable {tag b : Byte} {a : Anum} {s : State}

@[simp] theorem assoc_resumedState_self : (resumedState a s).assoc a = { s.assoc a with state := .running } :=
  State.assoc_updAssoc_self ..

@[simp] theorem port_resumedState (p : PortNum) : (resumedState a s).port p = s.port p := rfl

/-- ASSOC_RESUME of a SUSPENDED association is answered OK, after the switch held pending has begun if it can. -/
theorem exec_assocResume_suspended (htakes : TakesRequests s) (ha : b.toNat = a.val)
    (hstate : (s.assoc a).state = .suspended) :
    exec (.assocResume tag b) s = .next (owingOk 0x8F tag [] (beginIfPending (resumedState a s) a)) :=
  exec_assocResume_done htakes (serveAssocResume_done ha hstate)

/-- What a resumed association's switch needs to start, read from the state before (R131). -/
theorem switchCanStart_resumedState (hready : s.nextReady a = true) (hattempt : (s.assoc a).attempt = none)
    {mode : PortMode} (hmode : mode = .protect) {inhibit : InhibitState} (hinhibit : inhibit = .released) :
    SwitchCanStart (resumedState a s) a mode inhibit := by
  refine ⟨.inl ?_, ?_, ?_, .inr ⟨hmode, hinhibit⟩⟩
  · rw [assoc_resumedState_self]
  · rw [assoc_resumedState_self]; exact hattempt
  · rw [← hready]
    simp only [State.nextReady, assoc_resumedState_self]
    rfl

/-- A switch that the resumption leaves as it was: none pending, under MANUAL, or one that cannot start (R48, R131). -/
theorem assocResume_noSwitch (htakes : TakesRequests s) (ha : b.toNat = a.val)
    (hstate : (s.assoc a).state = .suspended)
    (h : (s.assoc a).triggerPolicy = .manual ∨ (s.assoc a).switchPending = false
      ∨ ¬SwitchCanStart (resumedState a s) a (s.port (s.assoc a).port).mode s.inhibit) :
    exec (.assocResume tag b) s = .next (owingOk 0x8F tag [] (resumedState a s)) := by
  rw [exec_assocResume_suspended htakes ha hstate, beginIfPending_stays]
  rw [assoc_resumedState_self]
  exact h

/-- A switch held pending under AUTO that can start begins with the resumption (R48, R132). -/
theorem assocResume_begins (htakes : TakesRequests s) (ha : b.toNat = a.val)
    (hstate : (s.assoc a).state = .suspended) (hauto : (s.assoc a).triggerPolicy = .auto)
    (hpending : (s.assoc a).switchPending = true)
    (hstart : SwitchCanStart (resumedState a s) a (s.port (s.assoc a).port).mode s.inhibit) :
    exec (.assocResume tag b) s = .next (owingOk 0x8F tag [] (beginSwitch a (resumedState a s))) := by
  rw [exec_assocResume_suspended htakes ha hstate, beginIfPending_starts] <;> rw [assoc_resumedState_self]
  · exact hauto
  · exact hpending
  · exact hstart

/-- Under CONFIRMED the switch of a resumed association begins with attempt 1 QUEUED (R136). -/
theorem beginSwitch_resumed_confirmed (hconfirmed : (s.assoc a).confirmPolicy = .confirmed) :
    beginSwitch a (resumedState a s) =
      ((counted s).updAssoc a fun y =>
          Assoc.announced (s.port (s.assoc a).port).firstStep { y with state := .running }).updPort
        (s.assoc a).port fun y => { y with controlQueue := y.controlQueue ++ [a] } := by
  rw [beginSwitch_confirmed (by rw [assoc_resumedState_self]; exact hconfirmed), assoc_resumedState_self]
  simp only [port_resumedState]
  rw [resumedState, updAssoc_updAssoc]

/-- Under UNILATERAL the switch of a resumed association is a cut-over, which leaves corrupt-one, the transform sequences and
the class queues as they were (R137, R157). -/
theorem beginSwitch_resumed_unilateral {k : SlotNum} (hunilateral : (s.assoc a).confirmPolicy = .unilateral)
    (hk : (s.assoc a).next = some k) (hcurrent : (s.assoc a).current ≠ some k) :
    let t := beginSwitch a (resumedState a s)
    CutOver a k (resumedState a s) t ∧ (∀ c, (t.assoc c).corruptOne = (s.assoc c).corruptOne)
      ∧ ∀ p, (t.port p).sequence = (s.port p).sequence ∧ (t.port p).queues = (s.port p).queues := by
  have hnext : ((resumedState a s).assoc a).next = some k := by rw [assoc_resumedState_self]; exact hk
  have hnext' : (((resumedState a s).updAssoc a Assoc.unflagged).assoc a).next = some k := by
    rw [State.assoc_updAssoc_self]; exact hnext
  rw [beginSwitch_unilateral (by rw [assoc_resumedState_self]; exact hunilateral)]
  refine ⟨cutOver_unflagged hnext (by rw [assoc_resumedState_self]; exact hcurrent), fun c => ?_, fun p => ?_⟩
  · rw [corruptOne_cutOver hnext', resumedState, updAssoc_updAssoc]
    by_cases h : a = c
    · rw [← h, State.assoc_updAssoc_self]
      rfl
    · rw [State.assoc_updAssoc_ne _ _ h]
      rfl
  · obtain ⟨inbox, counters, h⟩ := port_cutOver hnext' p
    rw [h]
    exact ⟨rfl, rfl⟩

end Resume

/-- Settles O44: each request is refused by its checks in order, and ASSOC_RESUME hands a pending switch to R132. -/
theorem assocStartsSuspendsAndResumes : Obligations.AssocStartsSuspendsAndResumes := by
  unfold Obligations.AssocStartsSuspendsAndResumes
  refine ⟨fun tag b s htakes h => ⟨exec_assocStart_refused htakes (serveAssocStart_noAnum h) (by decide),
    exec_assocSuspend_refused htakes (serveAssocSuspend_noAnum h) (by decide),
    exec_assocResume_refused htakes (serveAssocResume_noAnum h) (by decide)⟩, ?_⟩
  intro tag b a s htakes ha x resumed
  refine ⟨fun hstate => ?startState, fun hstate hready => ?startNoKey, fun k hstate hk hready => ?start,
    fun hstate => ?suspend, fun hstate => ?suspendState, fun hstate => ?resumeState, fun hstate h => ?resumeOnly,
    fun hstate hauto hpending hconfirmed hready hattempt hmode hinhibit => ?resumeConfirmed,
    fun k hstate hauto hpending hunilateral hstart hk hcurrent => ?resumeUnilateral⟩
  case startState => exact exec_assocStart_refused htakes (serveAssocStart_state ha hstate) (by decide)
  case startNoKey => exact exec_assocStart_refused htakes (serveAssocStart_noKey ha hstate hready) (by decide)
  case start => exact exec_assocStart_done htakes (serveAssocStart_done ha hstate hk hready)
  case suspend => exact exec_assocSuspend_done htakes (serveAssocSuspend_done ha hstate)
  case suspendState => exact exec_assocSuspend_refused htakes (serveAssocSuspend_state ha hstate) (by decide)
  case resumeState => exact exec_assocResume_refused htakes (serveAssocResume_state ha hstate) (by decide)
  case resumeOnly => exact assocResume_noSwitch htakes ha hstate h
  case resumeConfirmed =>
    rw [assocResume_begins htakes ha hstate hauto hpending
      (switchCanStart_resumedState hready hattempt hmode hinhibit), beginSwitch_resumed_confirmed hconfirmed]
  case resumeUnilateral =>
    exact ⟨_, assocResume_begins htakes ha hstate hauto hpending hstart, rfl,
      beginSwitch_resumed_unilateral hunilateral hk hcurrent⟩

end Sys2Proof.Proofs
end

section
/-! SUPPORT. What coherence reads of one association: its record, its places in the control queues, and the slots in its
service (R42, R66, R140). Coherence is a property of these views one by one, so an operation that changes no view keeps it, and
one that moves a single association has that association's view alone to answer for. -/

namespace Sys2Proof.Proofs

open Sys2Proof Sys2Proof.Machine

/-! ## The view of an association -/

/-- The state of a slot in the service of an association: LOADED, READY or ACTIVE, and owned by it (R63, R66). -/
def heldAs (a : Anum) (x : Slot) : Option SlotState :=
  if x.owner = some a ∧ (x.state = .loaded ∨ x.state = .ready ∨ x.state = .active) then some x.state else none

/-- A record without the fields that no rule of coherence names. -/
def bare (x : Assoc) : Assoc :=
  { x with
    switchDue := false, corruptOne := false, corruptAll := false, lifetimeRemaining := 0, floorCurrent := 0, floorNext := 0
    counters := Vector.replicate 8 0 }

/-- The record asks for a place in the control queue of a port: its attempt is QUEUED (R140). -/
def waitsOn (x : Assoc) (p : PortNum) : Prop :=
  x.port = p ∧ (x.attempt.any fun t => t.status == .queued) = true

/-- What coherence reads of an association. -/
structure View where
  record : Assoc
  /-- its places in the control queue of each port -/
  places : PortNum → Nat
  held : SlotNum → Option SlotState

def view (s : State) (a : Anum) : View :=
  { record := bare (s.assoc a), places := fun p => (s.port p).controlQueue.count a, held := fun k => heldAs a (s.slot k) }

/-- One association agrees with the slots and the control queues (R42, R66, R74, R140). -/
structure Fits (v : View) : Prop where
  ok : v.record.Ok
  current : ∀ k, v.record.current = some k ↔ v.held k = some .active
  next : ∀ k, v.record.next = some k ↔ v.held k = some .loaded ∨ v.held k = some .ready
  exchange : v.record.attempt ≠ none → ∃ k, v.held k = some .ready
  placed : ∀ p, waitsOn v.record p → v.places p = 1
  unplaced : ∀ p, ¬waitsOn v.record p → v.places p = 0

theorem heldAs_eq_some_iff {a : Anum} {x : Slot} {m : SlotState} :
    heldAs a x = some m ↔ x.owner = some a ∧ x.state = m ∧ (m = .loaded ∨ m = .ready ∨ m = .active) := by
  unfold heldAs
  split
  · next h =>
    constructor
    · rintro ⟨⟩
      exact ⟨h.1, rfl, h.2⟩
    · rintro ⟨-, rfl, -⟩
      rfl
  · next h =>
    constructor
    · rintro ⟨⟩
    · rintro ⟨ho, rfl, hm⟩
      exact absurd ⟨ho, hm⟩ h

/-- The binding of R66, read from the association and from the slot, is the same binding. -/
theorem bound_iff {s : State} {a : Anum} : Bound s a ↔
    (∀ k, (s.assoc a).current = some k ↔ heldAs a (s.slot k) = some .active)
    ∧ (∀ k, (s.assoc a).next = some k ↔ heldAs a (s.slot k) = some .loaded ∨ heldAs a (s.slot k) = some .ready)
    ∧ ((s.assoc a).attempt ≠ none → ∃ k, heldAs a (s.slot k) = some .ready) := by
  simp only [Bound, heldAs_eq_some_iff, State.nextReady]
  constructor
  · rintro ⟨hcurrent, hnext, howner, hexchange⟩
    refine ⟨fun k => ⟨fun h => ?_, fun h => (howner k h.1).2 h.2.1⟩, fun k => ⟨fun h => ?_, fun h => ?_⟩, fun h => ?_⟩
    · obtain ⟨hstate, ho⟩ := hcurrent k h
      exact ⟨ho, hstate, by simp⟩
    · obtain ⟨hstate, ho⟩ := hnext k h
      exact hstate.imp (fun hm => ⟨ho, hm, by simp⟩) fun hm => ⟨ho, hm, by simp⟩
    · exact h.elim (fun h => (howner k h.1).1 (.inl h.2.1)) fun h => (howner k h.1).1 (.inr h.2.1)
    · have hready := hexchange h
      split at hready
      · next k hk => exact ⟨k, (hnext k hk).2, by simpa using hready, by simp⟩
      · cases hready
  · rintro ⟨hcurrent, hnext, hexchange⟩
    refine ⟨fun k h => ?_, fun k h => ?_, fun k ho => ⟨fun h => ?_, fun h => ?_⟩, fun h => ?_⟩
    · obtain ⟨ho, hstate, -⟩ := (hcurrent k).mp h
      exact ⟨hstate, ho⟩
    · obtain ⟨ho, hstate, -⟩ | ⟨ho, hstate, -⟩ := (hnext k).mp h
      · exact ⟨.inl hstate, ho⟩
      · exact ⟨.inr hstate, ho⟩
    · exact (hnext k).mpr (h.imp (fun hm => ⟨ho, hm, by simp⟩) fun hm => ⟨ho, hm, by simp⟩)
    · exact (hcurrent k).mpr ⟨ho, h, by simp⟩
    · obtain ⟨k, hk⟩ := hexchange h
      rw [(hnext k).mpr (.inr hk)]
      simpa using hk.2.1

/-- A control queue as R140 has it, told by the places that each association has in it. -/
theorem nodup_mem_iff_count {q : List Anum} {waits : Anum → Prop} :
    (q.Nodup ∧ ∀ a, a ∈ q ↔ waits a) ↔ ∀ a, (waits a → q.count a = 1) ∧ (¬waits a → q.count a = 0) := by
  constructor
  · rintro ⟨hnodup, hmem⟩ a
    exact ⟨fun h => List.count_eq_one_of_mem hnodup ((hmem a).mpr h),
      fun h => List.count_eq_zero_of_not_mem (mt (hmem a).mp h)⟩
  · intro h
    refine ⟨List.nodup_iff_count_le_one.mpr fun a => ?_, fun a => ?_⟩
    · by_cases ha : waits a
      · exact ((h a).1 ha).le
      · exact ((h a).2 ha).le.trans zero_le_one
    · rw [← List.count_pos_iff]
      by_cases ha : waits a
      · simp [ha, (h a).1 ha]
      · simp [ha, (h a).2 ha]

theorem coherent_iff {s : State} : Coherent s ↔ ∀ a, Fits (view s a) := by
  have hqueues : ControlQueuesOk s ↔ ∀ p a, (waitsOn (s.assoc a) p → (s.port p).controlQueue.count a = 1)
      ∧ (¬waitsOn (s.assoc a) p → (s.port p).controlQueue.count a = 0) := forall_congr' fun _ => nodup_mem_iff_count
  unfold Coherent
  rw [hqueues]
  constructor
  · rintro ⟨hok, hbound, hqueue⟩ a
    obtain ⟨hcurrent, hnext, hexchange⟩ := bound_iff.mp (hbound a)
    exact ⟨hok a, hcurrent, hnext, hexchange, fun p => (hqueue p a).1, fun p => (hqueue p a).2⟩
  · intro h
    exact ⟨fun a => (h a).ok, fun a => bound_iff.mpr ⟨(h a).current, (h a).next, (h a).exchange⟩,
      fun p a => ⟨(h a).placed p, (h a).unplaced p⟩⟩

/-! ## Operations that change no view -/

/-- Every association is seen as before. -/
structure Quiet (s t : State) : Prop where
  same : ∀ b, view t b = view s b

section Quiet

variable {s t u : State}

theorem Quiet.refl (s : State) : Quiet s s := ⟨fun _ => rfl⟩

theorem Quiet.trans (h : Quiet s t) (g : Quiet t u) : Quiet s u := ⟨fun b => (g.same b).trans (h.same b)⟩

theorem Quiet.coherent (h : Quiet s t) (hs : Coherent s) : Coherent t :=
  coherent_iff.mpr fun b => h.same b ▸ coherent_iff.mp hs b

theorem foldl_quiet {α : Type} {f : State → α → State} (h : ∀ s x, Quiet s (f s x)) (xs : List α) (s : State) :
    Quiet s (xs.foldl f s) :=
  foldl_keeps (Quiet s) f (fun _ x ht => ht.trans (h _ x)) xs s (.refl s)

/-- A view is made of these three parts alone. -/
theorem view_ext {v w : View} (hrecord : v.record = w.record) (hplaces : ∀ p, v.places p = w.places p)
    (hheld : ∀ k, v.held k = w.held k) : v = w := by
  cases v
  cases w
  simp only [View.mk.injEq]
  exact ⟨hrecord, funext hplaces, funext hheld⟩

theorem quiet_of_rows (hassoc : ∀ b, bare (t.assoc b) = bare (s.assoc b))
    (hqueue : ∀ p, (t.port p).controlQueue = (s.port p).controlQueue)
    (hheld : ∀ b k, heldAs b (t.slot k) = heldAs b (s.slot k)) : Quiet s t :=
  ⟨fun b => view_ext (hassoc b) (fun p => congrArg (List.count b) (hqueue p)) (hheld b)⟩

theorem updPort_quiet {p : PortNum} {f : Port → Port}
    (h : ∀ x, (f x).controlQueue = x.controlQueue := by intro _; rfl) :
    Quiet s (s.updPort p f) := by
  refine quiet_of_rows (fun _ => rfl) (fun q => ?_) fun _ _ => rfl
  by_cases hq : p = q
  · rw [← hq, State.port_updPort_self, h]
  · rw [State.port_updPort_ne _ _ hq]

theorem updAssoc_quiet {a : Anum} {f : Assoc → Assoc}
    (h : bare (f (s.assoc a)) = bare (s.assoc a) := by rfl) :
    Quiet s (s.updAssoc a f) := by
  refine quiet_of_rows (fun b => ?_) (fun _ => rfl) fun _ _ => rfl
  by_cases hb : a = b
  · rw [← hb, State.assoc_updAssoc_self, h]
  · rw [State.assoc_updAssoc_ne _ _ hb]

theorem updSlot_quiet {k : SlotNum} {f : Slot → Slot}
    (h : ∀ b, heldAs b (f (s.slot k)) = heldAs b (s.slot k) := by intro _; rfl) :
    Quiet s (s.updSlot k f) := by
  refine quiet_of_rows (fun _ => rfl) (fun _ => rfl) fun b j => ?_
  by_cases hj : k = j
  · rw [← hj, State.slot_updSlot_self, h]
  · rw [State.slot_updSlot_ne _ _ hj]

theorem bumpPort_quiet (p : PortNum) (c : PortCounter) (n : Nat) (s : State) : Quiet s (bumpPort p c n s) :=
  updPort_quiet

theorem bumpAssoc_quiet (a : Anum) (c : AssocCounter) (n : Nat) (s : State) : Quiet s (bumpAssoc a c n s) :=
  updAssoc_quiet

theorem raiseEvent_quiet (kind : EventKind) (source : EventSource) (detail : BitVec 16) (s : State) :
    Quiet s (raiseEvent kind source detail s) :=
  quiet_of_rows (fun _ => by rw [State.assoc_raiseEvent]) (fun _ => by rw [State.port_raiseEvent])
    fun _ _ => by rw [State.slot_raiseEvent]

theorem recordFault_quiet (kind : FaultKind) (tag : Option Byte) (s : State) : Quiet s (recordFault kind tag s) := by
  obtain ⟨_, _, _, h⟩ := recordFault_frame kind tag s
  rw [h]
  exact ⟨fun _ => rfl⟩

end Quiet

end Sys2Proof.Proofs
end

section
/-! SUPPORT. The shared operations that change no view of an association: work on class queues and sequences, slots that are
not in service, the lanes, and verification requests. -/

namespace Sys2Proof.Proofs

open Sys2Proof Sys2Proof.Machine

/-! ## Slots that serve no association (R76 to R79) -/

theorem heldAs_eq_none {x : Slot} (h : x.state ≠ .loaded ∧ x.state ≠ .ready ∧ x.state ≠ .active) (b : Anum) :
    heldAs b x = none := by
  unfold heldAs
  rw [if_neg]
  tauto

theorem heldAs_empty (b : Anum) : heldAs b Slot.empty = none := heldAs_eq_none (by decide) b

theorem emptySlot_quiet {k : SlotNum} {s : State} (h : ∀ b, heldAs b (s.slot k) = none) : Quiet s (emptySlot k s) :=
  (show Quiet s (dropExpansion k s) from ⟨fun _ => rfl⟩).trans
    (updSlot_quiet fun b => (heldAs_empty b).trans (h b).symm)

theorem retireSlot_quiet {k : SlotNum} {s : State} (h : ∀ b, heldAs b (s.slot k) = none) : Quiet s (retireSlot k s) :=
  (emptySlot_quiet h).trans (raiseEvent_quiet ..)

theorem releaseSlot_quiet (k : SlotNum) (s : State) : Quiet s (releaseSlot k s) := by
  obtain ⟨hdraining, -, h⟩ | ⟨-, h⟩ := releaseSlot_cases k s <;> rw [h]
  · exact retireSlot_quiet (heldAs_eq_none (by simp [hdraining]))
  · exact updSlot_quiet

theorem releaseEntry_quiet (e : Entry) (s : State) : Quiet s (releaseEntry e s) := by
  unfold releaseEntry
  split
  · exact releaseSlot_quiet ..
  · exact .refl s

theorem recordAgainst_quiet (k : SlotNum) (s : State) : Quiet s (recordAgainst k s) := updSlot_quiet

/-! ## Class queues (R104, R105, R109, R111) -/

theorem evalHolding_quiet (p : PortNum) (k : ClassNum) (s : State) : Quiet s (evalHolding p k s) :=
  updPort_quiet fun x => by dsimp only; split <;> rfl

theorem takeHead_quiet (p : PortNum) (k : ClassNum) (s : State) : Quiet s (takeHead p k s) :=
  .trans updPort_quiet (evalHolding_quiet ..)

theorem admitFrame_quiet (p : PortNum) (r : FrameRecord) (s : State) : Quiet s (admitFrame p r s) := by
  unfold admitFrame
  split
  · exact bumpPort_quiet ..
  · split
    · exact .trans updPort_quiet (evalHolding_quiet ..)
    · exact (bumpPort_quiet ..).trans (raiseEvent_quiet ..)

theorem flushQueues_quiet (p : PortNum) (c : PortCounter) (s : State) : Quiet s (flushQueues p c s) := by
  refine foldl_quiet (fun s k => ?_) _ _
  unfold flushClass
  split
  · exact .refl s
  · exact .trans (.trans updPort_quiet (evalHolding_quiet ..)) (bumpPort_quiet ..)

theorem linkDownFlush_quiet (p : PortNum) (s : State) : Quiet s (linkDownFlush p s) := by
  unfold linkDownFlush
  split
  · exact flushQueues_quiet ..
  · exact .refl s

/-! ## Transform sequences (R93 to R98) -/

theorem settlePasses_quiet (p : PortNum) (s : State) : Quiet s (settlePasses p s) := updPort_quiet

theorem joinSequence_quiet (p : PortNum) (body : EntryBody) (frame : Bytes) (s : State) :
    Quiet s (joinSequence p body frame s) := updPort_quiet

theorem removeEntries_quiet (p : PortNum) (test : Entry → Bool) (c : PortCounter) (s : State) :
    Quiet s (removeEntries p test c s) :=
  .trans updPort_quiet
    (foldl_quiet (fun _ _ => (bumpPort_quiet ..).trans (releaseEntry_quiet ..)) _ _)

theorem dropHead_quiet (p : PortNum) (s : State) : Quiet s (dropHead p s) := by
  unfold dropHead
  split
  · exact .refl s
  · exact .trans updPort_quiet (releaseEntry_quiet ..)

theorem discardHeadsUpTo_quiet (p : PortNum) : ∀ (n : Nat) (s : State), Quiet s (discardHeadsUpTo n p s)
  | 0, s => .refl s
  | n + 1, s => by
    unfold discardHeadsUpTo
    split
    · exact ((bumpPort_quiet ..).trans (dropHead_quiet ..)).trans (discardHeadsUpTo_quiet p n _)
    · exact .refl s

theorem discardHeads_quiet (p : PortNum) (s : State) : Quiet s (discardHeads p s) := discardHeadsUpTo_quiet ..

theorem tidySequence_quiet (p : PortNum) (s : State) : Quiet s (tidySequence p s) :=
  (settlePasses_quiet ..).trans (discardHeads_quiet ..)

theorem condemnEntries_quiet (k : SlotNum) (s : State) : Quiet s (condemnEntries k s) :=
  foldl_quiet (fun _ _ => (removeEntries_quiet ..).trans (tidySequence_quiet ..)) _ _

/-! ## Lanes and verification requests (R89 to R91, R99, R123) -/

theorem setLane_quiet (l : LaneNum) (x : Lane) (s : State) : Quiet s (s.setLane l x) := ⟨fun _ => rfl⟩

theorem setPointer_quiet (p : PortNum) (s : State) : Quiet s { s with roundRobin := p } := ⟨fun _ => rfl⟩

theorem grantTransform_quiet (l : LaneNum) (p : PortNum) (s : State) : Quiet s (grantTransform l p s) := by
  have hspend (body : EntryBody) : Quiet s (spendCorrupt body s).2 := by
    cases body
    case data => exact updAssoc_quiet
    case pass => exact .refl s
    case notice => exact .refl s
  unfold grantTransform
  split
  · exact .refl s
  · split
    · exact .refl s
    · next e _ _ _ _ =>
      refine .trans (hspend e.body) (.trans ?_ (settlePasses_quiet ..))
      exact .trans updPort_quiet (.trans (setLane_quiet ..) (setPointer_quiet ..))

theorem grantOne_quiet {s t : State} (h : grantOne s = some t) : Quiet s t := by
  unfold grantOne at h
  split at h
  · cases h
  · split at h
    · cases h
      exact ⟨fun _ => rfl⟩
    · split at h
      · cases h
        exact ⟨fun _ => rfl⟩
      · obtain ⟨p, -, rfl⟩ := Option.map_eq_some_iff.mp h
        exact grantTransform_quiet ..

theorem grantUpTo_quiet : ∀ (n : Nat) (s : State), Quiet s (grantUpTo n s)
  | 0, s => .refl s
  | n + 1, s => by
    unfold grantUpTo
    split
    · next t h => exact (grantOne_quiet h).trans (grantUpTo_quiet n t)
    · exact .refl s

theorem arbitrate_quiet (s : State) : Quiet s (arbitrate s) := grantUpTo_quiet ..

theorem leaveInbox_quiet (p : PortNum) (place : Fin 4) (s : State) : Quiet s (leaveInbox p place s) :=
  updPort_quiet

theorem VerifyFrame.quiet {s t : State} (h : VerifyFrame s t) : Quiet s t := by
  obtain ⟨hport, _, _, _, rfl⟩ := h
  refine quiet_of_rows (fun _ => rfl) (fun p => ?_) fun _ _ => rfl
  obtain ⟨_, _, hp⟩ := hport p
  rw [hp]

theorem failCaptured_quiet (p : PortNum) (place : Fin 4) (c : PortCounter) (s : State) :
    Quiet s (failCaptured p place c s) := VerifyFrame.quiet (failCaptured_verifyFrame ..)

theorem withdrawVerifies_quiet (a : Anum) (s : State) : Quiet s (withdrawVerifies a s) :=
  VerifyFrame.quiet (withdrawVerifies_verifyFrame ..)

theorem checkCaptured_quiet (p : PortNum) (place : Fin 4) (f : Bytes) (s : State) :
    Quiet s (checkCaptured p place f s) := by
  unfold checkCaptured
  split
  · exact failCaptured_quiet ..
  · split
    · exact failCaptured_quiet ..
    · split
      · exact failCaptured_quiet ..
      · split
        · exact failCaptured_quiet ..
        · exact ⟨fun _ => rfl⟩

theorem raiseFloor_quiet (a : Anum) (role : KeyRole) (pn : Nat) (s : State) : Quiet s (raiseFloor a role pn s) :=
  updAssoc_quiet (by cases role <;> rfl)

end Sys2Proof.Proofs
end

section
/-! SUPPORT. The operations that move one association, told by its view: the end and the beginning of an exchange, the
cut-over, the trigger, and the loss of a key. Each keeps every state coherent in which the model calls it. -/

namespace Sys2Proof.Proofs

open Sys2Proof Sys2Proof.Machine

variable {a b : Anum} {k : SlotNum} {s t u : State} {v : View}

/-! ## Moving one association -/

/-- Every association but one is seen as before. -/
structure MovesOnly (a : Anum) (s t : State) : Prop where
  others : ∀ b, b ≠ a → view t b = view s b

theorem Quiet.movesOnly (h : Quiet s t) : MovesOnly a s t := ⟨fun _ _ => h.same _⟩

theorem MovesOnly.trans (h : MovesOnly a s t) (g : MovesOnly a t u) : MovesOnly a s u :=
  ⟨fun b hb => (g.others b hb).trans (h.others b hb)⟩

theorem MovesOnly.coherent (h : MovesOnly a s t) (hs : Coherent s) (hfit : Fits (view t a)) : Coherent t := by
  refine coherent_iff.mpr fun b => ?_
  by_cases hb : b = a
  · exact hb ▸ hfit
  · exact h.others b hb ▸ coherent_iff.mp hs b

theorem fits_of_coherent (hs : Coherent s) (a : Anum) : Fits (view s a) := coherent_iff.mp hs a

/-! ## A record changed -/

theorem updAssoc_movesOnly (f : Assoc → Assoc) (s : State) : MovesOnly a s (s.updAssoc a f) :=
  ⟨fun _ hb => view_ext (congrArg bare (State.assoc_updAssoc_ne s f hb.symm)) (fun _ => rfl) fun _ => rfl⟩

/-- The view with another record. -/
def View.withRecord (v : View) (x : Assoc) : View := { v with record := x }

theorem view_updAssoc_self (a : Anum) (f : Assoc → Assoc) (s : State) :
    view (s.updAssoc a f) a = (view s a).withRecord (bare (f (s.assoc a))) :=
  view_ext (congrArg bare (State.assoc_updAssoc_self s a f)) (fun _ => rfl) fun _ => rfl

/-- A change that the bare fields alone decide is a change of the bare record. -/
theorem view_updAssoc_bare (a : Anum) (f : Assoc → Assoc) (s : State)
    (hf : bare (f (s.assoc a)) = f (bare (s.assoc a)) := by rfl) :
    view (s.updAssoc a f) a = (view s a).withRecord (f (view s a).record) := by
  rw [view_updAssoc_self, hf]
  rfl

/-- A record fits where another did that named the same slots and asked for the same place. -/
theorem Fits.withRecord (h : Fits v) {x : Assoc} (hok : x.Ok) (hcurrent : x.current = v.record.current)
    (hnext : x.next = v.record.next) (hattempt : x.attempt ≠ none → v.record.attempt ≠ none)
    (hwaits : ∀ p, waitsOn x p ↔ waitsOn v.record p) : Fits (v.withRecord x) where
  ok := hok
  current k := (Eq.congr_left hcurrent).trans (h.current k)
  next k := (Eq.congr_left hnext).trans (h.next k)
  exchange hx := h.exchange (hattempt hx)
  placed p hp := h.placed p ((hwaits p).mp hp)
  unplaced p hp := h.unplaced p (mt (hwaits p).mpr hp)

/-- A record may change if it stays well-formed, names the same slots and keeps its attempt. -/
theorem updAssoc_coherent (hs : Coherent s) {f : Assoc → Assoc} (hok : (f (s.assoc a)).Ok)
    (hcurrent : (f (s.assoc a)).current = (s.assoc a).current) (hnext : (f (s.assoc a)).next = (s.assoc a).next)
    (hattempt : (f (s.assoc a)).attempt = (s.assoc a).attempt)
    (hport : (f (s.assoc a)).port = (s.assoc a).port ∨ (s.assoc a).attempt = none) : Coherent (s.updAssoc a f) := by
  refine (updAssoc_movesOnly f s).coherent hs ?_
  rw [view_updAssoc_self]
  refine (fits_of_coherent hs a).withRecord (x := bare _) hok hcurrent hnext (fun h => hattempt ▸ h) fun p => ?_
  show waitsOn (f (s.assoc a)) p ↔ waitsOn (s.assoc a) p
  unfold waitsOn
  rw [hattempt]
  rcases hport with h | h
  · rw [h]
  · simp [h]

/-! ## Slots -/

/-- The view with a slot in another state of service, or in none. -/
def View.withHeld (v : View) (k : SlotNum) (m : Option SlotState) : View :=
  { v with held := fun j => if j = k then m else v.held j }

theorem View.withHeld_eq_self {m : Option SlotState} (h : v.held k = m) : v.withHeld k m = v :=
  view_ext rfl (fun _ => rfl) fun j => by
    show (if j = k then m else v.held j) = v.held j
    split
    · next hj => rw [hj, h]
    · rfl

/-- A slot serves one association at most. -/
theorem held_none_of_held {m : SlotState} (h : (view s a).held k = some m) (hb : b ≠ a) : (view s b).held k = none := by
  obtain ⟨howner, -, -⟩ := heldAs_eq_some_iff.mp h
  refine if_neg fun hheld => hb ?_
  rw [howner] at hheld
  exact (Option.some.inj hheld.1).symm

theorem view_updSlot (k : SlotNum) (f : Slot → Slot) (s : State) (b : Anum) :
    view (s.updSlot k f) b = (view s b).withHeld k (heldAs b (f (s.slot k))) := by
  refine view_ext rfl (fun _ => rfl) fun j => ?_
  show heldAs b ((s.updSlot k f).slot j) = if j = k then _ else heldAs b (s.slot j)
  split
  · next hj => rw [hj, State.slot_updSlot_self]
  · next hj => rw [State.slot_updSlot_ne _ _ (Ne.symm hj)]

theorem view_emptySlot (k : SlotNum) (s : State) (b : Anum) : view (emptySlot k s) b = (view s b).withHeld k none :=
  (view_updSlot k _ (dropExpansion k s) b).trans (by rw [heldAs_empty]; rfl)

theorem view_leaveService (k : SlotNum) (s : State) (b : Anum) :
    view (leaveService k s) b = (view s b).withHeld k none := by
  obtain ⟨-, h⟩ | ⟨-, h⟩ := leaveService_cases k s <;> rw [h]
  · exact ((raiseEvent_quiet ..).same b).trans (view_emptySlot k s b)
  · rw [view_updSlot, heldAs_eq_none (by simp)]

/-- What befalls a slot in the service of one association moves that association alone. -/
theorem updSlot_movesOnly {f : Slot → Slot} {m : SlotState} (hheld : (view s a).held k = some m)
    (h : ∀ b, b ≠ a → heldAs b (f (s.slot k)) = none) : MovesOnly a s (s.updSlot k f) :=
  ⟨fun b hb => by rw [view_updSlot, h b hb, View.withHeld_eq_self (held_none_of_held hheld hb)]⟩

theorem movesOnly_of_withHeld_none {m : SlotState} (hheld : (view s a).held k = some m)
    (h : ∀ b, view t b = (view s b).withHeld k none) : MovesOnly a s t :=
  ⟨fun b hb => by rw [h, View.withHeld_eq_self (held_none_of_held hheld hb)]⟩

/-! ## The end of an exchange (R155, R156) -/

theorem not_waitsOn_of_attempt_none {x : Assoc} (h : x.attempt = none) (p : PortNum) : ¬waitsOn x p := by
  simp [waitsOn, h]

/-- The record after its exchange has ended. -/
def exchangeEnded (x : Assoc) : Assoc := { x with attempt := none, state := x.state.afterExchange }

/-- An exchange ends: the notice leaves the control queue, and the attempt record goes. -/
def endExchange (a : Anum) (s : State) : State := (leaveControlQueue a s).updAssoc a exchangeEnded

/-- The view of an association at rest: no exchange runs, and nothing waits. -/
def View.atRest (v : View) : View := { v with record := exchangeEnded v.record, places := fun _ => 0 }

theorem leaveControlQueue_movesOnly (a : Anum) (s : State) : MovesOnly a s (leaveControlQueue a s) := by
  refine ⟨fun b hb => view_ext rfl (fun p => ?_) fun _ => rfl⟩
  show ((leaveControlQueue a s).port p).controlQueue.count b = (s.port p).controlQueue.count b
  rw [leaveControlQueue, State.port_updPort]
  split
  · next h =>
    subst h
    exact List.count_filter (by simpa using hb)
  · rfl

theorem endExchange_movesOnly (a : Anum) (s : State) : MovesOnly a s (endExchange a s) :=
  (leaveControlQueue_movesOnly a s).trans (updAssoc_movesOnly ..)

theorem view_endExchange (hplaces : ∀ p, ¬waitsOn (view s a).record p → (view s a).places p = 0) :
    view (endExchange a s) a = (view s a).atRest := by
  rw [endExchange, view_updAssoc_self]
  refine view_ext rfl (fun p => ?_) fun _ => rfl
  show ((leaveControlQueue a s).port p).controlQueue.count a = 0
  rw [leaveControlQueue, State.port_updPort]
  split
  · exact List.count_eq_zero_of_not_mem (by simp)
  · next h => exact hplaces p fun hp => h hp.1

theorem giveUp_quiet (kind : EventKind) (detail : BitVec 16) (a : Anum) (s : State) :
    Quiet (endExchange a s) (giveUp a kind detail s) := (bumpAssoc_quiet ..).trans (raiseEvent_quiet ..)

theorem giveUp_movesOnly (kind : EventKind) (detail : BitVec 16) (a : Anum) (s : State) :
    MovesOnly a s (giveUp a kind detail s) := (endExchange_movesOnly a s).trans (giveUp_quiet ..).movesOnly

theorem view_giveUp {kind : EventKind} {detail : BitVec 16}
    (hplaces : ∀ p, ¬waitsOn (view s a).record p → (view s a).places p = 0) :
    view (giveUp a kind detail s) a = (view s a).atRest :=
  ((giveUp_quiet ..).same a).trans (view_endExchange hplaces)

theorem abandonExchange_eq {cause : AbortCause} (h : (s.assoc a).attempt ≠ none) : abandonExchange cause s a
    = raiseEvent .switchAborted (.assoc a) cause.code (endExchange a s) := by
  unfold abandonExchange
  split
  · next hnone => exact absurd hnone h
  · rfl

theorem abandonExchange_none {cause : AbortCause} (h : (s.assoc a).attempt = none) :
    abandonExchange cause s a = s := by
  unfold abandonExchange
  rw [h]

theorem abandonExchange_movesOnly (cause : AbortCause) (a : Anum) (s : State) :
    MovesOnly a s (abandonExchange cause s a) := by
  by_cases h : (s.assoc a).attempt = none
  · rw [abandonExchange_none h]
    exact (Quiet.refl s).movesOnly
  · rw [abandonExchange_eq h]
    exact (endExchange_movesOnly a s).trans (raiseEvent_quiet ..).movesOnly

theorem view_abandonExchange {cause : AbortCause}
    (hstate : (view s a).record.state = .switching → (view s a).record.attempt ≠ none)
    (hplaces : ∀ p, ¬waitsOn (view s a).record p → (view s a).places p = 0) :
    view (abandonExchange cause s a) a = (view s a).atRest := by
  by_cases h : (s.assoc a).attempt = none
  · rw [abandonExchange_none h]
    refine view_ext ?_ (fun p => hplaces p (not_waitsOn_of_attempt_none h p)) fun _ => rfl
    have hrest : (s.assoc a).state.afterExchange = (s.assoc a).state := by
      cases hs : (s.assoc a).state
      case switching => exact absurd h (hstate hs)
      all_goals rfl
    show bare (s.assoc a) = bare (exchangeEnded (s.assoc a))
    rw [exchangeEnded, hrest, ← h]
  · rw [abandonExchange_eq h, (raiseEvent_quiet ..).same, view_endExchange hplaces]

end Sys2Proof.Proofs
end

section
/-! SUPPORT. Switch triggers, the exchange and the cut-over keep every coherent state coherent (R129 to R158). -/

namespace Sys2Proof.Proofs

open Sys2Proof Sys2Proof.Machine

variable {a b : Anum} {k : SlotNum} {s t u : State} {v w : View} {x : Assoc}

/-! ## Records that stay well-formed -/

theorem ok_exchangeEnded (h : x.Ok) : (exchangeEnded x).Ok := by
  obtain ⟨-, -, hcurrent, hidle, hpending, hone, htop, hstop, hmarks⟩ := h
  have hservice : x.state.afterExchange.inService = x.state.inService := by cases x.state <;> rfl
  have hswitching : x.state.afterExchange ≠ .switching := by cases x.state <;> decide
  have hbelow : x.state.afterExchange = .idle ↔ x.state = .idle := by cases x.state <;> decide
  refine ⟨absurd rfl, fun h => absurd h hswitching, hservice ▸ hcurrent, fun h => hidle (hbelow.mp h), hpending, hone, htop,
    fun h => hstop ?_, hmarks⟩
  cases hx : x.state <;> simp_all [exchangeEnded, AssocState.afterExchange]

/-- The record of an exchange that begins (R133, R136). -/
theorem ok_announced (h : x.Ok) (step : Nat) (hstate : x.state = .running ∨ x.state = .exhausted) :
    (Assoc.announced step x).Ok := by
  rcases hstate with h | h <;> simp_all [Assoc.Ok, Assoc.announced, AssocState.inService]

theorem ok_switched (h : x.Ok) (k : SlotNum) (epoch : Byte) : (Assoc.cutOverTo k epoch x).Ok := by
  obtain ⟨-, -, -, -, hpending, -, -, -, hone, hless, hmax⟩ := h
  exact ⟨absurd rfl, nofun, by simp [Assoc.cutOverTo, AssocState.inService], nofun, hpending, le_rfl,
    by simp [Assoc.cutOverTo], fun _ => hone.trans hless.le, hone, hless, hmax⟩

theorem ok_attempt (h : x.Ok) (hattempt : x.attempt ≠ none) (t : Attempt) : ({ x with attempt := some t } : Assoc).Ok := by
  obtain ⟨hstate, -, hrest⟩ := h
  exact ⟨fun _ => hstate hattempt, fun _ => nofun, hrest⟩

/-- A number is taken below the stop mark, or where no data frame is numbered any more (R55 to R57). -/
theorem ok_numbered (h : x.Ok) (htop : x.nextPn ≤ Config.pnMax)
    (hbelow : x.state = .running ∨ x.state = .switching ∨ x.state = .suspended → x.nextPn ≠ x.stopMark) :
    ({ x with nextPn := x.nextPn + 1 } : Assoc).Ok := by
  obtain ⟨hattempt, hswitching, hcurrent, hidle, hpending, hone, -, hstop, hmarks⟩ := h
  exact ⟨hattempt, hswitching, hcurrent, hidle, hpending, Nat.le_succ_of_le hone, Nat.succ_le_succ htop,
    fun hstate => Nat.lt_of_le_of_ne (hstop hstate) (hbelow hstate), hmarks⟩

/-- The number at the stop mark is the last of a record that numbers data frames (R55, R56). -/
theorem ok_exhausted (h : x.Ok) (htop : x.nextPn ≤ Config.pnMax) (hservice : x.state.inService = true) :
    ({ x with nextPn := x.nextPn + 1, state := .exhausted } : Assoc).Ok := by
  obtain ⟨-, -, hcurrent, -, hpending, hone, -, -, hmarks⟩ := h
  exact ⟨fun _ => .inr rfl, nofun, ⟨fun _ => rfl, fun _ => hcurrent.mpr hservice⟩, nofun, hpending,
    Nat.le_succ_of_le hone, Nat.succ_le_succ htop, by simp, hmarks⟩

/-- While data frames are numbered the next number is one of R57. -/
theorem nextPn_le_of_ok (h : x.Ok) (hstate : x.state = .running ∨ x.state = .switching) : x.nextPn ≤ Config.pnMax := by
  obtain ⟨-, -, -, -, -, -, -, hstop, -, -, hmax⟩ := h
  have hmark : x.nextPn ≤ x.stopMark := hstop (hstate.imp_right .inl)
  have : Config.stopMarkMax ≤ Config.pnMax := by decide
  omega

theorem ok_of_coherent (hs : Coherent s) (a : Anum) : (s.assoc a).Ok := (fits_of_coherent hs a).ok

/-! ## Views that fit -/

theorem Fits.atRest (h : Fits v) : Fits v.atRest where
  ok := ok_exchangeEnded h.ok
  current := h.current
  next := h.next
  exchange := absurd rfl
  placed _ hp := absurd hp (not_waitsOn_of_attempt_none rfl _)
  unplaced _ _ := rfl

/-- An attempt that is made QUEUED with a place in the control queue of its port (R136, R140). -/
theorem Fits.queued (h : Fits v) (hok : x.Ok) (hcurrent : x.current = v.record.current)
    (hnext : x.next = v.record.next) (hwas : ∀ p, ¬waitsOn v.record p) (hnow : waitsOn x x.port)
    (hready : ∃ k, v.held k = some .ready) :
    Fits { v with record := x, places := fun p => if p = x.port then v.places p + 1 else v.places p } where
  ok := hok
  current k := (Eq.congr_left hcurrent).trans (h.current k)
  next k := (Eq.congr_left hnext).trans (h.next k)
  exchange _ := hready
  placed p hp := (if_pos hp.1.symm).trans (congrArg (· + 1) (h.unplaced p (hwas p)))
  unplaced p hp := by
    have hport : p ≠ x.port := fun h => hp (h ▸ hnow)
    exact (if_neg hport).trans (h.unplaced p (hwas p))

/-- The READY slot of an association becomes its ACTIVE one, and the current slot leaves its service (R46, R157). -/
theorem Fits.inService (h : Fits v) (hk : v.held k = some .ready) (hwas : ∀ p, ¬waitsOn v.record p)
    (hok : w.record.Ok) (hcurrent : w.record.current = some k) (hnext : w.record.next = none)
    (hattempt : w.record.attempt = none) (hplaces : ∀ p, w.places p = v.places p)
    (hheld : ∀ j, w.held j = if j = k then some .active else if v.record.current = some j then none else v.held j) :
    Fits w where
  ok := hok
  current j := by
    rw [hcurrent, hheld]
    by_cases hj : j = k
    · simp [hj]
    · simp [hj, Ne.symm hj, h.current j]
  next j := by
    rw [hnext, hheld]
    by_cases hj : j = k
    · simp [hj]
    · have hother : ¬(v.held j = some .loaded ∨ v.held j = some .ready) := by
        rw [← h.next j, (h.next k).mpr (.inr hk)]
        simpa using Ne.symm hj
      split_ifs <;> simp_all
  exchange hx := absurd hattempt hx
  placed p hp := absurd hp (not_waitsOn_of_attempt_none hattempt p)
  unplaced p _ := (hplaces p).trans (h.unplaced p (hwas p))

/-! ## The end of an exchange -/

theorem giveUp_coherent (kind : EventKind) (detail : BitVec 16) (hs : Coherent s) :
    Coherent (giveUp a kind detail s) := by
  refine (giveUp_movesOnly ..).coherent hs ?_
  rw [view_giveUp (fits_of_coherent hs a).unplaced]
  exact (fits_of_coherent hs a).atRest

theorem abandonExchange_coherent (cause : AbortCause) (hs : Coherent s) : Coherent (abandonExchange cause s a) := by
  have hfit := fits_of_coherent hs a
  obtain ⟨-, hswitching, -⟩ := hfit.ok
  refine (abandonExchange_movesOnly cause a s).coherent hs ?_
  rw [view_abandonExchange hswitching hfit.unplaced]
  exact hfit.atRest

/-! ## The beginning of an attempt -/

theorem joinControlQueue_movesOnly (a : Anum) (s : State) : MovesOnly a s (joinControlQueue a s) := by
  refine ⟨fun b hb => view_ext rfl (fun p => ?_) fun _ => rfl⟩
  show ((joinControlQueue a s).port p).controlQueue.count b = (s.port p).controlQueue.count b
  rw [joinControlQueue, State.port_updPort]
  split
  · next h => simp [h, List.count_append, Ne.symm hb]
  · rfl

theorem view_joinControlQueue (a : Anum) (s : State) : view (joinControlQueue a s) a = { view s a with
    places := fun p => if p = (s.assoc a).port then (view s a).places p + 1 else (view s a).places p } := by
  refine view_ext rfl (fun p => ?_) fun _ => rfl
  show ((joinControlQueue a s).port p).controlQueue.count a
    = if p = (s.assoc a).port then (s.port p).controlQueue.count a + 1 else (s.port p).controlQueue.count a
  rw [joinControlQueue, State.port_updPort]
  by_cases h : p = (s.assoc a).port
  · rw [if_pos h.symm, if_pos h, h]
    exact List.count_append.trans (by simp)
  · rw [if_neg (Ne.symm h), if_neg h]

/-- An association with a READY next slot, and no notice that waits, queues the notice of an attempt. -/
theorem queueNotice_coherent (hs : Coherent s) {f : Assoc → Assoc} (hok : (f (s.assoc a)).Ok)
    (hcurrent : (f (s.assoc a)).current = (s.assoc a).current) (hnext : (f (s.assoc a)).next = (s.assoc a).next)
    (hwas : ∀ p, ¬waitsOn (s.assoc a) p) (hnow : waitsOn (f (s.assoc a)) (f (s.assoc a)).port)
    (hready : ∃ k, (view s a).held k = some .ready) : Coherent (joinControlQueue a (s.updAssoc a f)) := by
  refine ((updAssoc_movesOnly f s).trans (joinControlQueue_movesOnly a _)).coherent hs ?_
  rw [view_joinControlQueue, State.assoc_updAssoc_self, view_updAssoc_self]
  exact (fits_of_coherent hs a).queued (x := bare (f (s.assoc a))) hok hcurrent hnext hwas hnow hready

/-- The next slot of an association that could switch, in its service as READY. -/
theorem held_of_nextReady (hs : Coherent s) (h : s.nextReady a = true) :
    ∃ k, (s.assoc a).next = some k ∧ (view s a).held k = some .ready := by
  unfold State.nextReady at h
  split at h
  · next k hk =>
    obtain hheld | hheld := ((fits_of_coherent hs a).next k).mp hk
    · obtain ⟨-, hstate, -⟩ := heldAs_eq_some_iff.mp hheld
      simp [hstate] at h
    · exact ⟨k, hk, hheld⟩
  · cases h

theorem nextReady_of_exchange (hs : Coherent s) (h : (s.assoc a).attempt ≠ none) : s.nextReady a = true := by
  obtain ⟨-, hbound, -⟩ := hs
  obtain ⟨-, -, -, hexchange⟩ := hbound a
  exact hexchange h

/-- An attempt that is no longer QUEUED asks for no place (R140). -/
theorem not_waitsOn_of_issued {t : Attempt} (hattempt : x.attempt = some t) (hissued : t.status = .issued) (p : PortNum) :
    ¬waitsOn x p := by
  simp [waitsOn, hattempt, hissued]

theorem endAttempt_coherent (hs : Coherent s) {t : Attempt} (hattempt : (s.assoc a).attempt = some t)
    (hissued : t.status = .issued) : Coherent (endAttempt a s) := by
  have hsome : (s.assoc a).attempt ≠ none := by simp [hattempt]
  simp only [endAttempt, hattempt]
  split
  · obtain ⟨k, -, hk⟩ := held_of_nextReady hs (nextReady_of_exchange hs hsome)
    exact queueNotice_coherent hs (ok_attempt (ok_of_coherent hs a) hsome _) rfl rfl
      (not_waitsOn_of_issued hattempt hissued) ⟨rfl, rfl⟩ ⟨k, hk⟩
  · exact giveUp_coherent _ _ hs

/-! ## The cut-over -/

/-- The view without a slot, where there is one, in service. -/
def View.dropping (v : View) (o : Option SlotNum) : View :=
  { v with held := fun j => if o = some j then none else v.held j }

theorem View.dropping_eq_self {o : Option SlotNum} (h : ∀ j, o = some j → v.held j = none) : v.dropping o = v :=
  view_ext rfl (fun _ => rfl) fun j => by
    show (if o = some j then none else v.held j) = v.held j
    split
    · next hj => rw [h j hj]
    · rfl

theorem View.dropping_some (v : View) (k : SlotNum) : v.dropping (some k) = v.withHeld k none :=
  view_ext rfl (fun _ => rfl) fun j => by simp [View.dropping, View.withHeld, eq_comm]

theorem view_outgoingLeaves (o : Option SlotNum) (s : State) (b : Anum) :
    view (outgoingLeaves o s) b = (view s b).dropping o := by
  cases o with
  | none => exact (View.dropping_eq_self (by simp)).symm
  | some j => rw [outgoingLeaves, view_leaveService, View.dropping_some]

theorem held_cutOver (hk : (s.assoc a).next = some k) (b : Anum) (j : SlotNum) : (view (cutOver a s) b).held j
    = if (s.assoc a).current = some j then none
      else if j = k then heldAs b { s.slot k with state := .active } else (view s b).held j := by
  rw [cutOver_eq hk, (withdrawVerifies_quiet ..).same, (raiseEvent_quiet ..).same, switchedOver,
    (bumpAssoc_quiet ..).same, view_outgoingLeaves]
  show (if _ then none else (view (s.updSlot k _) b).held j) = _
  rw [view_updSlot]
  rfl

theorem places_cutOver (hk : (s.assoc a).next = some k) (b : Anum) (p : PortNum) :
    (view (cutOver a s) b).places p = (view s b).places p := by
  obtain ⟨_, _, h⟩ := port_cutOver hk p
  show ((cutOver a s).port p).controlQueue.count b = _
  rw [h]
  rfl

theorem cutOver_movesOnly (hs : Coherent s) (hk : (s.assoc a).next = some k)
    (hheld : (view s a).held k = some .ready) : MovesOnly a s (cutOver a s) := by
  refine ⟨fun b hb => view_ext (congrArg bare (assoc_cutOver_ne hk hb)) (places_cutOver hk b) fun j => ?_⟩
  rw [held_cutOver hk]
  split
  · next hcurrent => exact (held_none_of_held (((fits_of_coherent hs a).current j).mp hcurrent) hb).symm
  · split
    · next hj =>
      obtain ⟨howner, -, -⟩ := heldAs_eq_some_iff.mp hheld
      rw [hj, held_none_of_held hheld hb]
      exact if_neg fun h => hb (Option.some.inj (howner.symm.trans h.1)).symm
    · rfl

/-- The cut-over of an association that has a READY next slot and no notice that waits (R157). -/
theorem cutOver_coherent (hs : Coherent s) (hready : s.nextReady a = true) (hwas : ∀ p, ¬waitsOn (s.assoc a) p) :
    Coherent (cutOver a s) := by
  obtain ⟨k, hk, hheld⟩ := held_of_nextReady hs hready
  have hfit := fits_of_coherent hs a
  have hcurrent : (s.assoc a).current ≠ some k := fun h => by
    have := (hfit.current k).mp h
    rw [hheld] at this
    cases this
  obtain ⟨howner, -, -⟩ := heldAs_eq_some_iff.mp hheld
  have hrecord : (view (cutOver a s) a).record = bare (Assoc.cutOverTo k (s.slot k).epoch (s.assoc a)) :=
    (congrArg bare (assoc_cutOver_self hk)).trans rfl
  refine (cutOver_movesOnly hs hk hheld).coherent hs (hfit.inService hheld hwas ?ok ?current ?next ?attempt
    (places_cutOver hk a) fun j => ?held)
  case ok => rw [hrecord]; exact ok_switched (ok_of_coherent hs a) k (s.slot k).epoch
  case current => rw [hrecord]; rfl
  case next => rw [hrecord]; rfl
  case attempt => rw [hrecord]; rfl
  case held =>
    rw [held_cutOver hk]
    by_cases hj : j = k
    · rw [hj, if_neg hcurrent, if_pos rfl, if_pos rfl]
      exact heldAs_eq_some_iff.mpr ⟨howner, rfl, by simp⟩
    · rw [if_neg hj, if_neg hj]
      rfl

/-! ## Triggers -/

theorem clearFlags_coherent (hs : Coherent s) : Coherent (s.updAssoc a Assoc.clearFlags) := by
  refine updAssoc_coherent hs ?_ rfl rfl rfl (.inl rfl)
  obtain ⟨hattempt, hswitching, hcurrent, hidle, -, hrest⟩ := ok_of_coherent hs a
  exact ⟨hattempt, hswitching, hcurrent, hidle, by simp [Assoc.clearFlags], hrest⟩

theorem beginSwitch_coherent (hs : Coherent s) (hstart : s.canStart a = true) : Coherent (beginSwitch a s) := by
  obtain ⟨hstate, hattempt, hready, -⟩ := canStart_iff.mp hstart
  have hwas := not_waitsOn_of_attempt_none hattempt
  cases hpolicy : (s.assoc a).confirmPolicy with
  | confirmed =>
    obtain ⟨k, -, hk⟩ := held_of_nextReady hs hready
    have hqueued := queueNotice_coherent hs
      (ok_announced (ok_of_coherent hs a) (s.port (s.assoc a).port).firstStep hstate) rfl rfl hwas ⟨rfl, rfl⟩ ⟨k, hk⟩
    rw [joinControlQueue, State.assoc_updAssoc_self] at hqueued
    rw [beginSwitch_confirmed hpolicy]
    exact hqueued
  | unilateral =>
    rw [beginSwitch_unilateral hpolicy]
    have hassoc : (s.updAssoc a Assoc.unflagged).assoc a = (s.assoc a).unflagged := State.assoc_updAssoc_self ..
    refine cutOver_coherent (clearFlags_coherent hs) ?_ ?_
    · unfold State.nextReady at hready ⊢
      rw [hassoc]
      exact hready
    · rw [hassoc]
      exact hwas

theorem beginIfPending_coherent (hs : Coherent s) (a : Anum) : Coherent (beginIfPending s a) := by
  unfold beginIfPending
  dsimp only
  split
  · next h => exact beginSwitch_coherent hs h.2.2
  · exact hs

theorem setPending_coherent (kind : TriggerKind) (hs : Coherent s) : Coherent (setPending a kind s) := by
  unfold setPending
  by_cases h : (s.assoc a).switchPending = true
  · exact (updAssoc_quiet (by rw [if_pos h])).coherent hs
  · refine updAssoc_coherent hs ?_ ?_ ?_ ?_ ?_ <;> rw [if_neg h]
    · obtain ⟨hattempt, hswitching, hcurrent, hidle, -, hrest⟩ := ok_of_coherent hs a
      exact ⟨hattempt, hswitching, hcurrent, hidle, by simp, hrest⟩
    · exact .inl rfl

theorem handTrigger_coherent (kind : TriggerKind) (hs : Coherent s) : Coherent (handTrigger a kind s) := by
  unfold handTrigger
  dsimp only
  split
  · split
    · split
      · next hstart => exact beginSwitch_coherent hs hstart
      · split
        · exact setPending_coherent kind hs
        · exact (raiseEvent_quiet ..).coherent (setPending_coherent kind hs)
    · split
      · exact hs
      · exact (Quiet.trans updAssoc_quiet (raiseEvent_quiet ..)).coherent hs
  · exact hs

/-! ## Verdicts -/

theorem applyReply_coherent (f : Bytes) (hs : Coherent s) {t : Attempt} (hattempt : (s.assoc a).attempt = some t)
    (hissued : t.status = .issued) : Coherent (applyReply a f s) := by
  unfold applyReply
  split
  · exact cutOver_coherent hs (nextReady_of_exchange hs (by simp [hattempt])) (not_waitsOn_of_issued hattempt hissued)
  · exact endAttempt_coherent hs hattempt hissued
  · exact giveUp_coherent _ _ hs

theorem issued_of_attemptCheck {f : Bytes} (h : attemptCheck s a f = true) :
    ∃ t, (s.assoc a).attempt = some t ∧ t.status = .issued := by
  unfold attemptCheck at h
  split at h
  · next t _ hattempt _ =>
    refine ⟨t, hattempt, ?_⟩
    simp only [Bool.and_eq_true, beq_iff_eq] at h
    exact h.1.1
  · cases h

theorem applyVerdict_coherent (r : VerifyReq) (withdrawn pass : Bool) (hs : Coherent s) :
    Coherent (applyVerdict r withdrawn pass s) := by
  have hfail (c : PortCounter) {t : State} (ht : Coherent t) : Coherent (failCaptured r.port r.place c t) :=
    (failCaptured_quiet ..).coherent ht
  have hfloor := (raiseFloor_quiet r.anum r.role (ctlTagPn r.frame) s).coherent hs
  have hleave := (leaveInbox_quiet r.port r.place _).coherent hfloor
  unfold applyVerdict
  split
  · exact hfail _ hs
  · split
    · exact hfail _ hs
    · split
      · exact hfail _ hs
      · dsimp only
        split
        · exact handTrigger_coherent _ hleave
        · split
          · next hcheck =>
            obtain ⟨t, hattempt, hissued⟩ := issued_of_attemptCheck hcheck
            exact applyReply_coherent _ hleave hattempt hissued
          · exact hfail _ hfloor

end Sys2Proof.Proofs
end

section
/-! SUPPORT. The loss of a key (R58, R59, R80 to R82), the numbering of data frames and notices (R52 to R56, R141), and the
changes of slots that a request or an expansion makes, each from a coherent state. -/

namespace Sys2Proof.Proofs

open Sys2Proof Sys2Proof.Machine

variable {a b : Anum} {k : SlotNum} {s t u : State} {v w : View} {x : Assoc}

/-! ## Slots that leave the service of an association -/

/-- An association without an exchange fits again when the slot that it lost leaves its record. -/
theorem Fits.slotLost (h : Fits v) (hok : w.record.Ok)
    (hcurrent : ∀ j, w.record.current = some j ↔ v.record.current = some j ∧ j ≠ k)
    (hnext : ∀ j, w.record.next = some j ↔ v.record.next = some j ∧ j ≠ k) (hattempt : w.record.attempt = none)
    (hplaces : ∀ p, w.places p = 0) (hheld : ∀ j, w.held j = if j = k then none else v.held j) : Fits w where
  ok := hok
  current j := by
    rw [hcurrent, h.current, hheld]
    split_ifs with hj <;> simp [hj]
  next j := by
    rw [hnext, h.next, hheld]
    split_ifs with hj <;> simp [hj]
  exchange hx := absurd hattempt hx
  placed p hp := absurd hp (not_waitsOn_of_attempt_none hattempt p)
  unplaced p _ := hplaces p

theorem current_ne_of_held (h : Fits v) {m : SlotState} (hk : v.held k = some m) (hm : m ≠ .active) :
    v.record.current ≠ some k := fun hcurrent => by
  have hactive := (h.current k).mp hcurrent
  rw [hk] at hactive
  exact hm (Option.some.inj hactive)

theorem next_ne_of_held (h : Fits v) (hk : v.held k = some .active) : v.record.next ≠ some k := fun hnext => by
  simpa [hk] using (h.next k).mp hnext

/-- The record of an association whose current slot has failed its scrub (R58). -/
def currentLost (x : Assoc) : Assoc :=
  { (exchangeEnded { x with current := none }).clearFlags with state := .faulted }

theorem ok_currentLost (h : x.Ok) : (currentLost x).Ok := by
  obtain ⟨-, -, -, -, -, hone, htop, -, hmarks⟩ := h
  exact ⟨absurd rfl, nofun, ⟨absurd rfl, nofun⟩, nofun, ⟨absurd rfl, nofun⟩, hone, htop, by simp [currentLost],
    hmarks⟩

theorem ok_nextLost (h : x.Ok) : ({ x with next := none } : Assoc).Ok := by
  obtain ⟨hattempt, hswitching, hcurrent, -, hrest⟩ := h
  exact ⟨hattempt, hswitching, hcurrent, fun _ => rfl, hrest⟩

section LostKey

variable (hs : Coherent s) (hu : ∀ b, view u b = (view s b).withHeld k none)
include hs hu

theorem loseCurrent_coherent (hk : (view s a).held k = some .active) : Coherent (loseCurrent a u) := by
  have hfit := fits_of_coherent hs a
  obtain ⟨-, hswitching, -⟩ := hfit.ok
  have hlost : view (u.updAssoc a fun x => { x with current := none }) a
      = ((view s a).withHeld k none).withRecord { (view s a).record with current := none } :=
    (view_updAssoc_bare ..).trans (by rw [hu]; rfl)
  have hended : view (abandonExchange .currentKeyLost (u.updAssoc a fun x => { x with current := none }) a) a
      = (((view s a).withHeld k none).withRecord { (view s a).record with current := none }).atRest := by
    rw [view_abandonExchange] <;> rw [hlost]
    · exact hswitching
    · exact hfit.unplaced
  have hquiet (s : State) : Quiet s (withdrawVerifies a (raiseEvent .assocFaulted (.assoc a) 0 s)) :=
    (raiseEvent_quiet ..).trans (withdrawVerifies_quiet ..)
  have hview : view (loseCurrent a u) a
      = (((view s a).withHeld k none).atRest).withRecord (currentLost (view s a).record) :=
    ((hquiet _).same a).trans ((view_updAssoc_bare ..).trans (by rw [hended]; rfl))
  have hmoves : MovesOnly a u (loseCurrent a u) :=
    ((updAssoc_movesOnly ..).trans (abandonExchange_movesOnly ..)).trans
      ((updAssoc_movesOnly ..).trans (hquiet _).movesOnly)
  refine ((movesOnly_of_withHeld_none hk hu).trans hmoves).coherent hs ?_
  rw [hview]
  refine hfit.slotLost (k := k) (ok_currentLost hfit.ok) (fun j => ?_) (fun j => ?_) rfl (fun _ => rfl) fun _ => rfl
  · show none = some j ↔ _
    rw [(hfit.current k).mpr hk]
    simp [eq_comm]
  · show (view s a).record.next = some j ↔ _ ∧ j ≠ k
    refine (and_iff_left_of_imp ?_).symm
    rintro hnext rfl
    exact next_ne_of_held hfit hk hnext

theorem loseNext_coherent (hk : (view s a).held k = some .ready) : Coherent (loseNext a u) := by
  have hfit := fits_of_coherent hs a
  obtain ⟨-, hswitching, -⟩ := hfit.ok
  have hlost : view (u.updAssoc a fun x => { x with next := none }) a
      = ((view s a).withHeld k none).withRecord { (view s a).record with next := none } :=
    (view_updAssoc_bare ..).trans (by rw [hu]; rfl)
  have hended : view (abandonExchange .nextKeyLost (u.updAssoc a fun x => { x with next := none }) a) a
      = (((view s a).withHeld k none).withRecord { (view s a).record with next := none }).atRest := by
    rw [view_abandonExchange] <;> rw [hlost]
    · exact hswitching
    · exact hfit.unplaced
  have hquiet :
      Quiet (abandonExchange .nextKeyLost (u.updAssoc a fun x => { x with next := none }) a) (loseNext a u) := by
    refine .trans ?_ (withdrawVerifies_quiet ..)
    split
    · exact raiseEvent_quiet ..
    · exact .refl _
  have hmoves : MovesOnly a u (loseNext a u) :=
    ((updAssoc_movesOnly ..).trans (abandonExchange_movesOnly ..)).trans hquiet.movesOnly
  refine ((movesOnly_of_withHeld_none hk hu).trans hmoves).coherent hs ?_
  rw [hquiet.same, hended]
  refine hfit.slotLost (k := k) (ok_exchangeEnded (ok_nextLost hfit.ok)) (fun j => ?_) (fun j => ?_) rfl (fun _ => rfl)
    fun _ => rfl
  · show (view s a).record.current = some j ↔ _ ∧ j ≠ k
    refine (and_iff_left_of_imp ?_).symm
    rintro hcurrent rfl
    exact current_ne_of_held hfit hk (by decide) hcurrent
  · show none = some j ↔ _
    rw [(hfit.next k).mpr (.inr hk)]
    simp [eq_comm]

end LostKey

/-! ## The scrubber -/

/-- A slot has failed its scrub, and its entries are condemned; its owner has not lost the key yet (R81, R82). -/
def scrubbedOut (k : SlotNum) (s : State) : State :=
  condemnEntries k (countScrubFault
    (raiseEvent .scrubFault (.slot k) (scrubDetail (s.slot k).state) (s.updSlot k Slot.faulted)))

theorem view_scrubbedOut (k : SlotNum) (s : State) (b : Anum) : view (scrubbedOut k s) b = (view s b).withHeld k none := by
  have hcount (s : State) : Quiet s (countScrubFault s) := ⟨fun _ => rfl⟩
  rw [scrubbedOut, (condemnEntries_quiet ..).same, (hcount _).same, (raiseEvent_quiet ..).same, view_updSlot,
    heldAs_eq_none (by simp [Slot.faulted])]

/-- A slot that is no association's leaves no view when it fails. -/
theorem scrubbedOut_quiet (h : ∀ b, heldAs b (s.slot k) = none) : Quiet s (scrubbedOut k s) :=
  ⟨fun b => by rw [view_scrubbedOut, View.withHeld_eq_self (h b)]⟩

theorem current_record (s : State) (a : Anum) : (view s a).record.current = (s.assoc a).current := rfl

theorem next_record (s : State) (a : Anum) : (view s a).record.next = (s.assoc a).next := rfl

theorem heldAs_of_owner {x : Slot} {m : SlotState} (howner : x.owner = some a) (hstate : x.state = m)
    (hm : m = .loaded ∨ m = .ready ∨ m = .active) : heldAs a x = some m :=
  heldAs_eq_some_iff.mpr ⟨howner, hstate, hm⟩

theorem scrubFailure_coherent (hs : Coherent s) (hscrubbed : (s.slot k).state.scrubbed = true) :
    Coherent (scrubFailure k s) := by
  show Coherent (loseKey (s.slot k) k (scrubbedOut k s))
  have hu := view_scrubbedOut k s
  have hrecord (a : Anum) : (view (scrubbedOut k s) a).record = (view s a).record := by rw [hu]; rfl
  unfold loseKey
  split
  · next a howner hstate =>
    have hk := heldAs_of_owner howner hstate (by simp)
    have hcurrent : ((scrubbedOut k s).assoc a).current = some k := by
      rw [← current_record, hrecord]
      exact ((fits_of_coherent hs a).current k).mpr hk
    rw [if_pos hcurrent]
    exact loseCurrent_coherent hs hu hk
  · next a howner hstate =>
    have hk := heldAs_of_owner howner hstate (by simp)
    have hnext : ((scrubbedOut k s).assoc a).next = some k := by
      rw [← next_record, hrecord]
      exact ((fits_of_coherent hs a).next k).mpr (.inr hk)
    rw [if_pos hnext]
    exact loseNext_coherent hs hu hk
  · next hactive hready =>
    refine (scrubbedOut_quiet fun b => if_neg ?_).coherent hs
    rintro ⟨howner, hstate | hstate | hstate⟩
    · simp [hstate, SlotState.scrubbed] at hscrubbed
    · exact hready b howner hstate
    · exact hactive b howner hstate

theorem scrub_coherent (hs : Coherent s) : Coherent (scrub s) := by
  have hpointer (k : SlotNum) (s : State) : Quiet s { s with scrubPointer := k } := ⟨fun _ => rfl⟩
  refine (hpointer _ _).coherent ?_
  split
  · next h => exact scrubFailure_coherent hs (Bool.and_eq_true_iff.mp h).1
  · exact hs

/-! ## Data frames -/

theorem view_exhaust (a : Anum) (s : State) :
    view (exhaust a s) a = (view s a).withRecord { (view s a).record with state := .exhausted } :=
  ((raiseEvent_quiet ..).same a).trans (view_updAssoc_bare ..)

theorem exhaust_movesOnly (a : Anum) (s : State) : MovesOnly a s (exhaust a s) :=
  (updAssoc_movesOnly ..).trans (raiseEvent_quiet ..).movesOnly

/-- A data frame's number is taken, and the number at the stop mark exhausts the association (R53, R55). -/
theorem exhaustAtMark_coherent (hs : Coherent s)
    (hstate : (s.assoc a).state = .running ∨ (s.assoc a).state = .switching)
    (hu : Quiet (s.updAssoc a fun x => { x with nextPn := x.nextPn + 1 }) u) :
    Coherent (if (s.assoc a).nextPn = (s.assoc a).stopMark then exhaust a u else u) := by
  have hok := ok_of_coherent hs a
  have htop := nextPn_le_of_ok hok hstate
  split
  · refine ((updAssoc_movesOnly ..).trans (hu.movesOnly.trans (exhaust_movesOnly ..))).coherent hs ?_
    rw [view_exhaust, (hu.same a).trans (view_updAssoc_bare ..)]
    refine (fits_of_coherent hs a).withRecord (ok_exhausted (fits_of_coherent hs a).ok htop ?_) rfl rfl id fun _ => .rfl
    exact hstate.elim (congrArg AssocState.inService) (congrArg AssocState.inService)
  · next hmark =>
    exact hu.coherent (updAssoc_coherent hs (ok_numbered hok htop fun _ => hmark) rfl rfl rfl (.inl rfl))

theorem numberFrame_coherent (p : PortNum) (k : SlotNum) (frame : Bytes) (hs : Coherent s)
    (hstate : (s.assoc a).state = .running ∨ (s.assoc a).state = .switching) :
    Coherent (numberFrame p a k frame s) := by
  have hnumbered := exhaustAtMark_coherent hs hstate ((joinSequence_quiet p (.data a k (s.assoc a).nextPn
    (s.assoc a).protection (s.assoc a).vlan (s.assoc a).label) frame _).trans (recordAgainst_quiet k _))
  unfold numberFrame
  dsimp only
  split
  · exact handTrigger_coherent _ hnumbered
  · exact hnumbered

/-! ## Notices -/

/-- The head of a control queue leaves it (R141). -/
def dropNotice (p : PortNum) (s : State) : State :=
  s.updPort p fun y => { y with controlQueue := y.controlQueue.drop 1 }

section Notice

variable {p : PortNum} {rest : List Anum}

theorem dropNotice_movesOnly (hqueue : (s.port p).controlQueue = a :: rest) : MovesOnly a s (dropNotice p s) := by
  refine ⟨fun b hb => view_ext rfl (fun q => ?_) fun _ => rfl⟩
  show ((dropNotice p s).port q).controlQueue.count b = (s.port q).controlQueue.count b
  rw [dropNotice, State.port_updPort]
  split
  · next h => simp [← h, hqueue, Ne.symm hb]
  · rfl

/-- The association at the head of a control queue has a QUEUED attempt on that port (R140). -/
theorem waitsOn_of_head (hs : Coherent s) (hqueue : (s.port p).controlQueue = a :: rest) : waitsOn (s.assoc a) p := by
  by_contra h
  have hnone : (s.port p).controlQueue.count a = 0 := (fits_of_coherent hs a).unplaced p h
  simp [hqueue] at hnone

/-- Once its notice has left the head, an association has no place in a control queue. -/
theorem view_dropNotice (hs : Coherent s) (hqueue : (s.port p).controlQueue = a :: rest) :
    view (dropNotice p s) a = { view s a with places := fun _ => 0 } := by
  have hwaits := waitsOn_of_head hs hqueue
  refine view_ext rfl (fun q => ?_) fun _ => rfl
  show ((dropNotice p s).port q).controlQueue.count a = 0
  rw [dropNotice, State.port_updPort]
  split
  · have hone : (s.port p).controlQueue.count a = 1 := (fits_of_coherent hs a).placed p hwaits
    rw [hqueue, List.count_cons_self] at hone
    simpa [hqueue] using hone
  · next h => exact (fits_of_coherent hs a).unplaced q fun hq => h (hwaits.1.symm.trans hq.1)

/-- An attempt record stands in SWITCHING or EXHAUSTED only, where a key is in service (R42). -/
theorem inService_of_exchange (h : x.Ok) (hattempt : x.attempt ≠ none) : x.state.inService = true := by
  obtain ⟨hstate, -⟩ := h
  rcases hstate hattempt with h | h <;> rw [h] <;> rfl

theorem current_of_inService (h : x.Ok) (hservice : x.state.inService = true) : ∃ k, x.current = some k := by
  obtain ⟨-, -, hcurrent, -⟩ := h
  exact Option.ne_none_iff_exists'.mp (hcurrent.mpr hservice)

/-- What R136 and R42 give the association at the head of a control queue: an exchange, a current and a next slot. -/
theorem exchange_of_head (hs : Coherent s) (hqueue : (s.port p).controlQueue = a :: rest) :
    ∃ t j k, (s.assoc a).attempt = some t ∧ (s.assoc a).current = some j ∧ (s.assoc a).next = some k := by
  obtain ⟨-, hqueued⟩ := waitsOn_of_head hs hqueue
  have hsome : (s.assoc a).attempt ≠ none := fun h => by simp [h] at hqueued
  obtain ⟨t, hattempt⟩ := Option.ne_none_iff_exists'.mp hsome
  have hok := ok_of_coherent hs a
  obtain ⟨j, hj⟩ := current_of_inService hok (inService_of_exchange hok hsome)
  obtain ⟨k, hk, -⟩ := held_of_nextReady hs (nextReady_of_exchange hs hsome)
  exact ⟨t, j, k, hattempt, hj, hk⟩

theorem giveUpHead_coherent (kind : EventKind) (detail : BitVec 16) (hs : Coherent s)
    (hqueue : (s.port p).controlQueue = a :: rest) : Coherent (giveUp a kind detail (dropNotice p s)) := by
  refine ((dropNotice_movesOnly hqueue).trans (giveUp_movesOnly ..)).coherent hs ?_
  rw [view_giveUp] <;> rw [view_dropNotice hs hqueue]
  · exact (fits_of_coherent hs a).atRest
  · exact fun _ _ => rfl

/-- The record of a notice that takes its number and is ISSUED (R141). -/
def issued (t : Attempt) (x : Assoc) : Assoc :=
  { x with nextPn := x.nextPn + 1, attempt := some { t with status := .issued, pulses := 2 ^ t.step } }

theorem Fits.issued (h : Fits v) {t : Attempt} (hattempt : v.record.attempt = some t)
    (hok : x.Ok) (hcurrent : x.current = v.record.current) (hnext : x.next = v.record.next)
    (hrest : ∀ p, ¬waitsOn x p) : Fits (View.withRecord { v with places := fun _ => 0 } x) where
  ok := hok
  current k := (Eq.congr_left hcurrent).trans (h.current k)
  next k := (Eq.congr_left hnext).trans (h.next k)
  exchange _ := h.exchange (by simp [hattempt])
  placed p hp := absurd hp (hrest p)
  unplaced _ _ := rfl

theorem placeNotice_coherent (hs : Coherent s) (hqueue : (s.port p).controlQueue = a :: rest)
    (htop : (s.assoc a).nextPn ≤ Config.pnMax) {t : Attempt} (hattempt : (s.assoc a).attempt = some t) (j k : SlotNum) :
    Coherent (placeNotice p a t j k s) := by
  have hfit := fits_of_coherent hs a
  have hok := ok_of_coherent hs a
  have hsome : (s.assoc a).attempt ≠ none := by simp [hattempt]
  obtain ⟨hexchange, -⟩ := ok_of_coherent hs a
  have hview : view ((dropNotice p s).updAssoc a (issued t)) a
      = View.withRecord { view s a with places := fun _ => 0 } (issued t (view s a).record) :=
    (view_updAssoc_bare ..).trans (by rw [view_dropNotice hs hqueue])
  have hmoves : MovesOnly a s ((dropNotice p s).updAssoc a (issued t)) :=
    (dropNotice_movesOnly hqueue).trans (updAssoc_movesOnly ..)
  have hjoin (body : EntryBody) (head : Bytes) (s : State) :
      Quiet s (bumpAssoc a .attemptsSent 1 (recordAgainst j (joinSequence p body head s))) :=
    .trans (.trans (joinSequence_quiet ..) (recordAgainst_quiet ..)) (bumpAssoc_quiet ..)
  have hrest := not_waitsOn_of_issued (x := issued t (s.assoc a)) rfl rfl
  unfold placeNotice
  refine (hjoin ..).coherent ?_
  split
  · show Coherent (exhaust a ((dropNotice p s).updAssoc a (issued t)))
    refine (hmoves.trans (exhaust_movesOnly ..)).coherent hs ?_
    rw [view_exhaust, hview]
    exact hfit.issued hattempt (ok_attempt (ok_exhausted hfit.ok htop (inService_of_exchange hok hsome)) hsome _) rfl rfl
      hrest
  · next hmark =>
    show Coherent ((dropNotice p s).updAssoc a (issued t))
    refine hmoves.coherent hs ?_
    rw [hview]
    refine hfit.issued hattempt (ok_attempt (ok_numbered hfit.ok htop fun h => ?_) hsome _) rfl rfl hrest
    replace h : (s.assoc a).state = .running ∨ (s.assoc a).state = .switching ∨ (s.assoc a).state = .suspended := h
    rcases hexchange hsome with hstate | hstate
    · exact fun hpn => hmark ⟨hstate, hpn⟩
    · simp [hstate] at h

end Notice

end Sys2Proof.Proofs
end

section
/-! SUPPORT. The requests and completions that bind a slot or free one keep every coherent state coherent: EXPAND_COMPLETE
(R73), KEY_LOAD (R70), KEY_ERASE (R74), and the requests on associations (R44 to R49, R159). -/

namespace Sys2Proof.Proofs

open Sys2Proof Sys2Proof.Machine

variable {a b : Anum} {k : SlotNum} {s t u : State} {v w : View} {x : Assoc}

/-! ## What the state of a record says that it holds (R42) -/

theorem attempt_none_of_ok (h : x.Ok) (hswitching : x.state ≠ .switching) (hexhausted : x.state ≠ .exhausted) :
    x.attempt = none := by
  obtain ⟨hexchange, -⟩ := h
  by_contra hattempt
  exact (hexchange hattempt).elim hswitching hexhausted

theorem current_none_of_ok (h : x.Ok) (hservice : x.state.inService = false) : x.current = none := by
  obtain ⟨-, -, hcurrent, -⟩ := h
  by_contra hsome
  simp [hcurrent.mp hsome] at hservice

theorem heldAs_other {x : Slot} (howner : x.owner = some a) (hb : b ≠ a) : heldAs b x = none :=
  if_neg fun h => hb (Option.some.inj (howner.symm.trans h.1)).symm

theorem heldAs_unowned {x : Slot} (howner : x.owner = none) (b : Anum) : heldAs b x = none :=
  if_neg fun h => by simp [howner] at h

/-! ## A slot expanded (R73) -/

/-- The LOADED slot of an association becomes READY. -/
theorem Fits.expanded (h : Fits v) (hk : v.held k = some .loaded) : Fits (v.withHeld k (some .ready)) where
  ok := h.ok
  current j := by
    refine (h.current j).trans ?_
    show v.held j = some .active ↔ (if j = k then some .ready else v.held j) = some .active
    split_ifs with hj <;> simp [hj, hk]
  next j := by
    refine (h.next j).trans ?_
    show _ ↔ (if j = k then some .ready else v.held j) = some .loaded ∨ (if j = k then some .ready else v.held j) = _
    split_ifs with hj <;> simp [hj, hk]
  exchange _ := ⟨k, if_pos rfl⟩
  placed := h.placed
  unplaced := h.unplaced

theorem completeExpansion_coherent (key : Bytes) (hs : Coherent s) (hstate : (s.slot k).state = .loaded) :
    Coherent (completeExpansion k key s) := by
  refine (raiseEvent_quiet ..).coherent ?_
  cases howner : (s.slot k).owner with
  | none =>
    refine (updSlot_quiet fun b => ?_).coherent hs
    rw [heldAs_unowned howner, heldAs_unowned (by exact howner)]
  | some a =>
    have hk : (view s a).held k = some .loaded := heldAs_of_owner howner hstate (by simp)
    refine (updSlot_movesOnly hk fun b hb => heldAs_other (a := a) (by exact howner) hb).coherent hs ?_
    rw [view_updSlot, heldAs_of_owner (m := .ready) (by exact howner) rfl (by simp)]
    exact (fits_of_coherent hs a).expanded hk

/-! ## A slot loaded (R70) -/

/-- An EMPTY slot becomes the next slot of an association in use that had none. -/
theorem Fits.loaded (h : Fits v) (hk : v.held k = none) (hnext : v.record.next = none)
    (hstate : v.record.state ≠ .idle) : Fits ((v.withHeld k (some .loaded)).withRecord { v.record with next := some k }) where
  ok := by
    obtain ⟨hattempt, hswitching, hcurrent, -, hrest⟩ := h.ok
    exact ⟨hattempt, hswitching, hcurrent, fun hidle => absurd hidle hstate, hrest⟩
  current j := by
    refine (h.current j).trans ?_
    show v.held j = some .active ↔ (if j = k then some .loaded else v.held j) = some .active
    split_ifs with hj <;> simp [hj, hk]
  next j := by
    show some k = some j ↔ (if j = k then some .loaded else v.held j) = some .loaded
      ∨ (if j = k then some .loaded else v.held j) = some .ready
    split_ifs with hj
    · simp [hj]
    · rw [← h.next j, hnext]
      simp [Ne.symm hj]
  exchange hattempt := by
    obtain ⟨j, hj⟩ := h.exchange hattempt
    have := (h.next j).mpr (.inr hj)
    simp [hnext] at this
  placed := h.placed
  unplaced := h.unplaced

theorem loadKey_coherent (epoch : Byte) (key : Unwrapped) (hs : Coherent s) (hempty : (s.slot k).state = .empty)
    (hstate : (s.assoc a).state ≠ .idle) (hnext : (s.assoc a).next = none) : Coherent (loadKey k a epoch key s) := by
  have hfree (b : Anum) : (view s b).held k = none := heldAs_eq_none (by simp [hempty]) b
  have hfifo (s : State) : Quiet s { s with expansionFifo := s.expansionFifo ++ [k] } := ⟨fun _ => rfl⟩
  have hmoves : MovesOnly a s (s.updSlot k fun _ => Slot.loadedWith a epoch key) :=
    ⟨fun b hb => by rw [view_updSlot, heldAs_other (a := a) rfl hb, View.withHeld_eq_self (hfree b)]⟩
  refine ((hfifo _).trans (arbitrate_quiet _)).coherent ((hmoves.trans (updAssoc_movesOnly ..)).coherent hs ?_)
  rw [show view _ a = _ from view_updAssoc_bare .., view_updSlot, heldAs_of_owner (m := .loaded) rfl rfl (by simp)]
  exact (fits_of_coherent hs a).loaded (hfree a) hnext hstate

theorem serveKeyLoad_coherent (slot anum epoch : Byte) (blob : Bytes) (hs : Coherent s) :
    Coherent (serveKeyLoad slot anum epoch blob s).state := by
  unfold serveKeyLoad
  split
  · exact hs
  · split
    · unfold serveLoad
      dsimp only
      split_ifs with hempty hidle hnext
      · exact hs
      · exact hs
      · exact hs
      · exact hs
      · exact hs
      · split
        · exact hs
        · exact loadKey_coherent epoch _ hs (not_not.mp hempty) hidle (not_not.mp hnext)
    · exact hs

/-! ## A slot erased (R74) -/

/-- A LOADED or READY slot is its owner's next slot; without an exchange both can let it go. -/
theorem eraseNext_owned_coherent (hs : Coherent s) (howner : (s.slot k).owner = some a) {m : SlotState}
    (hk : (view s a).held k = some m) (hm : m = .loaded ∨ m = .ready) (hattempt : (s.assoc a).attempt = none) :
    Coherent (eraseNext k s) := by
  have hfit := fits_of_coherent hs a
  have hlost : view (s.updAssoc a fun x => { x with next := none }) a
      = (view s a).withRecord { (view s a).record with next := none } := view_updAssoc_bare ..
  have hview (b : Anum) : view (eraseNext k s) b
      = (view (s.updAssoc a fun x => { x with next := none }) b).withHeld k none := by
    simp only [eraseNext, howner]
    rw [(withdrawVerifies_quiet ..).same, view_emptySlot]
  refine MovesOnly.coherent (a := a) ⟨fun b hb => ?_⟩ hs ?_
  · rw [hview, (updAssoc_movesOnly ..).others b hb, View.withHeld_eq_self (held_none_of_held hk hb)]
  · rw [hview, hlost]
    refine hfit.slotLost (k := k) (ok_nextLost hfit.ok) (fun j => ?_) (fun j => ?_) hattempt
      (fun p => hfit.unplaced p (not_waitsOn_of_attempt_none hattempt p)) fun _ => rfl
    · show (view s a).record.current = some j ↔ _ ∧ j ≠ k
      refine (and_iff_left_of_imp ?_).symm
      rintro hcurrent rfl
      exact current_ne_of_held hfit hk (by rcases hm with rfl | rfl <;> decide) hcurrent
    · show none = some j ↔ _
      rw [(hfit.next k).mpr (by rcases hm with rfl | rfl <;> simp [hk])]
      simp [eq_comm]

/-- While an exchange runs the next slot is READY (R74, R136), so the owner of a LOADED slot has none. -/
theorem attempt_none_of_loaded (hs : Coherent s) (hk : (view s a).held k = some .loaded) :
    (s.assoc a).attempt = none := by
  have hfit := fits_of_coherent hs a
  by_contra hexchange
  obtain ⟨j, hj⟩ := hfit.exchange hexchange
  obtain rfl : k = j :=
    Option.some.inj (((hfit.next k).mpr (.inl hk)).symm.trans ((hfit.next j).mpr (.inr hj)))
  rw [hk] at hj
  cases hj

theorem eraseNext_coherent (hs : Coherent s)
    (h : (s.slot k).state = .loaded ∨ (s.slot k).state = .ready ∧ ownerInExchange s k = false) :
    Coherent (eraseNext k s) := by
  cases howner : (s.slot k).owner with
  | none =>
    simp only [eraseNext, howner]
    exact (emptySlot_quiet (heldAs_unowned howner)).coherent hs
  | some a =>
    rcases h with hstate | ⟨hstate, hrest⟩
    · have hk := heldAs_of_owner howner hstate (by simp)
      exact eraseNext_owned_coherent hs howner hk (.inl rfl) (attempt_none_of_loaded hs hk)
    · have hattempt : (s.assoc a).attempt = none := by simpa [ownerInExchange, howner] using hrest
      exact eraseNext_owned_coherent hs howner (heldAs_of_owner howner hstate (by simp)) (.inr rfl) hattempt

theorem serveKeyErase_coherent (slot : Byte) (hs : Coherent s) : Coherent (serveKeyErase slot s).state := by
  unfold serveKeyErase
  split
  · exact hs
  · next k _ =>
    cases hstate : (s.slot k).state <;> dsimp only
    case empty => exact hs
    case loaded => exact eraseNext_coherent hs (.inl hstate)
    case ready =>
      split
      · exact hs
      · next h => exact eraseNext_coherent hs (.inr ⟨hstate, by simpa using h⟩)
    case active => exact hs
    case draining => exact hs
    case faulted =>
      split
      · exact (emptySlot_quiet (heldAs_eq_none (by simp [hstate]))).coherent hs
      · exact hs

/-! ## ASSOC_SET, ASSOC_START, ASSOC_SUSPEND, ASSOC_RESUME (R44 to R48) -/

theorem serveAssocSet_coherent (body : AssocSetBody) (hs : Coherent s) : Coherent (serveAssocSet body s).state := by
  unfold serveAssocSet
  split
  · exact hs
  · next a _ =>
    split
    · exact hs
    · next hstate =>
      split
      · exact hs
      · next y hy =>
        split
        · obtain ⟨port, protection, vlan, trigger, confirm, scale, -, ⟨hone, hless, hmax⟩, rfl⟩ :=
            configuredOf_eq_some_iff.mp hy
          have hok := ok_of_coherent hs a
          have hidle : (s.assoc a).state = .idle ∨ (s.assoc a).state = .configured := by tauto
          have hattempt : (s.assoc a).attempt = none := by
            rcases hidle with h | h <;> exact attempt_none_of_ok hok (by simp [h]) (by simp [h])
          have hcurrent : (s.assoc a).current = none := by
            rcases hidle with h | h <;> exact current_none_of_ok hok (by simp [h, AssocState.inService])
          refine updAssoc_coherent hs ?_ rfl rfl rfl (.inr hattempt)
          exact ⟨fun h => absurd hattempt h, nofun, ⟨fun h => absurd hcurrent h, nofun⟩, nofun, ⟨absurd rfl, nofun⟩,
            le_rfl, Nat.le_add_left .., by simp [configuredRecord], hone, hless, hmax⟩
        · exact hs

/-- The record of an association that starts (R46). -/
theorem ok_started (h : x.Ok) (hattempt : x.attempt = none) (k : SlotNum) (epoch : Byte) :
    (Assoc.started k epoch x).Ok := by
  obtain ⟨-, -, -, -, -, -, -, -, hone, hless, hmax⟩ := h
  exact ⟨fun h => absurd hattempt h, nofun, by simp [Assoc.started, AssocState.inService], nofun, ⟨absurd rfl, nofun⟩,
    le_rfl, Nat.le_add_left .., fun _ => hone.trans hless.le, hone, hless, hmax⟩

theorem startAssoc_coherent (hs : Coherent s) (hstate : (s.assoc a).state = .configured)
    (hnext : (s.assoc a).next = some k) (hready : (s.slot k).state = .ready) (epoch : Byte) :
    Coherent ((s.updSlot k fun x => { x with state := .active }).updAssoc a (Assoc.started k epoch)) := by
  have hfit := fits_of_coherent hs a
  have hok := ok_of_coherent hs a
  have hattempt : (s.assoc a).attempt = none := attempt_none_of_ok hok (by simp [hstate]) (by simp [hstate])
  have hcurrent : (s.assoc a).current = none := current_none_of_ok hok (by simp [hstate, AssocState.inService])
  obtain ⟨j, hj, hk⟩ := held_of_nextReady (a := a) hs (by simp [State.nextReady, hnext, hready])
  obtain rfl : k = j := Option.some.inj (hnext.symm.trans hj)
  obtain ⟨howner, -, -⟩ := heldAs_eq_some_iff.mp hk
  refine ((updSlot_movesOnly hk fun b hb => heldAs_other (a := a) (by exact howner) hb).trans
    (updAssoc_movesOnly ..)).coherent hs ?_
  rw [view_updAssoc_self, view_updSlot, heldAs_of_owner (m := .active) (by exact howner) rfl (by simp)]
  refine hfit.inService hk (not_waitsOn_of_attempt_none hattempt) (ok_started hok hattempt k epoch) rfl rfl hattempt
    (fun _ => rfl) fun j => ?_
  rw [current_record, hcurrent, if_neg (nofun : (none : Option SlotNum) ≠ some j)]
  rfl

theorem serveAssocStart_coherent (anum : Byte) (hs : Coherent s) : Coherent (serveAssocStart anum s).state := by
  unfold serveAssocStart
  split
  · exact hs
  · split
    · exact hs
    · next hstate =>
      split
      · exact hs
      · next k hnext =>
        split
        · exact hs
        · next hready => exact startAssoc_coherent hs (not_not.mp hstate) hnext (not_not.mp hready) _

theorem serveAssocSuspend_coherent (anum : Byte) (hs : Coherent s) : Coherent (serveAssocSuspend anum s).state := by
  unfold serveAssocSuspend
  split
  · exact hs
  · next a _ =>
    split
    · next hstate =>
      have hok := ok_of_coherent hs a
      have hattempt : (s.assoc a).attempt = none := attempt_none_of_ok hok (by simp [hstate]) (by simp [hstate])
      refine updAssoc_coherent hs ?_ rfl rfl rfl (.inl rfl)
      obtain ⟨-, -, hcurrent, -, hpending, hone, htop, hstop, hmarks⟩ := hok
      rw [hstate] at hcurrent
      exact ⟨fun h => absurd hattempt h, nofun, hcurrent, nofun, hpending, hone, htop, fun _ => hstop (.inl hstate), hmarks⟩
    · exact hs

theorem serveAssocResume_coherent (anum : Byte) (hs : Coherent s) : Coherent (serveAssocResume anum s).state := by
  unfold serveAssocResume
  split
  · exact hs
  · next a _ =>
    split
    · next hstate =>
      have hok := ok_of_coherent hs a
      have hattempt : (s.assoc a).attempt = none := attempt_none_of_ok hok (by simp [hstate]) (by simp [hstate])
      refine beginIfPending_coherent (updAssoc_coherent hs ?_ rfl rfl rfl (.inl rfl)) a
      obtain ⟨-, -, hcurrent, -, hpending, hone, htop, hstop, hmarks⟩ := hok
      rw [hstate] at hcurrent
      exact ⟨fun h => absurd hattempt h, nofun, hcurrent, nofun, hpending, hone, htop,
        fun _ => hstop (.inr (.inr hstate)), hmarks⟩
    · exact hs

/-! ## ASSOC_CLEAR (R49) -/

/-- The next slot of an association, if it has one, becomes EMPTY. -/
def nextEmptied : Option SlotNum → State → State
  | some k, s => emptySlot k s
  | none, s => s

theorem clearAssoc_eq (a : Anum) (s : State) : clearAssoc a s = withdrawVerifies a
    ((nextEmptied (s.assoc a).next (outgoingLeaves (s.assoc a).current (abandonExchange .clear s a))).updAssoc a
      Assoc.cleared) := by
  unfold clearAssoc
  cases (s.assoc a).current <;> cases (s.assoc a).next <;> rfl

theorem view_nextEmptied (o : Option SlotNum) (s : State) (b : Anum) :
    view (nextEmptied o s) b = (view s b).dropping o := by
  cases o with
  | none => exact (View.dropping_eq_self (by simp)).symm
  | some k => rw [nextEmptied, view_emptySlot, View.dropping_some]

theorem ok_cleared (x : Assoc) : x.cleared.Ok :=
  ⟨absurd rfl, nofun, ⟨absurd rfl, nofun⟩, fun _ => rfl, ⟨absurd rfl, nofun⟩, le_rfl, Nat.le_add_left ..,
    by simp [Assoc.cleared, Assoc.reset],
    le_rfl, Nat.one_lt_two, show 2 ≤ Config.stopMarkMax by decide⟩

/-- An association that holds nothing fits a record that names nothing. -/
theorem fits_of_nothing (hok : v.record.Ok) (hcurrent : v.record.current = none) (hnext : v.record.next = none)
    (hattempt : v.record.attempt = none) (hplaces : ∀ p, v.places p = 0) (hheld : ∀ j, v.held j = none) : Fits v where
  ok := hok
  current j := by simp [hcurrent, hheld]
  next j := by simp [hnext, hheld]
  exchange h := absurd hattempt h
  placed p h := absurd h (not_waitsOn_of_attempt_none hattempt p)
  unplaced p _ := hplaces p

/-- Of the slots of an association none is left in its service without the two that it names. -/
theorem held_dropping (hfit : Fits (view s a)) (j : SlotNum) :
    (((view s a).dropping (s.assoc a).current).dropping (s.assoc a).next).held j = none := by
  show (if (s.assoc a).next = some j then none else if (s.assoc a).current = some j then none
    else (view s a).held j) = none
  split_ifs with hnext hcurrent
  · rfl
  · rfl
  · by_contra hheld
    obtain ⟨m, hm⟩ := Option.ne_none_iff_exists'.mp hheld
    obtain ⟨-, -, rfl | rfl | rfl⟩ := heldAs_eq_some_iff.mp hm
    · exact hnext ((hfit.next j).mpr (.inl hm))
    · exact hnext ((hfit.next j).mpr (.inr hm))
    · exact hcurrent ((hfit.current j).mpr hm)

theorem clearAssoc_coherent (a : Anum) (hs : Coherent s) : Coherent (clearAssoc a s) := by
  have hfit := fits_of_coherent hs a
  obtain ⟨-, hswitching, -⟩ := hfit.ok
  have hrest : view (abandonExchange .clear s a) a = (view s a).atRest :=
    view_abandonExchange hswitching hfit.unplaced
  have hview (b : Anum) : view (nextEmptied (s.assoc a).next (outgoingLeaves (s.assoc a).current
      (abandonExchange .clear s a))) b
      = ((view (abandonExchange .clear s a) b).dropping (s.assoc a).current).dropping (s.assoc a).next := by
    rw [view_nextEmptied, view_outgoingLeaves]
  rw [clearAssoc_eq]
  refine (withdrawVerifies_quiet ..).coherent (MovesOnly.coherent (a := a) ⟨fun b hb => ?_⟩ hs ?_)
  · have hfree (j : SlotNum) {m : SlotState} (hj : (view s a).held j = some m) : (view s b).held j = none :=
      held_none_of_held hj hb
    rw [(updAssoc_movesOnly ..).others b hb, hview, (abandonExchange_movesOnly ..).others b hb,
      View.dropping_eq_self, View.dropping_eq_self]
    · exact fun j hj => hfree j ((hfit.current j).mp hj)
    · rw [View.dropping_eq_self]
      · exact fun j hj => ((hfit.next j).mp hj).elim (hfree j) (hfree j)
      · exact fun j hj => hfree j ((hfit.current j).mp hj)
  · rw [show view _ a = _ from view_updAssoc_bare a Assoc.cleared _, hview, hrest]
    exact fits_of_nothing (ok_cleared _) rfl rfl rfl (fun _ => rfl) fun j => held_dropping hfit j

theorem serveAssocClear_coherent (anum : Byte) (hs : Coherent s) : Coherent (serveAssocClear anum s).state := by
  unfold serveAssocClear
  split
  · exact hs
  · split
    · exact hs
    · exact clearAssoc_coherent _ hs

/-! ## SWITCH_NOW and TEST_CORRUPT (R100, R159) -/

/-- A switch that steps 5 and 6 of R159 let pass has its port and the inhibit state open to it (R131). -/
theorem open_of_not_blocked (h : ¬((s.assoc a).confirmPolicy = .confirmed ∧ switchBlocked s a = true)) :
    (s.assoc a).confirmPolicy = .unilateral
      ∨ ((s.port (s.assoc a).port).mode = .protect ∧ s.inhibit = .released) := by
  cases hpolicy : (s.assoc a).confirmPolicy with
  | unilateral => exact .inl rfl
  | confirmed =>
    cases hmode : (s.port (s.assoc a).port).mode <;> cases hinhibit : s.inhibit <;>
      simp_all [switchBlocked, State.inhibited]

theorem serveSwitchNow_coherent (anum : Byte) (hs : Coherent s) : Coherent (serveSwitchNow anum s).state := by
  unfold serveSwitchNow
  split
  · exact hs
  · next a _ =>
    dsimp only
    split_ifs with hstate hattempt hready hblocked
    · exact hs
    · exact hs
    · exact hs
    · exact hs
    · refine beginSwitch_coherent hs (canStart_iff.mpr ⟨by tauto, not_not.mp hattempt, by simpa using hready, ?_⟩)
      exact open_of_not_blocked hblocked

theorem serveTestCorrupt_coherent (anum action : Byte) (hs : Coherent s) :
    Coherent (serveTestCorrupt anum action s).state := by
  unfold serveTestCorrupt
  split
  · exact hs
  · next a _ =>
    split
    · exact hs
    · next y hy =>
      split
      · exact hs
      · refine (updAssoc_quiet ?_).coherent hs
        unfold corruptAction at hy
        split at hy <;> cases hy <;> rfl

end Sys2Proof.Proofs
end

section
/-! SUPPORT. The other operations that keep every coherent state coherent: frames and links, pulses, start-up and the inhibit
input, the remaining requests, and the management line. -/

namespace Sys2Proof.Proofs

open Sys2Proof Sys2Proof.Machine

variable {a : Anum} {k : SlotNum} {p : PortNum} {s t : State}

theorem foldl_coherent {α : Type} {f : State → α → State} (h : ∀ s x, Coherent s → Coherent (f s x)) (xs : List α)
    (hs : Coherent s) : Coherent (xs.foldl f s) := foldl_keeps Coherent f h xs s hs

/-! ## Frames received (R9 to R33, R117 to R123) -/

theorem steerFrame_quiet (p : PortNum) (f : Bytes) (s : State) : Quiet s (steerFrame p f s) := by
  have hprotect (a : Anum) (cls : ClassNum) (s : State) : Quiet s (steerProtect p a f cls s) := by
    have hdrop : Quiet s (bumpAssoc a .stateDrops 1 (bumpPort p .assocStateDrops 1 s)) :=
      (bumpPort_quiet ..).trans (bumpAssoc_quiet ..)
    have hport {t : State} (ht : Quiet s t) :
        Quiet s (if (s.assoc a).port ≠ p then bumpPort p .misdirectedDrops 1 s else t) := by
      split
      · exact bumpPort_quiet ..
      · exact ht
    unfold steerProtect
    dsimp only
    cases (s.assoc a).state with
    | idle => exact bumpPort_quiet ..
    | configured | suspended | faulted => exact hport hdrop
    | running | switching | exhausted => exact hport (admitFrame_quiet ..)
  have haction (action : Action) (cls : ClassNum) (c : PortCounter) (s : State) :
      Quiet s (applyAction p f action cls c s) := by
    cases action with
    | drop => exact bumpPort_quiet ..
    | pass => exact (bumpPort_quiet ..).trans (admitFrame_quiet ..)
    | protect a => exact hprotect ..
  have hhit (i : EntryIdx) (s : State) : Quiet s (countHit i s) := ⟨fun _ => rfl⟩
  have hoverlap (found : List EntryIdx) (s : State) : Quiet s (noteOverlap p found s) := by
    unfold noteOverlap
    split
    · exact (bumpPort_quiet ..).trans (raiseEvent_quiet ..)
    · exact .refl s
  unfold steerFrame
  dsimp only
  split
  · exact ((hhit ..).trans (hoverlap ..)).trans (haction ..)
  · exact haction ..

theorem receiveRack_quiet (p : PortNum) (f : Bytes) (s : State) : Quiet s (receiveRack p f s) := by
  have hcount : Quiet s (bumpPort p .octetsIn f.length (bumpPort p .framesIn 1 s)) :=
    (bumpPort_quiet ..).trans (bumpPort_quiet ..)
  have hpause (s : State) : Quiet s (applyRackPause p f s) := by
    unfold applyRackPause
    split
    · exact updPort_quiet
    · exact .refl s
  unfold receiveRack
  dsimp only
  split
  · exact hcount.trans (bumpPort_quiet ..)
  · split_ifs
    · exact hcount.trans (hpause _)
    · exact hcount.trans (bumpPort_quiet ..)
    · exact hcount.trans (steerFrame_quiet ..)

theorem receiveCampus_quiet (p : PortNum) (f : Bytes) (s : State) : Quiet s (receiveCampus p f s) := by
  unfold receiveCampus
  split
  · exact bumpPort_quiet ..
  · split
    · unfold applyCampusPause
      split
      · exact .trans updPort_quiet (bumpPort_quiet ..)
      · exact .refl s
    · split
      · refine .trans ?_ (arbitrate_quiet _)
        unfold captureControl
        split
        · exact .trans updPort_quiet (.trans (bumpPort_quiet ..) (checkCaptured_quiet ..))
        · exact (bumpPort_quiet ..).trans (raiseEvent_quiet ..)
      · unfold enqueueReturn
        split
        · exact updPort_quiet
        · exact (bumpPort_quiet ..).trans (raiseEvent_quiet ..)

/-! ## Links and transmitters (R14 to R16, R62) -/

theorem startSettling_quiet (p : PortNum) (s : State) : Quiet s (startSettling p s) := updPort_quiet

theorem linkUp_quiet (p : PortNum) (s : State) : Quiet s (linkUp p s) := .trans updPort_quiet (raiseEvent_quiet ..)

theorem loseLink_quiet (p : PortNum) (s : State) : Quiet s (loseLink p s) := by
  have hdown : Quiet s (s.updPort p fun x => { x with link := .down, campusPause := Vector.replicate 8 0 }) :=
    updPort_quiet
  have hcut (s : State) : Quiet s (cutCampusTx p s) := by
    unfold cutCampusTx
    split
    · exact .trans updPort_quiet (bumpPort_quiet ..)
    · exact .refl s
  refine hdown.trans (.trans ?_ (.trans (hcut _) (.trans (linkDownFlush_quiet ..) (discardHeads_quiet ..))))
  split
  · exact raiseEvent_quiet ..
  · exact .refl _

theorem countCampusTx_quiet (p : PortNum) (tx : CampusTx) (s : State) : Quiet s (countCampusTx p tx s) := by
  cases tx with
  | data a corrupted frame =>
    have hcounts := ((bumpPort_quiet p .protectedFramesOut 1 s).trans (bumpPort_quiet p .octetsOut frame.length _)).trans
      ((bumpAssoc_quiet a .framesProtected 1 _).trans (bumpAssoc_quiet a .plaintextOctets (frame.length - 32) _))
    unfold countCampusTx
    dsimp only
    split
    · exact hcounts.trans (bumpAssoc_quiet ..)
    · exact hcounts
  | notice a frame => exact bumpPort_quiet ..
  | pass frame => exact .refl s

/-! ## Pulses (R124 to R127, R143, R144, R164, R184) -/

theorem completeSelfTest_quiet (result : SelfTestResult) (s : State) : Quiet s (completeSelfTest result s) := by
  have hlane (s : State) (l : LaneNum) : Quiet s (failLane result s l) := by
    unfold failLane
    split
    · refine .trans ?_ (raiseEvent_quiet ..)
      exact ⟨fun _ => rfl⟩
    · exact .refl s
  have hkeys (s : State) : Quiet s (failKeyStore result s) := by
    unfold failKeyStore
    split
    · refine .trans ?_ (raiseEvent_quiet ..)
      exact ⟨fun _ => rfl⟩
    · exact .refl s
  have hbuffer (s : State) (p : PortNum) : Quiet s (failBuffer result s p) := by
    unfold failBuffer
    split
    · refine .trans ?_ (raiseEvent_quiet ..)
      exact ⟨fun _ => rfl⟩
    · exact .refl s
  have hstate (x : PartState) (s : State) : Quiet s { s with partState := x } := ⟨fun _ => rfl⟩
  exact ((foldl_quiet hlane allLanes s).trans (hkeys _)).trans ((foldl_quiet hbuffer allPorts _).trans (hstate ..))

theorem endDueSelfTest_quiet (s : State) : Quiet s (endDueSelfTest s) := by
  have hcount (n : Nat) (s : State) : Quiet s { s with openSelfTests := n } := ⟨fun _ => rfl⟩
  unfold endDueSelfTest
  split
  · exact (completeSelfTest_quiet ..).trans (hcount ..)
  · exact .refl s

theorem applyDrift_quiet (drift : Option KeyDrift) (s : State) : Quiet s (applyDrift drift s) := by
  cases drift with
  | none => exact .refl s
  | some d =>
    refine updSlot_quiet fun b => ?_
    unfold Slot.drifted
    split
    · cases d.field <;> rfl
    · rfl

theorem settlePulse_quiet (s : State) (p : PortNum) : Quiet s (settlePulse s p) := by
  unfold settlePulse
  split
  · split
    · exact linkUp_quiet ..
    · exact updPort_quiet
  · exact .refl s

theorem abandonRecord_quiet (got : Bytes) (s : State) : Quiet s (abandonRecord got s) := by
  have hhunt : Quiet s { s with receiver := .hunt } := ⟨fun _ => rfl⟩
  exact hhunt.trans (recordFault_quiet ..)

theorem gapPulse_quiet (s : State) : Quiet s (gapPulse s) := by
  unfold gapPulse
  split
  · split
    · exact abandonRecord_quiet ..
    · exact ⟨fun _ => rfl⟩
  · exact .refl s

theorem attemptPulse_coherent (a : Anum) (hs : Coherent s) : Coherent (attemptPulse s a) := by
  unfold attemptPulse
  split
  · next t hattempt =>
    split
    · next hissued =>
      split
      · exact endAttempt_coherent hs hattempt hissued
      · have hsome : (s.assoc a).attempt ≠ none := by simp [hattempt]
        refine (updAssoc_movesOnly ..).coherent hs ?_
        rw [view_updAssoc_self]
        refine (fits_of_coherent hs a).withRecord (x := bare _) (ok_attempt (ok_of_coherent hs a) hsome _) rfl rfl
          (fun _ => hsome) fun p => iff_of_false ?_ (not_waitsOn_of_issued (x := bare _) hattempt hissued p)
        exact not_waitsOn_of_issued (t := { t with pulses := t.pulses - 1 }) rfl hissued p
    · exact hs
  · exact hs

theorem lifetimePulse_coherent (scale : LifetimeScale) (a : Anum) (hs : Coherent s) :
    Coherent (lifetimePulse scale s a) := by
  have hcount : Coherent (s.updAssoc a fun y => { y with lifetimeRemaining := y.lifetimeRemaining - 1 }) :=
    Quiet.coherent updAssoc_quiet hs
  unfold lifetimePulse
  dsimp only
  split
  · split
    · exact handTrigger_coherent _ hcount
    · exact hcount
  · exact hs

theorem pulseUsers_coherent (hs : Coherent s) : Coherent (pulseUsers s) :=
  foldl_coherent (fun _ a => lifetimePulse_coherent .fine a) _ ((gapPulse_quiet _).coherent
    (foldl_coherent (fun _ a => attemptPulse_coherent a) _
      (scrub_coherent ((foldl_quiet settlePulse_quiet allPorts s).coherent hs))))

theorem finePulse_coherent (hs : Coherent s) : Coherent (finePulse s) := by
  have hcounts (n : Nat) : Quiet s { s with clockCount := 0, fineCount := n } := ⟨fun _ => rfl⟩
  have husers := pulseUsers_coherent ((hcounts ((s.fineCount + 1) % Config.finePerCoarse)).coherent hs)
  unfold finePulse
  dsimp only
  split
  · exact foldl_coherent (fun _ a => lifetimePulse_coherent .coarse a) _ husers
  · exact husers

theorem clockTick_coherent (hs : Coherent s) : Coherent (clockTick s) := by
  have hended := (endDueSelfTest_quiet s).coherent hs
  have hcount (n : Nat) (s : State) : Quiet s { s with clockCount := n } := ⟨fun _ => rfl⟩
  unfold clockTick countClock
  split
  · exact hs
  · split
    · exact finePulse_coherent hended
    · exact (hcount ..).coherent hended

/-! ## Start-up and the inhibit input (R183, R187, R188) -/

theorem endReset_quiet (s : State) : Quiet s (endReset s) := by
  have hsettle (s : State) (p : PortNum) : Quiet s (settleIfGood s p) := by
    unfold settleIfGood
    split
    · exact startSettling_quiet ..
    · exact .refl s
  have hinhibit (x : InhibitState) (s : State) : Quiet s { s with inhibit := x } := ⟨fun _ => rfl⟩
  unfold endReset
  dsimp only
  split
  · exact (foldl_quiet hsettle allPorts s).trans ((hinhibit ..).trans (raiseEvent_quiet ..))
  · exact (foldl_quiet hsettle allPorts s).trans (hinhibit ..)

theorem ok_reset : Assoc.reset.Ok := ok_cleared Assoc.reset

/-- A part whose associations, slots and control queues are as reset leaves them is coherent. -/
theorem coherent_of_reset (hassoc : s.assocs = Vector.replicate 64 .reset) (hslot : s.slots = Vector.replicate 128 .empty)
    (hport : s.ports = Vector.replicate 4 .reset) : Coherent s := by
  refine coherent_iff.mpr fun a => ?_
  have hrecord : s.assoc a = .reset := by rw [State.assoc, hassoc, row_replicate]
  have hview : view s a = { record := bare .reset, places := fun _ => 0, held := fun _ => none } := by
    refine view_ext (congrArg bare hrecord) (fun p => ?_) fun k => ?_
    · show (row s.ports p).controlQueue.count a = 0
      rw [hport, row_replicate]
      rfl
    · show heldAs a (row s.slots k) = none
      rw [hslot, row_replicate, heldAs_empty]
  rw [hview]
  exact fits_of_nothing ok_reset rfl rfl rfl (fun _ => rfl) fun _ => rfl

theorem hardReset_coherent (pins : Pins) (straps : Straps) (s : State) : Coherent (hardReset pins straps s) :=
  (endReset_quiet _).coherent (coherent_of_reset rfl rfl rfl)

theorem softReset_coherent (s : State) : Coherent (softReset s) :=
  (endReset_quiet _).coherent (coherent_of_reset rfl rfl rfl)

theorem assertInhibit_coherent (hs : Coherent s) : Coherent (assertInhibit s) := by
  have hassert : Quiet s { s with inhibit := .asserted } := ⟨fun _ => rfl⟩
  have hflush (s : State) (p : PortNum) : Quiet s (inhibitFlush s p) := by
    unfold inhibitFlush
    split
    · exact flushQueues_quiet ..
    · exact .refl s
  have hmark (s : State) (p : PortNum) : Quiet s (markEntries s p) := updPort_quiet
  have hdiscard (s : State) (p : PortNum) : Quiet s (discardHeads p s) := discardHeads_quiet ..
  unfold assertInhibit
  refine (foldl_quiet hdiscard allPorts _).coherent (foldl_coherent (fun _ _ => abandonExchange_coherent .inhibit) _ ?_)
  exact ((hassert.trans (raiseEvent_quiet ..)).trans
    ((foldl_quiet hflush allPorts _).trans (foldl_quiet hmark allPorts _))).coherent hs

theorem releaseInhibit_coherent (hs : Coherent s) : Coherent (releaseInhibit s) := by
  have hrelease : Quiet s { s with inhibit := .released } := ⟨fun _ => rfl⟩
  have hflush (s : State) (p : PortNum) : Quiet s (discardHeads p (linkDownFlush p s)) :=
    (linkDownFlush_quiet ..).trans (discardHeads_quiet ..)
  unfold releaseInhibit
  refine (foldl_quiet hflush allPorts _).coherent (foldl_coherent (fun _ a hs => beginIfPending_coherent hs a) _ ?_)
  exact (hrelease.trans (raiseEvent_quiet ..)).coherent hs

/-! ## Requests on ports, steering and reports -/

theorem servePortSet_coherent (body : PortSetBody) (hs : Coherent s) : Coherent (servePortSet body s).state := by
  unfold servePortSet
  split
  · exact hs
  · split
    · exact hs
    · split
      · exact hs
      · exact Quiet.coherent updPort_quiet hs

theorem servePortFlow_coherent (body : PortFlowBody) (hs : Coherent s) : Coherent (servePortFlow body s).state := by
  unfold servePortFlow
  split
  · exact hs
  · split
    · exact hs
    · split
      · exact hs
      · exact Quiet.coherent updPort_quiet hs

theorem servePortSwitch_coherent (port first last : Byte) (hs : Coherent s) :
    Coherent (servePortSwitch port first last s).state := by
  unfold servePortSwitch
  split
  · exact hs
  · split
    · exact hs
    · split
      · exact hs
      · exact Quiet.coherent updPort_quiet hs

theorem abandonPort_coherent (p : PortNum) (hs : Coherent s) : Coherent (abandonPort p s) := by
  refine foldl_coherent (fun s a hs => ?_) _ hs
  split
  · exact abandonExchange_coherent _ hs
  · exact hs

theorem portOff_coherent (p : PortNum) (hs : Coherent s) : Coherent (portOff p s) := by
  have hoff : Quiet s (s.updPort p fun x => { x with mode := .off }) := updPort_quiet
  exact ((removeEntries_quiet ..).trans (discardHeads_quiet ..)).coherent
    (abandonPort_coherent p ((hoff.trans (flushQueues_quiet ..)).coherent hs))

theorem portProtect_coherent (p : PortNum) (hs : Coherent s) : Coherent (portProtect p s) := by
  have hprotect : Quiet s (s.updPort p fun x => { x with mode := .protect }) := updPort_quiet
  refine foldl_coherent (fun s a hs => ?_) _
    ((hprotect.trans ((linkDownFlush_quiet ..).trans (discardHeads_quiet ..))).coherent hs)
  split
  · exact beginIfPending_coherent hs a
  · exact hs

theorem servePortMode_coherent (port mode : Byte) (hs : Coherent s) : Coherent (servePortMode port mode s).state := by
  unfold servePortMode
  split
  · split
    · exact hs
    · split
      · dsimp only [done]
        exact portOff_coherent _ hs
      · split
        · exact hs
        · dsimp only [done]
          exact portProtect_coherent _ hs
  · exact hs

theorem servePortGet_coherent (port : Byte) (hs : Coherent s) : Coherent (servePortGet port s).state := by
  unfold servePortGet
  split <;> exact hs

theorem updEntry_quiet (i : EntryIdx) (f : SteerEntry → SteerEntry) (s : State) : Quiet s (s.updEntry i f) :=
  ⟨fun _ => rfl⟩

theorem serveSteerSet_coherent (body : SteerSetBody) (hs : Coherent s) : Coherent (serveSteerSet body s).state := by
  unfold serveSteerSet
  split
  · exact hs
  · split
    · exact hs
    · split
      · exact hs
      · exact (updEntry_quiet ..).coherent hs

theorem serveSteerGet_coherent (index : Byte) (hs : Coherent s) : Coherent (serveSteerGet index s).state := by
  unfold serveSteerGet
  split <;> exact hs

theorem serveSteerLock_coherent (index : Byte) (hs : Coherent s) : Coherent (serveSteerLock index s).state := by
  unfold serveSteerLock
  split
  · exact hs
  · split
    · exact hs
    · exact (updEntry_quiet ..).coherent hs

theorem serveSteerClear_coherent (index : Byte) (hs : Coherent s) : Coherent (serveSteerClear index s).state := by
  unfold serveSteerClear
  split
  · exact hs
  · split
    · exact hs
    · exact (updEntry_quiet ..).coherent hs

theorem serveAssocGet_coherent (anum : Byte) (hs : Coherent s) : Coherent (serveAssocGet anum s).state := by
  unfold serveAssocGet
  split <;> exact hs

theorem serveSlotGet_coherent (slot : Byte) (hs : Coherent s) : Coherent (serveSlotGet slot s).state := by
  unfold serveSlotGet
  split <;> exact hs

theorem serveTransportKey_coherent (key : Bytes) (hs : Coherent s) : Coherent (serveTransportKey key s).state := by
  have hkey : Quiet s { s with transportKey := some key } := ⟨fun _ => rfl⟩
  unfold serveTransportKey
  split
  · exact hs
  · split
    · exact hs
    · exact hkey.coherent hs

theorem serveEventsFetch_coherent (count maskWrite : Byte) (mask : BitVec 32) (hs : Coherent s) :
    Coherent (serveEventsFetch count maskWrite mask s).state := by
  unfold serveEventsFetch
  split
  · exact hs
  · exact Quiet.coherent (s := s) ⟨fun _ => rfl⟩ hs

theorem serveFaultsRead_coherent (hs : Coherent s) : Coherent (serveFaultsRead s).state :=
  Quiet.coherent (s := s) ⟨fun _ => rfl⟩ hs

theorem withPorts_quiet {v : Vector Port 4} (h : ∀ p, (row v p).controlQueue = (s.port p).controlQueue) :
    Quiet s { s with ports := v } :=
  quiet_of_rows (fun _ => rfl) h fun _ _ => rfl

theorem withAssocs_quiet {v : Vector Assoc 64} (h : ∀ a, bare (row v a) = bare (s.assoc a)) :
    Quiet s { s with assocs := v } :=
  quiet_of_rows h (fun _ => rfl) fun _ _ => rfl

theorem withSteering_quiet {v : Vector SteerEntry 128} : Quiet s { s with steering := v } := ⟨fun _ => rfl⟩

theorem clearCounters_quiet (block : CounterBlock) (first used : Nat) (s : State) :
    Quiet s (clearCounters block first used s) := by
  cases block
  case port =>
    refine withPorts_quiet fun p => ?_
    rw [row_mapRange]
    split <;> rfl
  case assoc =>
    refine withAssocs_quiet fun a => ?_
    rw [row_mapRange]
    split <;> rfl
  case steer => exact withSteering_quiet

theorem serveCountersRead_coherent (block first count clear : Byte) (hs : Coherent s) :
    Coherent (serveCountersRead block first count clear s).state := by
  unfold serveCountersRead
  split
  · exact hs
  · split
    · exact hs
    · split
      · exact hs
      · dsimp only [done]
        split
        · exact (clearCounters_quiet ..).coherent hs
        · exact hs

/-! ## The management line (R163 to R168) -/

theorem serveCommand_coherent (c : Instr) (hs : Coherent s) : Coherent (serveCommand c s).state := by
  cases c
  case portSet => exact servePortSet_coherent _ hs
  case portMode => exact servePortMode_coherent _ _ hs
  case portGet => exact servePortGet_coherent _ hs
  case portFlow => exact servePortFlow_coherent _ hs
  case portSwitch => exact servePortSwitch_coherent _ _ _ hs
  case steerSet => exact serveSteerSet_coherent _ hs
  case steerGet => exact serveSteerGet_coherent _ hs
  case steerLock => exact serveSteerLock_coherent _ hs
  case steerClear => exact serveSteerClear_coherent _ hs
  case assocSet => exact serveAssocSet_coherent _ hs
  case assocStart => exact serveAssocStart_coherent _ hs
  case assocSuspend => exact serveAssocSuspend_coherent _ hs
  case assocResume => exact serveAssocResume_coherent _ hs
  case assocClear => exact serveAssocClear_coherent _ hs
  case assocGet => exact serveAssocGet_coherent _ hs
  case testCorrupt => exact serveTestCorrupt_coherent _ _ hs
  case switchNow => exact serveSwitchNow_coherent _ hs
  case transportKey => exact serveTransportKey_coherent _ hs
  case keyLoad => exact serveKeyLoad_coherent _ _ _ _ hs
  case keyErase => exact serveKeyErase_coherent _ hs
  case slotGet => exact serveSlotGet_coherent _ hs
  case eventsFetch => exact serveEventsFetch_coherent _ _ _ hs
  case faultsRead => exact serveFaultsRead_coherent hs
  case countersRead => exact serveCountersRead_coherent _ _ _ _ hs
  all_goals exact hs

theorem recordArrives_coherent {kind tag : Byte} {deal : State → Served}
    (hdeal : ∀ s, Coherent s → Coherent (deal s).state) (hs : Coherent s) :
    Coherent (recordArrives kind tag deal s) := by
  have hcounted : Coherent (counted s) := Quiet.coherent (s := s) ⟨fun _ => rfl⟩ hs
  have howe (x : Option Reply) (s : State) : Quiet s { s with replyOwed := x } := ⟨fun _ => rfl⟩
  have hbusy (x : Option BusyMark) (s : State) : Quiet s { s with busyOwed := x } := ⟨fun _ => rfl⟩
  unfold recordArrives
  dsimp only
  split
  · exact (howe ..).coherent (hdeal _ hcounted)
  · exact (hbusy (some { kind := kind, tag := tag }) _).coherent hcounted
  · exact (recordFault_quiet ..).coherent hcounted
  · exact (recordFault_quiet ..).coherent hcounted

theorem takeRequest_coherent {kind : RequestKind} {n : Nat} {serve : State → Served}
    (hserve : ∀ s, Coherent s → Coherent (serve s).state) (hs : Coherent s) :
    Coherent (takeRequest kind n serve s).state := by
  unfold takeRequest
  split
  · exact hs
  · split
    · exact hs
    · exact hserve s hs

theorem completeRecord_coherent (r : Record) (hs : Coherent s) : Coherent (completeRecord r s) := by
  refine recordArrives_coherent (fun s hs => ?_) hs
  unfold dealRecord takeRecord
  split
  · split
    · exact takeRequest_coherent (fun _ => serveCommand_coherent _) hs
    · exact (recordFault_quiet ..).coherent hs
  · exact (recordFault_quiet ..).coherent hs

theorem receiveByte_coherent (byte : Byte) (stopBit : Bool) (hs : Coherent s) :
    Coherent (receiveByte byte stopBit s) := by
  have hreceiver (x : Receiver) : Quiet s { s with receiver := x } := ⟨fun _ => rfl⟩
  unfold receiveByte
  split
  · split
    · exact (hreceiver _).coherent hs
    · exact hs
  · split
    · unfold recordByte
      dsimp only
      split_ifs
      · exact (hreceiver _).coherent hs
      · exact ((hreceiver _).trans (recordFault_quiet ..)).coherent hs
      · exact (hreceiver _).coherent hs
      · exact completeRecord_coherent _ hs
    · exact (abandonRecord_quiet ..).coherent hs

end Sys2Proof.Proofs
end

section
/-! SUPPORT. Every command keeps the slot binding, and none faults in a coherent state (R66, R74, R140). -/

namespace Sys2Proof.Proofs

open Sys2Proof Sys2Proof.Machine

variable {a : Anum} {k : SlotNum} {p : PortNum} {s t : State}

/-! ## Results that keep the binding -/

/-- What a step answers is a coherent state, or a refusal. -/
def Keeps : Result → Prop
  | .next t => Coherent t
  | .fault _ => False
  | .refused _ => True

theorem keeps_next (h : Coherent t) : Keeps (.next t) := h

theorem keeps_refused (r : Refusal) : Keeps (.refused r) := trivial

theorem unlessHeld_keeps (hs : Coherent s) {act : Result} (h : Keeps act) : Keeps (unlessHeld s act) := by
  unfold unlessHeld
  split
  · exact hs
  · exact h

theorem ite_keeps {c : Prop} [Decidable c] {x y : Result} (hx : c → Keeps x) (hy : ¬c → Keeps y) :
    Keeps (if c then x else y) := by
  split
  · exact hx ‹_›
  · exact hy ‹_›

theorem Keeps.no_fault {r : Result} (h : Keeps r) (f : Fault) : r ≠ .fault f := by
  rintro rfl
  exact h

theorem Keeps.coherent {r : Result} (h : Keeps r) (hr : r = .next t) : Coherent t := by
  subst hr
  exact h

theorem requestArrives_keeps {kind : RequestKind} {tag : Byte} {n : Nat} {serve : State → Served}
    (hserve : ∀ s, Coherent s → Coherent (serve s).state) (hs : Coherent s) :
    Keeps (requestArrives kind tag n serve s) :=
  unlessHeld_keeps hs (recordArrives_coherent (fun _ => takeRequest_coherent hserve) hs)

/-! ## Resets, the self-test and the inhibit input (R183 to R188) -/

theorem setPins_quiet (pins : Pins) (s : State) : Quiet s { s with pins := pins } := ⟨fun _ => rfl⟩

theorem cutOff_coherent (hs : Coherent s) : Coherent { s with
    pins := { s.pins with resetLow := true }
    ports := mapRows s.ports Port.cutOff
    replyOwed := none
    busyOwed := none } := by
  have hports : Quiet s { s with ports := mapRows s.ports Port.cutOff } :=
    withPorts_quiet fun p => by rw [row_mapRows]; rfl
  have hrest (s : State) (pins : Pins) : Quiet s { s with pins := pins, replyOwed := none, busyOwed := none } :=
    ⟨fun _ => rfl⟩
  exact (hports.trans (hrest _ _)).coherent hs

theorem execPinResetAssert_keeps (hs : Coherent s) : Keeps (execPinResetAssert s) :=
  ite_keeps (fun _ => keeps_refused _) fun _ => cutOff_coherent hs

theorem execPinResetRelease_keeps (rate : Fin 4) (clear : Bool) : Keeps (execPinResetRelease rate clear s) :=
  ite_keeps (fun _ => hardReset_coherent ..) fun _ => keeps_refused _

theorem execSelftestComplete_keeps (result : SelfTestResult) (hs : Coherent s) : Keeps (execSelftestComplete result s) :=
  unlessHeld_keeps hs (ite_keeps (fun _ => (completeSelfTest_quiet ..).coherent hs) fun _ => keeps_refused _)

theorem execInhibitAssert_keeps (hs : Coherent s) : Keeps (execInhibitAssert s) :=
  have hpin : Coherent (setInhibitPin true s) := (setPins_quiet ..).coherent hs
  ite_keeps (fun _ => hpin) fun _ => ite_keeps (fun _ => keeps_refused _) fun _ => assertInhibit_coherent hpin

theorem execInhibitRelease_keeps (hs : Coherent s) : Keeps (execInhibitRelease s) :=
  have hpin : Coherent (setInhibitPin false s) := (setPins_quiet ..).coherent hs
  ite_keeps (fun _ => hpin) fun _ => ite_keeps (fun _ => keeps_refused _) fun _ => releaseInhibit_coherent hpin

/-! ## Pulses and quanta (R106, R124, R127, R144, R164) -/

theorem execFinePulse_keeps (drift : Option KeyDrift) (hs : Coherent s) : Keeps (execFinePulse drift s) :=
  unlessHeld_keeps hs (finePulse_coherent ((applyDrift_quiet ..).coherent ((endDueSelfTest_quiet s).coherent hs)))

theorem execCoarsePulse_keeps (drift : Option KeyDrift) (hs : Coherent s) : Keeps (execCoarsePulse drift s) :=
  unlessHeld_keeps hs
    (ite_keeps (fun _ => finePulse_coherent ((applyDrift_quiet ..).coherent hs)) fun _ => keeps_next hs)

theorem execLifetimeExpiry_keeps (a : Anum) (hs : Coherent s) : Keeps (execLifetimeExpiry a s) :=
  unlessHeld_keeps hs (ite_keeps (fun _ => lifetimePulse_coherent _ a hs) fun _ => keeps_next hs)

theorem execAttemptTimeout_keeps (a : Anum) (hs : Coherent s) : Keeps (execAttemptTimeout a s) :=
  unlessHeld_keeps hs (ite_keeps (fun _ => attemptPulse_coherent a hs) fun _ => keeps_next hs)

theorem execGapExpiry_keeps (hs : Coherent s) : Keeps (execGapExpiry s) :=
  unlessHeld_keeps hs (ite_keeps (fun _ => (gapPulse_quiet s).coherent hs) fun _ => keeps_next hs)

theorem execQuantumTick_keeps (hs : Coherent s) : Keeps (execQuantumTick s) :=
  unlessHeld_keeps hs (Quiet.coherent (withPorts_quiet fun p => by rw [row_mapRows]; rfl) hs)

theorem execPauseRefreshDue_keeps (p : PortNum) (k : ClassNum) (hs : Coherent s) : Keeps (execPauseRefreshDue p k s) :=
  unlessHeld_keeps hs (ite_keeps (fun _ => Quiet.coherent updPort_quiet hs) fun _ => keeps_next hs)

theorem execCampusPauseEnd_keeps (p : PortNum) (q : Prio) (hs : Coherent s) : Keeps (execCampusPauseEnd p q s) :=
  unlessHeld_keeps hs (ite_keeps (fun _ => Quiet.coherent updPort_quiet hs) fun _ => keeps_next hs)

theorem execRackPauseEnd_keeps (p : PortNum) (q : Prio) (hs : Coherent s) : Keeps (execRackPauseEnd p q s) :=
  unlessHeld_keeps hs (ite_keeps (fun _ => Quiet.coherent updPort_quiet hs) fun _ => keeps_next hs)

/-! ## Link reports and frames received (R8 to R17, R115, R119) -/

theorem execLinkGood_keeps (p : PortNum) (hs : Coherent s) : Keeps (execLinkGood p s) :=
  have hpin : Coherent (setCampusPin p true s) := (setPins_quiet ..).coherent hs
  ite_keeps (fun _ => hpin) fun _ => ite_keeps (fun _ => (startSettling_quiet ..).coherent hpin) fun _ => keeps_refused _

theorem execLinkSettled_keeps (p : PortNum) (hs : Coherent s) : Keeps (execLinkSettled p s) :=
  unlessHeld_keeps hs (ite_keeps (fun _ => (linkUp_quiet ..).coherent hs) fun _ => keeps_next hs)

theorem execLinkLost_keeps (p : PortNum) (hs : Coherent s) : Keeps (execLinkLost p s) :=
  have hpin : Coherent (setCampusPin p false s) := (setPins_quiet ..).coherent hs
  ite_keeps (fun _ => hpin) fun _ => ite_keeps (fun _ => keeps_refused _) fun _ => (loseLink_quiet ..).coherent hpin

theorem execRackLinkLost_keeps (p : PortNum) (hs : Coherent s) : Keeps (execRackLinkLost p s) := by
  have hpin : Coherent (setRackPin p false s) := (setPins_quiet ..).coherent hs
  refine ite_keeps (fun _ => hpin) fun _ => ite_keeps (fun _ => keeps_refused _) fun _ => ?_
  dsimp only
  split
  · exact Quiet.coherent updPort_quiet hpin
  · exact Quiet.coherent updPort_quiet hpin
  · exact hpin

theorem execRackLinkGood_keeps (p : PortNum) (hs : Coherent s) : Keeps (execRackLinkGood p s) :=
  have hpin : Coherent (setRackPin p true s) := (setPins_quiet ..).coherent hs
  ite_keeps (fun _ => hpin) fun _ => ite_keeps (fun _ => keeps_refused _) fun _ => hpin

theorem execRsideFrameReceived_keeps (p : PortNum) (f : Bytes) (hs : Coherent s) : Keeps (execRsideFrameReceived p f s) :=
  unlessHeld_keeps hs (ite_keeps (fun _ => (receiveRack_quiet ..).coherent hs) fun _ => keeps_next hs)

theorem execCsideFrameReceived_keeps (p : PortNum) (f : Bytes) (hs : Coherent s) : Keeps (execCsideFrameReceived p f s) :=
  unlessHeld_keeps hs (ite_keeps (fun _ => keeps_next hs) fun _ =>
    ite_keeps (fun _ => (bumpPort_quiet ..).coherent hs) fun _ => (receiveCampus_quiet ..).coherent hs)

/-! ## Completions of the lanes (R73, R82, R87, R94) -/

theorem execTransformComplete_keeps (l : LaneNum) (hs : Coherent s) : Keeps (execTransformComplete l s) := by
  have hfree : Quiet s (freeLane l s) := setLane_quiet ..
  have hhand (p : PortNum) (frame : Bytes) (s : State) : Quiet s (handFrame p l frame s) := updPort_quiet
  refine unlessHeld_keeps hs ?_
  split
  · split
    · refine keeps_next (((tidySequence_quiet ..).trans (arbitrate_quiet _)).coherent ?_)
      split
      · exact (hfree.trans (removeEntries_quiet ..)).coherent hs
      · exact (hfree.trans (hhand ..)).coherent hs
    · exact keeps_refused _
  · exact keeps_refused _

theorem execExpandComplete_keeps (l : LaneNum) (hs : Coherent s) : Keeps (execExpandComplete l s) := by
  have hfree : Coherent (freeLane l s) := (setLane_quiet ..).coherent hs
  refine unlessHeld_keeps hs ?_
  split
  · next k key live _ =>
    refine ite_keeps (fun hlive => ?_) fun _ => keeps_next ((arbitrate_quiet _).coherent hfree)
    obtain ⟨-, hloaded⟩ := hlive
    have hexpanded : Coherent (completeExpansion k key (freeLane l s)) := completeExpansion_coherent key hfree hloaded
    refine keeps_next ((arbitrate_quiet _).coherent ?_)
    split
    · exact beginIfPending_coherent hexpanded _
    · exact hexpanded
  · exact keeps_refused _

theorem execVerifyComplete_keeps (l : LaneNum) (hs : Coherent s) : Keeps (execVerifyComplete l s) := by
  have hfree : Coherent (freeLane l s) := (setLane_quiet ..).coherent hs
  refine unlessHeld_keeps hs ?_
  split
  · exact keeps_next ((arbitrate_quiet _).coherent (applyVerdict_coherent _ _ _ hfree))
  · exact keeps_refused _

/-! ## The schedulers and the transmitters (R15, R51 to R56, R113 to R121, R141) -/

theorem dequeueProtected_served {frame : Bytes} (hstate : (s.assoc a).state = .running ∨ (s.assoc a).state = .switching)
    (hk : (s.assoc a).current = some k) : dequeueProtected p a frame s = if (s.assoc a).port ≠ p
      then .ok (bumpPort p .misdirectedDrops 1 s) else .ok (arbitrate (tidySequence p (numberFrame p a k frame s))) := by
  rcases hstate with h | h <;> simp only [dequeueProtected, h, hk]

/-- A frame steered to PROTECT finds a current slot wherever it would be numbered (R42). -/
theorem dequeueProtected_keeps (p : PortNum) (a : Anum) (frame : Bytes) (hs : Coherent s) :
    Keeps (Result.ofExcept (dequeueProtected p a frame s)) := by
  have hchoice {x y : State} (hx : Coherent x) (hy : Coherent y) :
      Keeps (Result.ofExcept (if (s.assoc a).port ≠ p then .ok x else .ok y)) := by
    split
    · exact hx
    · exact hy
  have hmisdirected : Coherent (bumpPort p .misdirectedDrops 1 s) := (bumpPort_quiet ..).coherent hs
  have hdrop (c : AssocCounter) : Coherent (bumpAssoc a c 1 (bumpPort p .assocStateDrops 1 s)) :=
    ((bumpPort_quiet ..).trans (bumpAssoc_quiet ..)).coherent hs
  by_cases hstate : (s.assoc a).state = .running ∨ (s.assoc a).state = .switching
  · obtain ⟨k, hk⟩ := current_of_inService (ok_of_coherent hs a) (by rcases hstate with h | h <;> rw [h] <;> rfl)
    rw [dequeueProtected_served hstate hk]
    exact hchoice hmisdirected
      (((tidySequence_quiet ..).trans (arbitrate_quiet _)).coherent (numberFrame_coherent p k frame hs hstate))
  · unfold dequeueProtected
    dsimp only
    split
    · exact (bumpPort_quiet ..).coherent hs
    · exact hchoice hmisdirected (hdrop .stateDrops)
    · exact hchoice hmisdirected (hdrop .stateDrops)
    · exact hchoice hmisdirected (hdrop .stateDrops)
    · exact hchoice hmisdirected (hdrop .exhaustDrops)
    · next h => exact absurd (.inl h) hstate
    · next h => exact absurd (.inr h) hstate

theorem execDequeueDecision_keeps (p : PortNum) (hs : Coherent s) : Keeps (execDequeueDecision p s) := by
  refine unlessHeld_keeps hs (ite_keeps (fun _ => keeps_next hs) fun _ => ?_)
  split
  · exact keeps_next hs
  · split
    · exact keeps_next hs
    · have htaken (k : ClassNum) : Coherent (takeHead p k s) := (takeHead_quiet ..).coherent hs
      dsimp only
      split
      · exact ((joinSequence_quiet ..).trans ((tidySequence_quiet ..).trans (arbitrate_quiet _))).coherent (htaken _)
      · exact dequeueProtected_keeps _ _ _ (htaken _)

/-- An association whose notice waits has its attempt, its current and its next slot (R66, R140). -/
theorem execNoticePlacement_keeps (p : PortNum) (hs : Coherent s) : Keeps (execNoticePlacement p s) := by
  refine unlessHeld_keeps hs (ite_keeps (fun _ => keeps_next hs) fun _ => ?_)
  split
  · exact keeps_next hs
  · next a _ hqueue =>
    refine ite_keeps (fun _ => giveUpHead_coherent _ _ hs hqueue) fun htop => ?_
    obtain ⟨t, j, k, hattempt, hcurrent, hnext⟩ := exchange_of_head hs hqueue
    rw [hattempt, hcurrent, hnext]
    exact ((tidySequence_quiet ..).trans (arbitrate_quiet _)).coherent
      (placeNotice_coherent hs hqueue (Nat.le_of_not_lt htop) hattempt j k)

theorem execCsideTxStart_keeps (p : PortNum) (hs : Coherent s) : Keeps (execCsideTxStart p s) := by
  have hsend (tx : CampusTx) : Quiet s (s.updPort p fun x => { x with campusTx := some tx }) := updPort_quiet
  refine unlessHeld_keeps hs ?_
  split
  · exact ite_keeps
      (fun _ => ((hsend _).trans ((dropHead_quiet ..).trans (tidySequence_quiet ..))).coherent hs) fun _ => keeps_next hs
  · exact keeps_next hs

theorem execCsideTxComplete_keeps (p : PortNum) (hs : Coherent s) : Keeps (execCsideTxComplete p s) := by
  have hsent : Coherent (s.updPort p fun x => { x with campusTx := none }) := Quiet.coherent updPort_quiet hs
  refine unlessHeld_keeps hs ?_
  split
  · exact (countCampusTx_quiet ..).coherent hsent
  · exact keeps_refused _

theorem execRsideTxStart_keeps (p : PortNum) (hs : Coherent s) : Keeps (execRsideTxStart p s) := by
  refine unlessHeld_keeps hs (ite_keeps (fun _ => keeps_next hs) fun _ =>
    ite_keeps (fun _ => Quiet.coherent updPort_quiet hs) fun _ => ?_)
  split
  · exact Quiet.coherent updPort_quiet hs
  · exact keeps_next hs

theorem execRsideTxComplete_keeps (p : PortNum) (hs : Coherent s) : Keeps (execRsideTxComplete p s) := by
  have hsent : Coherent (s.updPort p fun x => { x with rackTx := none }) := Quiet.coherent updPort_quiet hs
  refine unlessHeld_keeps hs ?_
  dsimp only
  split
  · exact (bumpPort_quiet ..).coherent hsent
  · exact (bumpPort_quiet ..).coherent hsent
  · exact keeps_refused _

theorem execReplySent_keeps (hs : Coherent s) : Keeps (execReplySent s) := by
  have hsent (r : Option Reply) : Quiet s { s with replyOwed := r } := ⟨fun _ => rfl⟩
  have hbusy (b : Option BusyMark) : Quiet s { s with busyOwed := b } := ⟨fun _ => rfl⟩
  refine unlessHeld_keeps hs ?_
  split
  · exact keeps_refused _
  · exact ite_keeps (fun _ => softReset_coherent s) fun _ => (hsent none).coherent hs
  · exact (hbusy none).coherent hs

/-! ## Every command -/

theorem exec_keeps (c : Instr) (hs : Coherent s) : Keeps (exec c s) := by
  cases c
  case powerOn => exact hardReset_coherent ..
  case pinResetAssert => exact execPinResetAssert_keeps hs
  case pinResetRelease => exact execPinResetRelease_keeps ..
  case selftestComplete => exact execSelftestComplete_keeps _ hs
  case inhibitAssert => exact execInhibitAssert_keeps hs
  case inhibitRelease => exact execInhibitRelease_keeps hs
  case finePulse => exact execFinePulse_keeps _ hs
  case coarsePulse => exact execCoarsePulse_keeps _ hs
  case lifetimeExpiry => exact execLifetimeExpiry_keeps _ hs
  case linkGood => exact execLinkGood_keeps _ hs
  case linkSettled => exact execLinkSettled_keeps _ hs
  case linkLost => exact execLinkLost_keeps _ hs
  case rackLinkLost => exact execRackLinkLost_keeps _ hs
  case rackLinkGood => exact execRackLinkGood_keeps _ hs
  case rsideFrameReceived => exact execRsideFrameReceived_keeps _ _ hs
  case csideFrameReceived => exact execCsideFrameReceived_keeps _ _ hs
  case transformComplete => exact execTransformComplete_keeps _ hs
  case expandComplete => exact execExpandComplete_keeps _ hs
  case verifyComplete => exact execVerifyComplete_keeps _ hs
  case attemptTimeout => exact execAttemptTimeout_keeps _ hs
  case dequeueDecision => exact execDequeueDecision_keeps _ hs
  case noticePlacement => exact execNoticePlacement_keeps _ hs
  case csideTxStart => exact execCsideTxStart_keeps _ hs
  case csideTxComplete => exact execCsideTxComplete_keeps _ hs
  case rsideTxStart => exact execRsideTxStart_keeps _ hs
  case rsideTxComplete => exact execRsideTxComplete_keeps _ hs
  case quantumTick => exact execQuantumTick_keeps hs
  case pauseRefreshDue => exact execPauseRefreshDue_keeps _ _ hs
  case campusPauseEnd => exact execCampusPauseEnd_keeps _ _ hs
  case rackPauseEnd => exact execRackPauseEnd_keeps _ _ hs
  case mgmtByteReceived => exact unlessHeld_keeps hs (receiveByte_coherent _ _ hs)
  case gapExpiry => exact execGapExpiry_keeps hs
  case recordComplete => exact unlessHeld_keeps hs (completeRecord_coherent _ hs)
  case replySent => exact execReplySent_keeps hs
  case identify => exact requestArrives_keeps (fun _ => id) hs
  case reset => exact requestArrives_keeps (fun _ => id) hs
  case portSet => exact requestArrives_keeps (fun _ => servePortSet_coherent _) hs
  case portMode => exact requestArrives_keeps (fun _ => servePortMode_coherent _ _) hs
  case portGet => exact requestArrives_keeps (fun _ => servePortGet_coherent _) hs
  case portFlow => exact requestArrives_keeps (fun _ => servePortFlow_coherent _) hs
  case portSwitch => exact requestArrives_keeps (fun _ => servePortSwitch_coherent _ _ _) hs
  case steerSet => exact requestArrives_keeps (fun _ => serveSteerSet_coherent _) hs
  case steerGet => exact requestArrives_keeps (fun _ => serveSteerGet_coherent _) hs
  case steerLock => exact requestArrives_keeps (fun _ => serveSteerLock_coherent _) hs
  case steerClear => exact requestArrives_keeps (fun _ => serveSteerClear_coherent _) hs
  case assocSet => exact requestArrives_keeps (fun _ => serveAssocSet_coherent _) hs
  case assocStart => exact requestArrives_keeps (fun _ => serveAssocStart_coherent _) hs
  case assocSuspend => exact requestArrives_keeps (fun _ => serveAssocSuspend_coherent _) hs
  case assocResume => exact requestArrives_keeps (fun _ => serveAssocResume_coherent _) hs
  case assocClear => exact requestArrives_keeps (fun _ => serveAssocClear_coherent _) hs
  case assocGet => exact requestArrives_keeps (fun _ => serveAssocGet_coherent _) hs
  case testCorrupt => exact requestArrives_keeps (fun _ => serveTestCorrupt_coherent _ _) hs
  case switchNow => exact requestArrives_keeps (fun _ => serveSwitchNow_coherent _) hs
  case transportKey => exact requestArrives_keeps (fun _ => serveTransportKey_coherent _) hs
  case keyLoad => exact requestArrives_keeps (fun _ => serveKeyLoad_coherent _ _ _ _) hs
  case keyErase => exact requestArrives_keeps (fun _ => serveKeyErase_coherent _) hs
  case slotGet => exact requestArrives_keeps (fun _ => serveSlotGet_coherent _) hs
  case eventsFetch => exact requestArrives_keeps (fun _ => serveEventsFetch_coherent _ _ _) hs
  case faultsRead => exact requestArrives_keeps (fun _ => serveFaultsRead_coherent) hs
  case countersRead => exact requestArrives_keeps (fun _ => serveCountersRead_coherent _ _ _ _) hs

theorem step_keeps (hs : Coherent s) : Keeps (step s) := by
  unfold step
  split
  · exact clockTick_coherent hs
  · next c rest _ =>
    have hpending : Quiet s { s with pending := rest } := ⟨fun _ => rfl⟩
    exact exec_keeps c (hpending.coherent hs)

/-! ## The roles of a slot (R66) -/

theorem owner_of_role (hs : Coherent s) (hk : (s.assoc a).current = some k ∨ (s.assoc a).next = some k) :
    (s.slot k).owner = some a := by
  have hfit := fits_of_coherent hs a
  rcases hk with hk | hk
  · exact (heldAs_eq_some_iff.mp ((hfit.current k).mp hk)).1
  · rcases (hfit.next k).mp hk with h | h
    · exact (heldAs_eq_some_iff.mp h).1
    · exact (heldAs_eq_some_iff.mp h).1

theorem next_ne_of_current (hs : Coherent s) (hk : (s.assoc a).current = some k) : (s.assoc a).next ≠ some k :=
  have hfit := fits_of_coherent hs a
  next_ne_of_held hfit ((hfit.current k).mp hk)

theorem role_of_owner (hs : Coherent s) (howner : (s.slot k).owner = some a)
    (hstate : (s.slot k).state = .loaded ∨ (s.slot k).state = .ready ∨ (s.slot k).state = .active) :
    (s.assoc a).current = some k ∨ (s.assoc a).next = some k := by
  have hfit := fits_of_coherent hs a
  have hheld : (view s a).held k = some (s.slot k).state := heldAs_of_owner howner rfl hstate
  rcases hstate with h | h | h
  · exact .inr ((hfit.next k).mpr (.inl (h ▸ hheld)))
  · exact .inr ((hfit.next k).mpr (.inr (h ▸ hheld)))
  · exact .inl ((hfit.current k).mpr (h ▸ hheld))

end Sys2Proof.Proofs
end

section

namespace Sys2Proof.Proofs

open Sys2Proof Sys2Proof.Machine

/-- Settles O55: coherence asks of every association that its view fits; each operation changes no view, or changes views
that fit again, and the two fault arms of the schedulers need a record that no coherent state holds. -/
theorem everyStepKeepsTheSlotBinding : Obligations.EveryStepKeepsTheSlotBinding := by
  refine ⟨fun s hs => ⟨(step_keeps hs).no_fault, fun t => (step_keeps hs).coherent⟩, fun s hs => ⟨?_, ?_, ?_⟩⟩
  · intro a b k ha hb
    exact Option.some.inj ((owner_of_role hs ha).symm.trans (owner_of_role hs hb))
  · rintro a k ⟨hcurrent, hnext⟩
    exact next_ne_of_current hs hcurrent hnext
  · intro a k howner hstate
    exact role_of_owner hs howner hstate

end Sys2Proof.Proofs
end

section
/-! SUPPORT. A slot that is emptied is no longer expanded (R72, R73), and the withdrawal of verifications expands nothing
(R90). -/

namespace Sys2Proof.Proofs

open Sys2Proof Sys2Proof.Machine

variable {a : Anum} {k : SlotNum} {s t : State}

/-! ## A request outside RUNNING -/

/-- A kind that is taken in RUNNING alone finds the part NOT_READY elsewhere (R168). -/
theorem requestArrives_notReady {kind : RequestKind} {tag : Byte} {n : Nat} {serve : State → Served}
    (h : NotRunning s) (hkind : ∀ x, x ≠ .running → kind.takenIn x = false) :
    requestArrives kind tag n serve s = .next (owingRefusal (replyKind kind.code) tag 0x10 (counted s)) := by
  obtain ⟨hreset, hreply, hbusy, hpart⟩ := h
  have hrefuse : takeRequest kind n serve (counted s) = refuse .notReady (counted s) := if_pos (hkind _ hpart)
  rw [requestArrives, unlessHeld_released hreset, recordArrives_idle _ _ _ _ hreply hbusy, hrefuse,
    oweReply_refuse _ _ _ _ (by decide)]
  rfl

/-! ## What a slot is emptied of -/

/-- No request for the slot's expansion waits, and the result of no lane will be kept for it (R72, R73). -/
structure Unexpanded (k : SlotNum) (s : State) : Prop where
  waiting : k ∉ s.expansionFifo
  live : ∀ l key, s.lane l ≠ .busy (.expand k key true)

theorem dropExpansion_unexpanded (k : SlotNum) (s : State) : Unexpanded k (dropExpansion k s) where
  waiting := by simp [dropExpansion]
  live l key := by
    rw [State.lane, dropExpansion, row_mapRows]
    split
    · intro h
      simp only [Lane.busy.injEq, LaneOp.expand.injEq] at h
      obtain ⟨rfl, -, hlive⟩ := h
      simp at hlive
    · next hlane => exact hlane _ _ _

theorem lane_of_withdrawVerifies_expand (a : Anum) (s : State) {l : LaneNum} {key : Bytes} {live : Bool}
    (h : (withdrawVerifies a s).lane l = .busy (.expand k key live)) : s.lane l = .busy (.expand k key live) := by
  unfold withdrawVerifies at h
  dsimp only at h
  rw [State.lane, foldl_same State.lanes (fun s (r : VerifyReq) => failCaptured r.port r.place .staleReplies s)
    (fun _ _ => rfl), row_mapRows] at h
  split at h
  · cases h
  · exact h

theorem Unexpanded.withdrawVerifies (h : Unexpanded k s) (a : Anum) : Unexpanded k (withdrawVerifies a s) where
  waiting := by
    obtain ⟨-, _, _, _, heq⟩ := withdrawVerifies_verifyFrame a s
    rw [heq]
    exact h.waiting
  live l key hlane := h.live l key (lane_of_withdrawVerifies_expand a s hlane)

theorem eventsLost_withdrawVerifies (a : Anum) (s : State) : (withdrawVerifies a s).eventsLost = s.eventsLost := by
  obtain ⟨-, _, _, _, heq⟩ := withdrawVerifies_verifyFrame a s
  rw [heq]

/-- The slot became EMPTY, its expansion was given up, no other slot changed and no event was raised (R74, R79). -/
structure Emptied (k : SlotNum) (s t : State) : Prop where
  slot : t.slot k = Slot.empty
  others : ∀ j, j ≠ k → t.slot j = s.slot j
  unexpanded : Unexpanded k t
  events : t.events = s.events
  lost : t.eventsLost = s.eventsLost

theorem emptySlot_emptied (k : SlotNum) (s : State) : Emptied k s (emptySlot k s) where
  slot := slot_emptySlot_self k s
  others _ hj := slot_emptySlot_ne s hj.symm
  unexpanded := ⟨(dropExpansion_unexpanded k s).waiting, (dropExpansion_unexpanded k s).live⟩
  events := rfl
  lost := rfl

theorem Emptied.withdrawVerifies (h : Emptied k s t) (a : Anum) : Emptied k s (withdrawVerifies a t) where
  slot := (slot_withdrawVerifies ..).trans h.slot
  others j hj := (slot_withdrawVerifies ..).trans (h.others j hj)
  unexpanded := h.unexpanded.withdrawVerifies a
  events := (events_withdrawVerifies ..).trans h.events
  lost := (eventsLost_withdrawVerifies ..).trans h.lost

/-! ## The slot of an owner is erased -/

theorem eraseNext_eq (howner : (s.slot k).owner = some a) : eraseNext k s
    = withdrawVerifies a (emptySlot k (s.updAssoc a fun x => { x with next := none })) := by
  simp only [eraseNext, howner]

theorem eraseNext_emptied (howner : (s.slot k).owner = some a) : Emptied k s (eraseNext k s) := by
  have hempty := emptySlot_emptied k (s.updAssoc a fun x => { x with next := none })
  rw [eraseNext_eq howner]
  exact Emptied.withdrawVerifies (s := s) ⟨hempty.slot, hempty.others, hempty.unexpanded, hempty.events, hempty.lost⟩ a

theorem assoc_emptySlot (k : SlotNum) (b : Anum) (s : State) : (emptySlot k s).assoc b = s.assoc b := rfl

theorem assoc_eraseNext_self (howner : (s.slot k).owner = some a) :
    (eraseNext k s).assoc a = { s.assoc a with next := none } := by
  rw [eraseNext_eq howner, assoc_withdrawVerifies, assoc_emptySlot, State.assoc_updAssoc_self]

theorem assoc_eraseNext_ne (howner : (s.slot k).owner = some a) {c : Anum} (hc : c ≠ a) :
    (eraseNext k s).assoc c = s.assoc c := by
  rw [eraseNext_eq howner, assoc_withdrawVerifies, assoc_emptySlot, State.assoc_updAssoc_ne _ _ hc.symm]

theorem ownerInExchange_eq (howner : (s.slot k).owner = some a) :
    ownerInExchange s k = (s.assoc a).attempt.isSome := by
  simp only [ownerInExchange, howner]

end Sys2Proof.Proofs
end

section
/-! SUPPORT. KEY_ERASE: what it answers in each state of the slot (R74). -/

namespace Sys2Proof.Proofs

open Sys2Proof Sys2Proof.Machine

section KeyErase

variable {tag b : Byte} {status : Status} {a : Anum} {k : SlotNum} {s t : State}

theorem serveKeyErase_empty (hk : b.toNat = k.val) (hstate : (s.slot k).state = .empty) :
    serveKeyErase b s = done [] s := by
  simp only [serveKeyErase, inRange_eq_some_iff.mpr hk, hstate]

theorem serveKeyErase_next (hk : b.toNat = k.val) (howner : (s.slot k).owner = some a)
    (hstate : (s.slot k).state = .loaded ∨ (s.slot k).state = .ready ∧ (s.assoc a).attempt = none) :
    serveKeyErase b s = done [] (eraseNext k s) := by
  rcases hstate with hloaded | ⟨hready, hattempt⟩
  · simp only [serveKeyErase, inRange_eq_some_iff.mpr hk, hloaded]
  · simp [serveKeyErase, inRange_eq_some_iff.mpr hk, hready, ownerInExchange_eq howner, hattempt]

theorem serveKeyErase_exchange (hk : b.toNat = k.val) (howner : (s.slot k).owner = some a)
    (hready : (s.slot k).state = .ready) (hattempt : (s.assoc a).attempt ≠ none) :
    serveKeyErase b s = refuse .inUse s := by
  simp [serveKeyErase, inRange_eq_some_iff.mpr hk, hready, ownerInExchange_eq howner, Option.isSome_iff_ne_none.mpr hattempt]

theorem serveKeyErase_inService (hk : b.toNat = k.val) (hstate : (s.slot k).state = .active ∨ (s.slot k).state = .draining) :
    serveKeyErase b s = refuse .inUse s := by
  rcases hstate with h | h <;> simp only [serveKeyErase, inRange_eq_some_iff.mpr hk, h]

theorem serveKeyErase_faulted (hk : b.toNat = k.val) (hstate : (s.slot k).state = .faulted) : serveKeyErase b s
    = if (s.slot k).inFlight = 0 then done [] (emptySlot k s) else refuse .inUse s := by
  simp only [serveKeyErase, inRange_eq_some_iff.mpr hk, hstate]

theorem exec_keyErase_notReady (h : NotRunning s) :
    exec (.keyErase tag b) s = .next (owingRefusal 0x96 tag 0x10 (counted s)) :=
  requestArrives_notReady (kind := .keyErase) h fun x hx => by
    cases x
    case testing => rfl
    case running => exact absurd rfl hx
    case halted => rfl

theorem exec_keyErase_refused (h : TakesRequests s)
    (hserve : serveKeyErase b (counted s) = refuse status (counted s)) (hstatus : status ≠ .ok) :
    exec (.keyErase tag b) s = .next (owingRefusal 0x96 tag status.code (counted s)) :=
  requestArrives_refused (kind := .keyErase) h (by decide) hserve hstatus

theorem exec_keyErase_done (h : TakesRequests s) (hserve : serveKeyErase b (counted s) = done [] t) :
    exec (.keyErase tag b) s = .next (owingOk 0x96 tag [] t) :=
  requestArrives_done (kind := .keyErase) h (by decide) hserve

end KeyErase

/-- Settles O50: one answer for each state of the slot, and an emptied slot is neither waiting for an expansion nor awaiting
one from a lane. -/
theorem keyEraseEmptiesTheSlot : Obligations.KeyEraseEmptiesTheSlot := by
  intro tag b s
  refine ⟨exec_keyErase_notReady, fun htakes hb => ?range, fun k htakes hk => ?_⟩
  case range =>
    have hserve : serveKeyErase b (counted s) = refuse .badValue (counted s) := by
      simp only [serveKeyErase, inRange_eq_none hb]
    exact exec_keyErase_refused htakes hserve (by decide)
  refine ⟨fun hempty => ?empty, fun a howner hstate => ?next, fun a howner hready hattempt => ?exchange,
    fun hstate => ?inService, fun hfaulted hnone => ?faulted, fun hfaulted hsome => ?draining⟩
  case empty => exact exec_keyErase_done htakes (serveKeyErase_empty hk hempty)
  case next =>
    have hstep := exec_keyErase_done (tag := tag) htakes (serveKeyErase_next (s := counted s) hk howner hstate)
    obtain ⟨hslot, hothers, ⟨hwaiting, hlive⟩, hevents, hlost⟩ := eraseNext_emptied (s := counted s) howner
    exact ⟨_, hstep, ⟨rfl, hslot, hothers, hwaiting, hlive, hevents, hlost⟩, assoc_eraseNext_self (s := counted s) howner,
      fun c hc => assoc_eraseNext_ne (s := counted s) howner hc⟩
  case exchange => exact exec_keyErase_refused htakes (serveKeyErase_exchange hk howner hready hattempt) (by decide)
  case inService => exact exec_keyErase_refused htakes (serveKeyErase_inService hk hstate) (by decide)
  case faulted =>
    have hserve := (serveKeyErase_faulted (s := counted s) hk hfaulted).trans (if_pos hnone)
    obtain ⟨hslot, hothers, ⟨hwaiting, hlive⟩, hevents, hlost⟩ := emptySlot_emptied k (counted s)
    exact ⟨_, exec_keyErase_done htakes hserve, ⟨rfl, hslot, hothers, hwaiting, hlive, hevents, hlost⟩, rfl⟩
  case draining =>
    have hserve := (serveKeyErase_faulted (s := counted s) hk hfaulted).trans (if_neg (Nat.pos_iff_ne_zero.mp hsome))
    exact exec_keyErase_refused htakes hserve (by decide)

end Sys2Proof.Proofs
end

section
/-! SUPPORT. A class queue whose records change: the port it leaves behind, the holding indication evaluated at the new
occupancy (R111, R112). -/

namespace Sys2Proof.Proofs

open Sys2Proof Sys2Proof.Machine

/-! ## Tables and ports written twice -/

theorem setRow_row {α : Type} {n : Nat} (v : Vector α n) (i : Fin n) : setRow v i (row v i) = v :=
  Vector.set_getElem_self _

theorem updRow_updRow {α : Type} {n : Nat} (v : Vector α n) (i : Fin n) (f g : α → α) :
    updRow (updRow v i f) i g = updRow v i (g ∘ f) := by
  refine ext_rows fun j => ?_
  by_cases h : i = j
  · subst h
    simp only [row_updRow_self, Function.comp]
  · simp only [row_updRow_ne _ _ h]

theorem updPort_updPort (s : State) (p : PortNum) (f g : Port → Port) :
    (s.updPort p f).updPort p g = s.updPort p (g ∘ f) := by
  simp only [State.updPort, updRow_updRow]

/-! ## The port after a change of a class queue -/

variable {x : Port} {k : ClassNum} {f : List FrameRecord → List FrameRecord}

/-- The cells of a class queue after a change of its records. -/
def cellsAfter (k : ClassNum) (f : List FrameRecord → List FrameRecord) (x : Port) : Nat :=
  ((f (row x.queues k)).map FrameRecord.cells).sum

/-- The port once the records of a class queue changed and its holding indication was evaluated at their cells: a change of
the indication owes a pause frame, and one that becomes set restarts the refresh count (R111, R112). -/
def requeued (k : ClassNum) (f : List FrameRecord → List FrameRecord) (x : Port) : Port :=
  let now := x.holdsAt k (cellsAfter k f x)
  { x with
    queues := updRow x.queues k f
    holding := setRow x.holding k now
    pauseOwed := x.pauseOwed || row x.holding k != now
    refresh := if row x.holding k = false ∧ now = true then setRow x.refresh k 0 else x.refresh }

/-- The indication that the model evaluates is the threshold rule at the records' cells. -/
theorem holdingAfter_updQueue (k : ClassNum) (f : List FrameRecord → List FrameRecord) (x : Port) :
    Port.holdingAfter { x with queues := updRow x.queues k f } k = x.holdsAt k (cellsAfter k f x) := by
  have hcells : Port.occupancy { x with queues := updRow x.queues k f } k = cellsAfter k f x := by
    simp only [Port.occupancy, row_updRow_self, cellsAfter]
  simp only [Port.holdingAfter, hcells, Port.holdsAt]
  cases x.flow.pauseEnable <;> rfl

/-- Evaluating the holding indication after a change of a class queue makes the port `requeued`. -/
theorem evalHolding_updQueue (p : PortNum) (k : ClassNum) (f : List FrameRecord → List FrameRecord) (s : State) :
    evalHolding p k (s.updPort p fun x => { x with queues := updRow x.queues k f }) = s.updPort p (requeued k f) := by
  rw [evalHolding, updPort_updPort]
  congr 1
  funext x
  simp only [Function.comp, holdingAfter_updQueue, requeued]
  generalize x.holdsAt k _ = now
  split
  · next hsame => simp [hsame, setRow_row]
  · next hchanged =>
    have howed : (row x.holding k != now) = true := bne_iff_ne.mpr (Ne.symm hchanged)
    have hrises : (row x.holding k = false ∧ now = true) ↔ now = true :=
      and_iff_right_of_imp fun hnow => Bool.eq_false_iff.mpr (hnow ▸ Ne.symm hchanged)
    simp only [howed, hrises, Bool.or_true]

theorem row_queues_requeued (j : ClassNum) :
    row (requeued k f x).queues j = if j = k then f (row x.queues j) else row x.queues j := by
  by_cases h : j = k
  · subst h
    simp only [requeued, row_updRow_self, if_true]
  · simp only [requeued, row_updRow_ne _ _ (Ne.symm h), if_neg h]

theorem row_holding_requeued (j : ClassNum) : row (requeued k f x).holding j
    = if j = k then x.holdsAt j (cellsAfter k f x) else row x.holding j := by
  by_cases h : j = k
  · subst h
    simp only [requeued, row_setRow_self, if_true]
  · simp only [requeued, row_setRow_ne _ _ (Ne.symm h), if_neg h]

theorem row_refresh_requeued (j : ClassNum) : row (requeued k f x).refresh j
    = if j = k ∧ row x.holding j = false ∧ x.holdsAt j (cellsAfter k f x) = true then 0
      else row x.refresh j := by
  by_cases h : j = k
  · subst h
    simp only [requeued, true_and]
    rw [apply_ite (row · j), row_setRow_self]
  · simp only [requeued, h, false_and, if_false]
    rw [apply_ite (row · j), row_setRow_ne _ _ (Ne.symm h), ite_self]

end Sys2Proof.Proofs
end

section
/-! SUPPORT. Admission to the egress buffer: flushed, queued or tail-dropped (R104, R109). -/

namespace Sys2Proof.Proofs

open Sys2Proof Sys2Proof.Machine

section Admission

variable {p : PortNum} {r : FrameRecord} {s : State}

/-- The link-down flush is in force in PROTECT under the FLUSH policy, with the link not UP and no inhibit (R109). -/
theorem flushInForce_iff : s.flushInForce p = true ↔ (s.port p).mode = .protect
    ∧ (s.port p).settings.linkDownPolicy = .flush ∧ (s.port p).link ≠ .up ∧ s.inhibit = .released := by
  have hinhibit : s.inhibited = false ↔ s.inhibit = .released := by
    cases h : s.inhibit <;> simp [State.inhibited, h]
  simp [State.flushInForce, hinhibit, and_assoc]

theorem admitFrame_flushed (hflush : s.flushInForce p = true) : admitFrame p r s = bumpPort p .linkDownFlush 1 s :=
  if_pos hflush

theorem admitFrame_dropped (hflush : ¬s.flushInForce p = true)
    (hfull : row (s.port p).flow.ceiling r.cls < (s.port p).occupancy r.cls + r.cells) :
    admitFrame p r s
      = raiseEvent .bufferDrop (.port p) (BitVec.ofNat 16 r.cls.val) (bumpPort p (.bufferDrops r.cls) 1 s) := by
  rw [admitFrame, if_neg hflush, if_neg hfull.not_ge]

theorem admitFrame_queued (hflush : ¬s.flushInForce p = true)
    (hfits : (s.port p).occupancy r.cls + r.cells ≤ row (s.port p).flow.ceiling r.cls) :
    admitFrame p r s = s.updPort p (requeued r.cls (· ++ [r])) := by
  rw [admitFrame, if_neg hflush, if_pos hfits]
  exact evalHolding_updQueue p r.cls (· ++ [r]) s

theorem cellsAfter_append (x : Port) (r : FrameRecord) :
    cellsAfter r.cls (· ++ [r]) x = x.occupancy r.cls + r.cells := by
  simp [cellsAfter, Port.occupancy]

end Admission

/-- Settles O18: three exclusive outcomes; a record that joins its queue leaves the port `requeued` with it at the tail. -/
theorem egressAdmission : Obligations.EgressAdmission := by
  intro p r s
  dsimp only
  rw [← flushInForce_iff]
  refine ⟨admitFrame_flushed, admitFrame_dropped, fun hflush hfits => ⟨_, admitFrame_queued hflush hfits, ?_⟩⟩
  rw [State.port_updPort_self, ← cellsAfter_append]
  exact ⟨row_queues_requeued, row_holding_requeued, rfl, row_refresh_requeued, rfl,
    fun q hq => State.port_updPort_ne s _ hq.symm, rfl⟩

end Sys2Proof.Proofs
end

section
/-! SUPPORT. What a step is made of: the elementary changes of the state, each with what its place in the commands says of it,
and the chains of them. Every command but the ends of a reset is such a chain, so what each change keeps, every step keeps. -/

/-! One theorem is checked after another, as in the tests, which bounds the threads that the whole text takes. -/

set_option Elab.async false

namespace Sys2Proof.Proofs

open Sys2Proof Sys2Proof.Machine

/-! ## What an elementary change may do to one row -/

/-- Every counter of a record is at most the top value (R180). -/
def Bounded {n : Nat} (v : Vector Nat n) : Prop := ∀ i, row v i ≤ Config.counterMax

/-- The lane that an entry is in (R93). -/
def laneOf (e : Entry) : Option LaneNum :=
  match e.status with
  | .inLane l => some l
  | .waitingLane => none
  | .done => none

/-- A port whose transform sequence stands. It enters PROTECT only in RUNNING (R185). -/
structure PortMove (s : State) (x y : Port) : Prop where
  sequence : y.sequence = x.sequence
  counters : Bounded x.counters → Bounded y.counters
  ok : x.Ok → y.Ok
  mode : y.mode = .protect → x.mode = .protect ∨ s.partState = .running

/-- An association that takes no number and no new slot: its key in service, its numbering and its port stand, or it has no key
in service (R57). -/
structure AssocMove (s₀ : State) (x y : Assoc) : Prop where
  counters : Bounded x.counters → Bounded y.counters
  next : y.next = none ∨ y.next = x.next
  current : Coherent s₀ → y.current = none ∨ y.current = x.current ∧ x.nextPn = y.nextPn ∧ y.switchMark = x.switchMark
    ∧ y.stopMark = x.stopMark ∧ y.port = x.port

/-- An association whose next slot becomes its current one (R46, R157). -/
structure EntersService (s₀ s : State) (a : Anum) (k : SlotNum) (y : Assoc) : Prop where
  counters : y.counters = (s.assoc a).counters
  wasNext : (s.assoc a).next = some k
  current : y.current = some k
  next : y.next = none
  fresh : Coherent s₀ → (s.slot k).state = .ready ∧ (s.assoc a).current ≠ some k

/-- A slot in which no entry of a sequence counts (R64). -/
def Uncounted (x : Slot) : Prop := x.state = .empty ∨ x.state = .loaded ∨ x.state = .ready

/-- A slot whose in-flight count stands, or is 0 as it stood (R64, R76). -/
structure SlotMove (s₀ : State) (x y : Slot) : Prop where
  ok : Coherent s₀ → x.Ok → y.Ok
  uncounted : Coherent s₀ → Uncounted y → Uncounted x ∨ x.inFlight = 0
  inFlight : y.inFlight = x.inFlight ∨ y.inFlight = 0 ∧ Uncounted y
  draining : y.state = .draining → x.state = .draining ∨ 1 ≤ x.inFlight

/-- A lane but for the marks that its result is no longer wanted (R73, R90). -/
def laneShape : Lane → Lane
  | .busy (.verify r copy _) => .busy (.verify r copy false)
  | .busy (.expand k key _) => .busy (.expand k key false)
  | .busy (.transform p copy clp) => .busy (.transform p copy clp)
  | .idle => .idle
  | .outOfService => .outOfService

/-- A lane is BUSY with a TRANSFORM. -/
def isTransform : Lane → Bool
  | .busy (.transform _ _ _) => true
  | .busy (.verify _ _ _) => false
  | .busy (.expand _ _ _) => false
  | .idle => false
  | .outOfService => false

/-- In a part that holds every port OFF outside RUNNING and no lane BUSY in TESTING, the state is not TESTING (R184, R185). -/
def Tested (s₀ s : State) : Prop := HeldOff s₀ → LanesOk s₀ → s.partState ≠ .testing

/-- A lane that takes or ends an operation other than a TRANSFORM, or fails the self-test (R91, R184). -/
structure LaneMove (s₀ s : State) (l : LaneNum) (x : Lane) : Prop where
  was : isTransform (s.lane l) = false ∨ s.partState = .testing
  now : isTransform x = false
  expand : x.isExpand = true → expandCount s < Config.expandCap
  busy : (∃ op, x = .busy op) → Tested s₀ s

/-- An association takes its next number for an entry under its current slot (R53, R56). -/
structure TakesNumber (s₀ s : State) (p : PortNum) (a : Anum) (k : SlotNum) (body : EntryBody) (y : Assoc) : Prop where
  counters : y.counters = (s.assoc a).counters
  current : (s.assoc a).current = some k
  port : Coherent s₀ → (s.assoc a).port = p
  body : ∀ frame status m d, Entry.slot? ⟨body, frame, status, m, d⟩ = some k
    ∧ Entry.pn? ⟨body, frame, status, m, d⟩ = some (s.assoc a).nextPn
  room : (s.port p).sequence.length < Config.sequenceCapacity
  keeps : y.current = some k ∧ y.next = (s.assoc a).next ∧ y.nextPn = (s.assoc a).nextPn + 1
    ∧ y.switchMark = (s.assoc a).switchMark ∧ y.stopMark = (s.assoc a).stopMark ∧ y.port = (s.assoc a).port
  alone : Coherent s₀ → ∀ b, (s.assoc b).current = some k → b = a
  active : Coherent s₀ → (s.slot k).state = .active
  range : Coherent s₀ → 1 ≤ (s.assoc a).nextPn ∧ (s.assoc a).nextPn ≤ Config.pnMax

/-- A steering entry that is locked stays but for its hits (R25). -/
structure EntryMove (x y : SteerEntry) : Prop where
  hits : x.hits ≤ Config.counterMax → y.hits ≤ Config.counterMax
  locked : x.locked = true → y.locked = true ∧ { y with hits := 0 } = { x with hits := 0 }

/-! ## The elementary changes -/

/-- Pins, straps, the inhibit state, the receiver, what is owed, the queues of lane work, the mask and the pointers change. -/
def FreeFrame (s t : State) : Prop :=
  ∃ pending openSelfTests pins straps inhibit fifo scrub verify pointer lost mask receiver inbox count reply busy,
    t = { s with
      pending := pending, openSelfTests := openSelfTests, pins := pins, straps := straps, inhibit := inhibit,
      expansionFifo := fifo, scrubPointer := scrub, verifyQueue := verify, roundRobin := pointer, eventsLost := lost,
      eventMask := mask, receiver := receiver, requestInbox := inbox, requestCount := count, replyOwed := reply,
      busyOwed := busy }

/-- One elementary change inside a step that began in `s₀`; what is owed on the management line changes only where `L` says that
the step is one of the line's (R166). -/
inductive Move (L : Prop) (s₀ : State) : State → State → Prop
  | free {s t : State} (h : FreeFrame s t) (hline : L ∨ t.replyOwed = s.replyOwed ∧ t.busyOwed = s.busyOwed) : Move L s₀ s t
  | ports {s : State} (v : Vector Port 4) (h : ∀ p, PortMove s (s.port p) (row v p)) : Move L s₀ s { s with ports := v }
  | assocs {s : State} (v : Vector Assoc 64) (h : ∀ a, AssocMove s₀ (s.assoc a) (row v a)) :
      Move L s₀ s { s with assocs := v }
  | serves {s : State} (a : Anum) (k : SlotNum) (f : Assoc → Assoc) (h : EntersService s₀ s a k (f (s.assoc a))) :
      Move L s₀ s (s.updAssoc a f)
  | loads {s : State} (a : Anum) (k : SlotNum) (h : (s₀.slot k).state = .empty) :
      Move L s₀ s (s.updAssoc a fun x => { x with next := some k })
  | slot {s : State} (k : SlotNum) (f : Slot → Slot) (h : SlotMove s₀ (s.slot k) (f (s.slot k))) :
      Move L s₀ s (s.updSlot k f)
  | lanes {s : State} (v : Vector Lane 6) (h : ∀ l, laneShape (row v l) = laneShape (s.lane l)) :
      Move L s₀ s { s with lanes := v }
  | lane {s : State} (l : LaneNum) (x : Lane) (h : LaneMove s₀ s l x) : Move L s₀ s (s.setLane l x)
  | event {s : State} (kind : EventKind) (source : EventSource) (detail : BitVec 16) :
      Move L s₀ s (raiseEvent kind source detail s)
  | fetched {s : State} (n : Nat) : Move L s₀ s { s with events := s.events.drop n }
  | faults {s : State} (v : List MgmtFault)
      (h : s.faultList.length ≤ Config.faultCapacity → v.length ≤ Config.faultCapacity) :
      Move L s₀ s { s with faultList := v }
  | counts {s : State} (clock fine : Nat) (hw : HwFaults)
      (h : CountsOk s → CountsOk { s with clockCount := clock, fineCount := fine, hwFaults := hw }) :
      Move L s₀ s { s with clockCount := clock, fineCount := fine, hwFaults := hw }
  | tested {s : State} (x : PartState) (h : s.partState = .testing) (hx : x ≠ .testing) :
      Move L s₀ s { s with partState := x }
  | entries {s : State} (v : Vector SteerEntry 128) (h : ∀ i, EntryMove (s.entry i) (row v i)) :
      Move L s₀ s { s with steering := v }
  | transport {s : State} (key : Bytes) (h : s.transportKey = none) : Move L s₀ s { s with transportKey := some key }
  | passes {s : State} (p : PortNum) (frame : Bytes) (h : (s.port p).sequence.length < Config.sequenceCapacity) :
      Move L s₀ s (joinSequence p .pass frame s)
  | numbers {s : State} (p : PortNum) (a : Anum) (k : SlotNum) (body : EntryBody) (frame : Bytes) (f : Assoc → Assoc)
      (h : TakesNumber s₀ s p a k body (f (s.assoc a))) :
      Move L s₀ s (recordAgainst k (joinSequence p body frame (s.updAssoc a f)))
  | remarks {s : State} (p : PortNum) (seq : List Entry)
      (hbody : seq.map Entry.body = (s.port p).sequence.map Entry.body)
      (hlane : seq.map laneOf = (s.port p).sequence.map laneOf) :
      Move L s₀ s (s.updPort p fun x => { x with sequence := seq })
  | removes {s : State} (p : PortNum) (test : Entry → Bool) (c : PortCounter) (h : ∀ e, test e = true → laneOf e = none) :
      Move L s₀ s (removeEntries p test c s)
  | drops {s : State} (p : PortNum) (h : ∀ e ∈ (s.port p).sequence.head?, laneOf e = none) : Move L s₀ s (dropHead p s)
  | grants {s : State} (l : LaneNum) (p : PortNum) (mark : Bool) (copy : KeyCopy) (clp : BitVec 16)
      (hidle : s.lane l = .idle) (hwaits : ∃ e ∈ (s.port p).sequence, e.status = .waitingLane)
      (hcap : (s.port p).inLaneCount < Config.portLaneCap) (htested : Tested s₀ s) :
      Move L s₀ s ((s.updPort p fun x => { x with sequence := grantOldest l mark x.sequence }).setLane l
        (.busy (.transform p copy clp)))
  | hands {s : State} (l : LaneNum) (p : PortNum) (copy : KeyCopy) (clp : BitVec 16) (frame : Bytes)
      (h : s.lane l = .busy (.transform p copy clp)) : Move L s₀ s (handFrame p l frame (freeLane l s))
  | spoils {s : State} (l : LaneNum) (p : PortNum) (copy : KeyCopy) (clp : BitVec 16) (c : PortCounter)
      (h : s.lane l = .busy (.transform p copy clp)) :
      Move L s₀ s (removeEntries p (fun e => e.status == .inLane l) c (freeLane l s))

/-- A chain of elementary changes inside a step that began in `s₀`. -/
def Moves (L : Prop) (s₀ : State) : State → State → Prop := Relation.ReflTransGen (Move L s₀)

/-- What every elementary change keeps, a chain keeps. -/
theorem Moves.keeps {L : Prop} {s₀ s t : State} {P : State → Prop} (hmove : ∀ u v, Move L s₀ u v → P u → P v) (h : Moves L s₀ s t)
    (hs : P s) : P t := by
  induction h with
  | refl => exact hs
  | tail _ hlast ih => exact hmove _ _ hlast ih

end Sys2Proof.Proofs
end

section
/-! SUPPORT. The shared operations as chains of elementary changes: counters, events, slots, class queues, sequences, the reply
inbox and the control queues. -/

/-! One theorem is checked after another, as in the tests, which bounds the threads that the whole text takes. -/

set_option Elab.async false

namespace Sys2Proof.Proofs

open Sys2Proof Sys2Proof.Machine

variable {L : Prop} {s₀ s t u : State} {a : Anum} {k : SlotNum} {p : PortNum}

/-! ## Chains -/

theorem Moves.refl (s₀ s : State) : Moves L s₀ s s := Relation.ReflTransGen.refl

theorem Moves.trans (h : Moves L s₀ s t) (g : Moves L s₀ t u) : Moves L s₀ s u := Relation.ReflTransGen.trans h g

theorem Move.moves (h : Move L s₀ s t) : Moves L s₀ s t := Relation.ReflTransGen.single h

theorem foldl_moves {α : Type} {f : State → α → State} (h : ∀ s x, Moves L s₀ s (f s x)) (xs : List α) (s : State) :
    Moves L s₀ s (xs.foldl f s) :=
  foldl_keeps (Moves L s₀ s) f (fun _ x ht => ht.trans (h _ x)) xs s (.refl s₀ s)

/-- A fold whose steps keep the states coherent, as the state in which the step of the part began was. -/
theorem foldl_moves_of_coherent {α : Type} {f : State → α → State}
    (h : ∀ s x, (Coherent s₀ → Coherent s) → Moves L s₀ s (f s x)) (hf : ∀ s x, Coherent s → Coherent (f s x)) (xs : List α)
    (hs : Coherent s₀ → Coherent s) : Moves L s₀ s (xs.foldl f s) :=
  (foldl_keeps (fun t => Moves L s₀ s t ∧ (Coherent s₀ → Coherent t)) f
    (fun t x ht => ⟨ht.1.trans (h t x ht.2), fun h₀ => hf t x (ht.2 h₀)⟩) xs s ⟨.refl s₀ s, hs⟩).1

theorem free_moves (h : FreeFrame s t)
    (hline : t.replyOwed = s.replyOwed ∧ t.busyOwed = s.busyOwed := by exact ⟨rfl, rfl⟩) : Moves L s₀ s t :=
  (Move.free h (.inr hline)).moves

/-- A step of the management line (R166). -/
theorem line_moves (h : FreeFrame s t) : Moves True s₀ s t := (Move.free h (.inl trivial)).moves

theorem raiseEvent_moves (kind : EventKind) (source : EventSource) (detail : BitVec 16) (s : State) :
    Moves L s₀ s (raiseEvent kind source detail s) := (Move.event ..).moves

theorem recordFault_moves (kind : FaultKind) (tag : Option Byte) (s : State) : Moves L s₀ s (recordFault kind tag s) := by
  refine Moves.trans (Move.moves (.faults _ ?_)) (raiseEvent_moves ..)
  intro h
  unfold Config.faultCapacity at *
  split <;> simp <;> omega

/-! ## Rows of the tables -/

theorem PortMove.refl (s : State) (x : Port) : PortMove s x x := ⟨rfl, id, id, .inl⟩

theorem updPort_moves {f : Port → Port} (h : PortMove s (s.port p) (f (s.port p))) : Moves L s₀ s (s.updPort p f) := by
  refine Move.moves (.ports _ fun q => ?_)
  rw [row_updRow]
  split
  · next hpq => exact hpq ▸ h
  · exact .refl s _

theorem AssocMove.refl (s₀ : State) (x : Assoc) : AssocMove s₀ x x := ⟨id, .inr rfl, fun _ => .inr ⟨rfl, rfl, rfl, rfl, rfl⟩⟩

theorem updAssoc_moves {f : Assoc → Assoc} (h : AssocMove s₀ (s.assoc a) (f (s.assoc a))) :
    Moves L s₀ s (s.updAssoc a f) := by
  refine Move.moves (.assocs _ fun b => ?_)
  rw [row_updRow]
  split
  · next hab => exact hab ▸ h
  · exact .refl s₀ _

/-- A record in which only flags, the exchange, the lifetime or the floors have changed. -/
theorem updAssoc_moves_of_same {f : Assoc → Assoc} (hcounters : ∀ x, (f x).counters = x.counters := by intro; rfl)
    (hnext : ∀ x, (f x).next = x.next := by intro; rfl)
    (hkept : ∀ x, (f x).current = x.current ∧ x.nextPn = (f x).nextPn ∧ (f x).switchMark = x.switchMark
      ∧ (f x).stopMark = x.stopMark ∧ (f x).port = x.port := by intro; exact ⟨rfl, rfl, rfl, rfl, rfl⟩) :
    Moves L s₀ s (s.updAssoc a f) :=
  updAssoc_moves ⟨fun h => by rwa [hcounters], .inr (hnext _), fun _ => .inr (hkept _)⟩

/-- A port in which no setting, queue, sequence, FIFO or counter has changed. -/
theorem updPort_moves_of_same {f : Port → Port} (hsequence : ∀ x, (f x).sequence = x.sequence := by intro; rfl)
    (hcounters : ∀ x, (f x).counters = x.counters := by intro; rfl)
    (hkept : ∀ x, (f x).inbox = x.inbox ∧ (f x).returnFifo = x.returnFifo ∧ (f x).flow = x.flow ∧ (f x).queues = x.queues
      ∧ (f x).mode = x.mode := by intro; exact ⟨rfl, rfl, rfl, rfl, rfl⟩) :
    Moves L s₀ s (s.updPort p f) := by
  obtain ⟨hinbox, hfifo, hflow, hqueues, hmode⟩ := hkept (s.port p)
  refine updPort_moves ⟨hsequence _, fun h => by rwa [hcounters], fun h => ?_, fun h => .inl (hmode ▸ h)⟩
  simpa only [Port.Ok, Port.inLaneCount, Port.occupancy, hsequence, hinbox, hfifo, hflow, hqueues, hmode] using h

/-! ## Counters (R180) -/

theorem bounded_updRow {n : Nat} {v : Vector Nat n} (h : Bounded v) (i : Fin n) (m : Nat) :
    Bounded (updRow v i (addCount · m)) := by
  intro j
  rw [row_updRow]
  split
  · exact addCount_le ..
  · exact h j

theorem bumpPort_moves (p : PortNum) (c : PortCounter) (n : Nat) (s : State) : Moves L s₀ s (bumpPort p c n s) :=
  updPort_moves ⟨rfl, fun h => bounded_updRow h _ _, id, .inl⟩

theorem bumpAssoc_moves (a : Anum) (c : AssocCounter) (n : Nat) (s : State) : Moves L s₀ s (bumpAssoc a c n s) :=
  updAssoc_moves ⟨fun h => bounded_updRow h _ _, .inr rfl, fun _ => .inr ⟨rfl, rfl, rfl, rfl, rfl⟩⟩

/-! ## Slots (R76 to R79) -/

theorem laneShape_dropped (k : SlotNum) (x : Lane) :
    laneShape (match x with
      | .busy (.expand j key live) => .busy (.expand j key (live && j != k))
      | l => l) = laneShape x := by
  cases x with
  | busy op => cases op <;> rfl
  | idle => rfl
  | outOfService => rfl

theorem dropExpansion_moves (k : SlotNum) (s : State) : Moves L s₀ s (dropExpansion k s) := by
  have hlanes : Moves L s₀ s { s with lanes := (dropExpansion k s).lanes } := by
    refine Move.moves (.lanes _ fun l => ?_)
    simp only [dropExpansion, row_mapRows]
    exact laneShape_dropped k _
  exact hlanes.trans (free_moves ⟨_, _, _, _, _, _, _, _, _, _, _, _, _, _, _, _, rfl⟩)

theorem ok_empty : Slot.empty.Ok := by simp [Slot.Ok, Slot.empty]

/-- A slot that no entry counts against, or that holds no key in service, is emptied (R79). -/
theorem emptySlot_moves (h : Coherent s₀ → Uncounted (s.slot k) ∨ (s.slot k).inFlight = 0) :
    Moves L s₀ s (emptySlot k s) :=
  (dropExpansion_moves k s).trans (Move.moves (.slot k _
    ⟨fun _ _ => ok_empty, fun h₀ _ => h h₀, .inr ⟨rfl, .inl rfl⟩, by simp [Slot.empty]⟩))

theorem retireSlot_moves (h : (s.slot k).inFlight = 0) : Moves L s₀ s (retireSlot k s) :=
  (emptySlot_moves fun _ => .inr h).trans (raiseEvent_moves ..)

/-- A slot in service is left by its association (R77). -/
theorem leaveService_moves (h : Coherent s₀ → (s.slot k).state = .active) : Moves L s₀ s (leaveService k s) := by
  obtain ⟨hcount, heq⟩ | ⟨hcount, heq⟩ := leaveService_cases k s <;> rw [heq]
  · exact retireSlot_moves hcount
  · refine Move.moves (.slot k _ ⟨fun h₀ hok => ?_, fun _ h => ?_, .inl rfl, fun _ => .inr (by omega)⟩)
    · simpa [Slot.Ok, h h₀] using hok
    · simp [Uncounted] at h

theorem outgoingLeaves_moves {o : Option SlotNum} (h : Coherent s₀ → ∀ k, o = some k → (s.slot k).state = .active) :
    Moves L s₀ s (outgoingLeaves o s) := by
  cases o with
  | none => exact .refl s₀ s
  | some j => exact leaveService_moves fun h₀ => h h₀ j rfl

/-! ## Class queues (R104, R105, R109, R111) -/

/-- Records leave or join the class queues: each occupancy stays within its ceiling, and a port in OFF queues nothing. -/
theorem portMove_requeued {x : Port} {k : ClassNum} {f : List FrameRecord → List FrameRecord}
    (hcells : x.occupancy k ≤ row x.flow.ceiling k → cellsAfter k f x ≤ row x.flow.ceiling k)
    (hoff : x.mode = .off → row x.queues k = [] → f (row x.queues k) = []) : PortMove s x (requeued k f x) := by
  refine ⟨rfl, id, fun h => ?_, .inl⟩
  obtain ⟨hlength, hlanes, hinbox, hplaces, hfifo, hocc, hempty⟩ := h
  refine ⟨hlength, hlanes, hinbox, hplaces, hfifo, fun j => ?_, fun hm j => ?_⟩
  · unfold Port.occupancy
    rw [row_queues_requeued]
    split
    · next hj =>
      subst hj
      exact hcells (hocc j)
    · exact hocc j
  · rw [row_queues_requeued]
    split
    · next hj =>
      subst hj
      exact hoff hm (hempty hm j)
    · exact hempty hm j

/-- A frame is admitted to a class queue of a port in PROTECT, or dropped (R104). -/
theorem admitFrame_moves (r : FrameRecord) (hmode : (s.port p).mode = .protect) : Moves L s₀ s (admitFrame p r s) := by
  by_cases hflush : s.flushInForce p = true
  · rw [admitFrame_flushed hflush]
    exact bumpPort_moves ..
  · by_cases hfits : (s.port p).occupancy r.cls + r.cells ≤ row (s.port p).flow.ceiling r.cls
    · rw [admitFrame_queued hflush hfits]
      refine updPort_moves (portMove_requeued (fun _ => ?_) fun hoff => ?_)
      · rwa [cellsAfter_append]
      · simp [hmode] at hoff
    · rw [admitFrame_dropped hflush (by omega)]
      exact (bumpPort_moves ..).trans (raiseEvent_moves ..)

theorem sum_tail_le (l : List FrameRecord) : ((l.drop 1).map FrameRecord.cells).sum ≤ (l.map FrameRecord.cells).sum := by
  cases l <;> simp

theorem takeHead_moves (p : PortNum) (k : ClassNum) (s : State) : Moves L s₀ s (takeHead p k s) := by
  unfold takeHead
  rw [evalHolding_updQueue]
  refine updPort_moves (portMove_requeued (fun h => ?_) fun _ h => ?_)
  · exact (sum_tail_le _).trans h
  · simp [h]

/-- The class queues of a port after a flush: each that held a frame is empty, and counts its frames (R105). -/
def flushedClass (c : PortCounter) (x : Port) (k : ClassNum) : Port :=
  if row x.queues k = [] then x
  else { requeued k (fun _ => []) x with
    counters := updRow x.counters c.index (addCount · (row x.queues k).length) }

theorem setRow_eq_updRow {α : Type} {n : Nat} (v : Vector α n) (i : Fin n) (x : α) : setRow v i x = updRow v i fun _ => x :=
  rfl

theorem State.updPort_self (s : State) (p : PortNum) {f : Port → Port} (h : f (s.port p) = s.port p) : s.updPort p f = s := by
  have hrow : updRow s.ports p f = s.ports := by
    unfold updRow
    rw [show f (row s.ports p) = row s.ports p from h, setRow_row]
  unfold State.updPort
  rw [hrow]

theorem flushClass_eq (p : PortNum) (c : PortCounter) (s : State) (k : ClassNum) :
    flushClass p c s k = s.updPort p fun x => flushedClass c x k := by
  unfold flushClass
  split
  · next h => rw [State.updPort_self s p (by simp [flushedClass, show row (s.port p).queues k = [] from h])]
  · next h =>
    have hne : row (s.port p).queues k ≠ [] := fun hn => h hn
    simp only [setRow_eq_updRow, evalHolding_updQueue, bumpPort, updPort_updPort]
    unfold State.updPort updRow
    congr 2
    have hrow : row s.ports p = s.port p := rfl
    simp [flushedClass, hrow, hne, requeued, updRow]

/-- A port after a flush of its class queues, highest class first (R105). -/
def flushedBy (c : PortCounter) (x : Port) : Port := classesDown.foldl (flushedClass c) x

theorem flushQueues_eq (p : PortNum) (c : PortCounter) (s : State) :
    flushQueues p c s = s.updPort p (flushedBy c) := by
  simp only [flushQueues, classesDown, List.foldl_cons, List.foldl_nil, flushClass_eq, updPort_updPort]
  rfl

theorem row_queues_flushedClass (c : PortCounter) (x : Port) (k j : ClassNum) :
    row (flushedClass c x k).queues j = if j = k then [] else row x.queues j := by
  unfold flushedClass
  split
  · next h =>
    split
    · next hj => rw [hj, h]
    · rfl
  · exact row_queues_requeued j

theorem row_queues_flushedBy (c : PortCounter) (x : Port) (j : ClassNum) : row (flushedBy c x).queues j = [] := by
  simp only [flushedBy, classesDown, List.foldl_cons, List.foldl_nil, row_queues_flushedClass]
  fin_cases j <;> simp

/-- What a flush leaves of a port. -/
theorem flushedBy_fields (c : PortCounter) (x : Port) :
    (flushedBy c x).sequence = x.sequence ∧ (flushedBy c x).inbox = x.inbox ∧ (flushedBy c x).returnFifo = x.returnFifo
      ∧ (flushedBy c x).flow = x.flow ∧ (flushedBy c x).mode = x.mode ∧ (Bounded x.counters → Bounded (flushedBy c x).counters) := by
  refine foldl_keeps (fun y : Port => y.sequence = x.sequence ∧ y.inbox = x.inbox ∧ y.returnFifo = x.returnFifo ∧ y.flow = x.flow
    ∧ y.mode = x.mode ∧ (Bounded x.counters → Bounded y.counters)) _ (fun y k h => ?_) _ _ ⟨rfl, rfl, rfl, rfl, rfl, id⟩
  obtain ⟨hsequence, hinbox, hfifo, hflow, hmode, hcounters⟩ := h
  unfold flushedClass
  split
  · exact ⟨hsequence, hinbox, hfifo, hflow, hmode, hcounters⟩
  · exact ⟨hsequence, hinbox, hfifo, hflow, hmode, fun hx => bounded_updRow (hcounters hx) _ _⟩

theorem ok_of_queues_empty {x y : Port} (h : x.Ok) (hsequence : y.sequence = x.sequence) (hinbox : y.inbox = x.inbox)
    (hfifo : y.returnFifo = x.returnFifo) (hqueues : ∀ j, row y.queues j = []) : y.Ok := by
  obtain ⟨hlength, hlanes, hcount, hplaces, hcells, _, _⟩ := h
  refine ⟨by rwa [hsequence], by rwa [Port.inLaneCount, hsequence], by rwa [hinbox], by rwa [hinbox], by rwa [hfifo],
    fun j => ?_, fun _ => hqueues⟩
  simp [Port.occupancy, hqueues]

theorem flushQueues_moves (p : PortNum) (c : PortCounter) (s : State) : Moves L s₀ s (flushQueues p c s) := by
  rw [flushQueues_eq]
  obtain ⟨hsequence, hinbox, hfifo, _, hmode, hcounters⟩ := flushedBy_fields c (s.port p)
  exact updPort_moves ⟨hsequence, hcounters,
    fun h => ok_of_queues_empty h hsequence hinbox hfifo (row_queues_flushedBy c _), fun h => .inl (hmode ▸ h)⟩

theorem linkDownFlush_moves (p : PortNum) (s : State) : Moves L s₀ s (linkDownFlush p s) := by
  unfold linkDownFlush
  split
  · exact flushQueues_moves ..
  · exact .refl s₀ s

/-! ## Transform sequences (R93 to R98) -/

theorem laneOf_eq_none_iff {e : Entry} : laneOf e = none ↔ e.status.isInLane = false := by
  unfold laneOf
  cases e.status <;> simp [EntryStatus.isInLane]

theorem laneOf_of_done {e : Entry} (h : e.status = .done) : laneOf e = none := by simp [laneOf, h]

theorem finishPasses_same (inhibited : Bool) (seq : List Entry) :
    (finishPasses inhibited seq).map Entry.body = seq.map Entry.body
      ∧ (finishPasses inhibited seq).map laneOf = seq.map laneOf := by
  induction seq with
  | nil => exact ⟨rfl, rfl⟩
  | cons e es ih =>
    unfold finishPasses
    split
    · next hwaits =>
      split
      · simp [Entry.finish, laneOf, hwaits, ih]
      · exact ⟨rfl, rfl⟩
    · simp [ih]

theorem settlePasses_moves (p : PortNum) (s : State) : Moves L s₀ s (settlePasses p s) :=
  Move.moves (.remarks p _ (finishPasses_same _ _).1 (finishPasses_same _ _).2)

theorem removeEntries_moves {test : Entry → Bool} (h : ∀ e, test e = true → laneOf e = none) (p : PortNum)
    (c : PortCounter) (s : State) : Moves L s₀ s (removeEntries p test c s) := Move.moves (.removes p test c h)

theorem status_of_headDiscard {c : PortCounter} (h : headDiscard s p = some c) :
    ∀ e ∈ (s.port p).sequence.head?, e.status = .done := by
  unfold headDiscard at h
  simp only at h
  split at h
  · cases h
  · next e es heq =>
    split at h
    · next hdone =>
      intro g hg
      rw [heq] at hg
      cases hg
      exact hdone
    · cases h

theorem dropHead_moves (h : ∀ e ∈ (s.port p).sequence.head?, e.status = .done) : Moves L s₀ s (dropHead p s) :=
  Move.moves (.drops p fun e he => laneOf_of_done (h e he))

theorem discardHeadsUpTo_moves (p : PortNum) : ∀ (n : Nat) (s : State), Moves L s₀ s (discardHeadsUpTo n p s)
  | 0, s => .refl s₀ s
  | n + 1, s => by
    unfold discardHeadsUpTo
    split
    · next c hc =>
      refine ((bumpPort_moves ..).trans (dropHead_moves ?_)).trans (discardHeadsUpTo_moves p n _)
      have hsequence : ((bumpPort p c 1 s).port p).sequence = (s.port p).sequence := by simp [bumpPort]
      rw [hsequence]
      exact status_of_headDiscard hc
    · exact .refl s₀ s

theorem discardHeads_moves (p : PortNum) (s : State) : Moves L s₀ s (discardHeads p s) := discardHeadsUpTo_moves ..

theorem tidySequence_moves (p : PortNum) (s : State) : Moves L s₀ s (tidySequence p s) :=
  (settlePasses_moves ..).trans (discardHeads_moves ..)

theorem condemnEntries_moves (k : SlotNum) (s : State) : Moves L s₀ s (condemnEntries k s) := by
  refine foldl_moves (fun s p => (removeEntries_moves (fun e he => ?_) ..).trans (tidySequence_moves ..)) _ _
  have hlane : e.status.isInLane = false := by simp_all
  exact laneOf_eq_none_iff.mpr hlane

/-! ## The reply inbox and withdrawn verifications (R90, R123) -/

theorem leaveInbox_moves (p : PortNum) (place : Fin 4) (s : State) : Moves L s₀ s (leaveInbox p place s) := by
  refine updPort_moves ⟨rfl, id, fun h => ?_, .inl⟩
  obtain ⟨hlength, hlanes, hcount, hplaces, hrest⟩ := h
  exact ⟨hlength, hlanes, (List.length_filter_le ..).trans hcount, hplaces.sublist (List.filter_sublist.map _), hrest⟩

theorem failCaptured_moves (p : PortNum) (place : Fin 4) (c : PortCounter) (s : State) :
    Moves L s₀ s (failCaptured p place c s) := (leaveInbox_moves ..).trans (bumpPort_moves ..)

theorem laneShape_withdrawn (gone : VerifyReq → Bool) (x : Lane) :
    laneShape (match x with
      | .busy (.verify r copy w) => .busy (.verify r copy (w || gone r))
      | l => l) = laneShape x := by
  cases x with
  | busy op => cases op <;> rfl
  | idle => rfl
  | outOfService => rfl

theorem withdrawVerifies_moves (a : Anum) (s : State) : Moves L s₀ s (withdrawVerifies a s) := by
  unfold withdrawVerifies
  refine Moves.trans ?_ (foldl_moves (fun _ _ => failCaptured_moves ..) _ _)
  let gone (r : VerifyReq) : Bool := r.anum == a && !s.roleHeld r
  have hlanes : Moves L s₀ s { s with lanes := mapRows s.lanes fun
      | .busy (.verify r copy w) => .busy (.verify r copy (w || gone r))
      | l => l } := by
    refine Move.moves (.lanes _ fun l => ?_)
    rw [row_mapRows]
    exact laneShape_withdrawn gone _
  exact hlanes.trans (free_moves ⟨_, _, _, _, _, _, _, _, _, _, _, _, _, _, _, _, rfl⟩)

theorem leaveControlQueue_moves (a : Anum) (s : State) : Moves L s₀ s (leaveControlQueue a s) := updPort_moves_of_same

theorem joinControlQueue_moves (a : Anum) (s : State) : Moves L s₀ s (joinControlQueue a s) := updPort_moves_of_same

end Sys2Proof.Proofs
end

section
/-! SUPPORT. The key switch exchange, the loss of a key, the arbiter and the numbering of frames as chains of elementary
changes. -/

/-! One theorem is checked after another, as in the tests, which bounds the threads that the whole text takes. -/

set_option Elab.async false

namespace Sys2Proof.Proofs

open Sys2Proof Sys2Proof.Machine

variable {L : Prop} {s₀ s t u : State} {a : Anum} {k : SlotNum} {p : PortNum}

/-! ## The cut-over (R157) -/

theorem SlotMove.active {x : Slot} (h : Coherent s₀ → x.state = .ready) :
    SlotMove s₀ x { x with state := .active } :=
  ⟨fun h₀ hok => by simpa [Slot.Ok, h h₀] using hok, fun _ h => by simp [Uncounted] at h, .inl rfl, fun h => by simp at h⟩

/-- An association enters service under its next slot, which is READY and not its current one. -/
theorem entersService_moves {f : Assoc → Assoc} (h : EntersService s₀ s a k (f (s.assoc a))) :
    Moves L s₀ s ((s.updSlot k fun x => { x with state := .active }).updAssoc a f) := by
  have hslot : Moves L s₀ (s.updAssoc a f) ((s.updAssoc a f).updSlot k fun x => { x with state := .active }) :=
    (Move.slot k _ (SlotMove.active fun h₀ => (h.fresh h₀).1)).moves
  exact (Move.serves a k f h).moves.trans hslot

/-- The next slot of a coherent association that can switch is READY and not its current one. -/
theorem fresh_of_nextReady (hs : Coherent s) (hready : s.nextReady a = true) (hk : (s.assoc a).next = some k) :
    (s.slot k).state = .ready ∧ (s.assoc a).current ≠ some k := by
  obtain ⟨j, hj, hheld⟩ := held_of_nextReady hs hready
  cases hk.symm.trans hj
  exact ⟨(heldAs_eq_some_iff.mp hheld).2.1, fun hcurrent => next_ne_of_current hs hcurrent hk⟩

theorem active_of_current (hs : Coherent s) (hk : (s.assoc a).current = some k) : (s.slot k).state = .active :=
  (heldAs_eq_some_iff.mp (((fits_of_coherent hs a).current k).mp hk)).2.1

theorem cutOver_moves (hs : Coherent s₀ → Coherent s) (hready : Coherent s₀ → s.nextReady a = true) :
    Moves L s₀ s (cutOver a s) := by
  cases hk : (s.assoc a).next with
  | none =>
    unfold cutOver
    rw [hk]
    exact .refl s₀ s
  | some k =>
    rw [cutOver_eq hk]
    have hfresh (h₀ : Coherent s₀) := fresh_of_nextReady (hs h₀) (hready h₀) hk
    refine Moves.trans ?_ ((raiseEvent_moves ..).trans (withdrawVerifies_moves ..))
    refine Moves.trans ?_ (bumpAssoc_moves ..)
    refine (entersService_moves ⟨rfl, hk, rfl, rfl, hfresh⟩).trans (outgoingLeaves_moves fun h₀ j hj => ?_)
    rw [State.slot_updAssoc, State.slot_updSlot]
    split
    · rfl
    · exact active_of_current (hs h₀) hj

/-! ## Beginning a switch, triggers, ends of an exchange -/

theorem canStart_nextReady (h : s.canStart a = true) : s.nextReady a = true := by
  obtain ⟨_, _, hready, _⟩ := canStart_iff.mp h
  exact hready

theorem clearFlags_moves : Moves L s₀ s (s.updAssoc a Assoc.clearFlags) := updAssoc_moves_of_same

theorem beginSwitch_moves (hs : Coherent s₀ → Coherent s) (hready : s.nextReady a = true) :
    Moves L s₀ s (beginSwitch a s) := by
  cases hpolicy : (s.assoc a).confirmPolicy with
  | confirmed =>
    rw [beginSwitch_confirmed hpolicy]
    exact Moves.trans updAssoc_moves_of_same updPort_moves_of_same
  | unilateral =>
    rw [beginSwitch_unilateral hpolicy]
    refine Moves.trans clearFlags_moves (cutOver_moves (fun h₀ => clearFlags_coherent (hs h₀)) fun _ => ?_)
    simpa [State.nextReady, Assoc.clearFlags] using hready

theorem beginIfPending_moves (a : Anum) (hs : Coherent s₀ → Coherent s) : Moves L s₀ s (beginIfPending s a) := by
  unfold beginIfPending
  simp only
  split
  · next h =>
    obtain ⟨_, _, hstart⟩ := h
    exact beginSwitch_moves hs (canStart_nextReady hstart)
  · exact .refl s₀ s

theorem setPending_moves (kind : TriggerKind) : Moves L s₀ s (setPending a kind s) := by
  refine updAssoc_moves ?_
  split
  · exact .refl s₀ _
  · exact ⟨id, .inr rfl, fun _ => .inr ⟨rfl, rfl, rfl, rfl, rfl⟩⟩

theorem handTrigger_moves (kind : TriggerKind) (hs : Coherent s₀ → Coherent s) : Moves L s₀ s (handTrigger a kind s) := by
  unfold handTrigger
  simp only
  split
  · split
    · split
      · next hstart => exact beginSwitch_moves hs (canStart_nextReady hstart)
      · split
        · exact setPending_moves kind
        · exact (setPending_moves kind).trans (raiseEvent_moves ..)
    · split
      · exact .refl s₀ s
      · exact Moves.trans updAssoc_moves_of_same (raiseEvent_moves ..)
  · exact .refl s₀ s

theorem endExchange_moves (a : Anum) (s : State) : Moves L s₀ s (endExchange a s) :=
  (leaveControlQueue_moves a s).trans updAssoc_moves_of_same

theorem giveUp_moves (a : Anum) (kind : EventKind) (detail : BitVec 16) (s : State) : Moves L s₀ s (giveUp a kind detail s) :=
  (endExchange_moves a s).trans ((bumpAssoc_moves ..).trans (raiseEvent_moves ..))

theorem endAttempt_moves (a : Anum) (s : State) : Moves L s₀ s (endAttempt a s) := by
  unfold endAttempt
  split
  · exact .refl s₀ s
  · split
    · exact Moves.trans updAssoc_moves_of_same (joinControlQueue_moves ..)
    · exact giveUp_moves ..

theorem abandonExchange_moves (cause : AbortCause) (a : Anum) (s : State) : Moves L s₀ s (abandonExchange cause s a) := by
  by_cases h : (s.assoc a).attempt = none
  · rw [abandonExchange_none h]
    exact .refl s₀ s
  · rw [abandonExchange_eq h]
    exact (endExchange_moves a s).trans (raiseEvent_moves ..)

/-! ## The loss of a key (R58, R59, R80 to R82) -/

theorem loseCurrent_moves (a : Anum) (s : State) : Moves L s₀ s (loseCurrent a s) := by
  unfold loseCurrent
  refine Moves.trans ?_ ((raiseEvent_moves ..).trans (withdrawVerifies_moves ..))
  refine Moves.trans ?_ (updAssoc_moves_of_same (a := a))
  exact (updAssoc_moves ⟨id, .inr rfl, fun _ => .inl rfl⟩).trans (abandonExchange_moves ..)

/-- A record that names no next slot any more. -/
theorem nextLost_moves : Moves L s₀ s (s.updAssoc a fun x => { x with next := none }) :=
  updAssoc_moves ⟨id, .inl rfl, fun _ => .inr ⟨rfl, rfl, rfl, rfl, rfl⟩⟩

theorem loseNext_moves (a : Anum) (s : State) : Moves L s₀ s (loseNext a s) := by
  unfold loseNext
  refine Moves.trans ((nextLost_moves (a := a)).trans (abandonExchange_moves .nextKeyLost a _)) (Moves.trans ?_ (withdrawVerifies_moves ..))
  split
  · exact raiseEvent_moves ..
  · exact .refl s₀ _

theorem SlotMove.faulted (x : Slot) : SlotMove s₀ x x.faulted := by
  refine ⟨fun _ _ => ?_, fun _ h => ?_, .inl rfl, fun h => ?_⟩
  · simp [Slot.Ok, Slot.faulted]
  · simp [Uncounted, Slot.faulted] at h
  · simp [Slot.faulted] at h

theorem countScrubFault_moves (s : State) : Moves L s₀ s (countScrubFault s) := by
  refine Move.moves (.counts s.clockCount s.fineCount _ fun h => ?_)
  obtain ⟨hclock, hfine, _, htest⟩ := h
  exact ⟨hclock, hfine, Nat.min_le_right .., htest⟩

theorem scrubFailure_moves (k : SlotNum) (s : State) : Moves L s₀ s (scrubFailure k s) := by
  have hout : Moves L s₀ s (scrubbedOut k s) :=
    (Move.slot k _ (SlotMove.faulted _)).moves.trans ((raiseEvent_moves ..).trans ((countScrubFault_moves _).trans
      (condemnEntries_moves ..)))
  refine hout.trans ?_
  change Moves L s₀ (scrubbedOut k s) (loseKey (s.slot k) k (scrubbedOut k s))
  unfold loseKey
  split
  · split
    · exact loseCurrent_moves ..
    · exact .refl s₀ _
  · split
    · exact loseNext_moves ..
    · exact .refl s₀ _
  · exact .refl s₀ _

theorem scrub_moves (s : State) : Moves L s₀ s (scrub s) := by
  unfold scrub
  refine Moves.trans ?_ (free_moves ⟨_, _, _, _, _, _, _, _, _, _, _, _, _, _, _, _, rfl⟩)
  split
  · exact scrubFailure_moves ..
  · exact .refl s₀ s

/-- A change of stored key contents leaves the state, the owner and the count of a slot (assumption 10). -/
theorem SlotMove.drifted (d : KeyDrift) (x : Slot) : SlotMove s₀ x (Slot.drifted d x) := by
  have hsame : SlotMove s₀ x x := ⟨fun _ => id, fun _ => .inl, .inl rfl, .inl⟩
  unfold Slot.drifted
  split
  · next h =>
    have hlive : ¬(x.state = .empty ∨ x.state = .faulted) := by rintro (hx | hx) <;> simp [hx, SlotState.scrubbed] at h
    split <;> exact ⟨fun _ hok => by simpa [Slot.Ok, hlive] using hok, fun _ => .inl, .inl rfl, .inl⟩
  · exact hsame

theorem applyDrift_moves (drift : Option KeyDrift) (s : State) : Moves L s₀ s (applyDrift drift s) := by
  unfold applyDrift
  split
  · exact (Move.slot _ _ (SlotMove.drifted ..)).moves
  · exact .refl s₀ s

/-! ## Captured control frames and verdicts (R145, R149) -/

theorem checkCaptured_moves (p : PortNum) (place : Fin 4) (f : Bytes) (s : State) :
    Moves L s₀ s (checkCaptured p place f s) := by
  unfold checkCaptured
  split
  · exact failCaptured_moves ..
  · split
    · exact failCaptured_moves ..
    · split
      · exact failCaptured_moves ..
      · split
        · exact failCaptured_moves ..
        · exact free_moves ⟨_, _, _, _, _, _, _, _, _, _, _, _, _, _, _, _, rfl⟩

theorem raiseFloor_moves (a : Anum) (role : KeyRole) (pn : Nat) (s : State) : Moves L s₀ s (raiseFloor a role pn s) := by
  cases role <;> exact updAssoc_moves_of_same

/-- A reply that passes the attempt check takes effect (R152 to R154). -/
theorem applyReply_moves (f : Bytes) (hs : Coherent s₀ → Coherent s) (hattempt : (s.assoc a).attempt ≠ none) :
    Moves L s₀ s (applyReply a f s) := by
  unfold applyReply
  split
  · exact cutOver_moves hs fun h₀ => nextReady_of_exchange (hs h₀) hattempt
  · exact endAttempt_moves ..
  · exact giveUp_moves ..

theorem applyVerdict_moves (r : VerifyReq) (withdrawn pass : Bool) (hs : Coherent s₀ → Coherent s) :
    Moves L s₀ s (applyVerdict r withdrawn pass s) := by
  unfold applyVerdict
  split
  · exact failCaptured_moves ..
  · split
    · exact failCaptured_moves ..
    · split
      · exact failCaptured_moves ..
      · have hraised (h₀ : Coherent s₀) := (raiseFloor_quiet r.anum r.role (ctlTagPn r.frame) s).coherent (hs h₀)
        refine (raiseFloor_moves r.anum r.role (ctlTagPn r.frame) s).trans ?_
        simp only
        split
        · exact (leaveInbox_moves ..).trans
            (handTrigger_moves .request fun h₀ => (leaveInbox_quiet ..).coherent (hraised h₀))
        · split
          · next hcheck =>
            refine (leaveInbox_moves ..).trans
              (applyReply_moves _ (fun h₀ => (leaveInbox_quiet ..).coherent (hraised h₀)) ?_)
            obtain ⟨t, ht, _⟩ := issued_of_attemptCheck hcheck
            simp [leaveInbox, ht]
          · exact failCaptured_moves ..

/-! ## The arbiter (R91) -/

theorem idle_of_idleLane {l : LaneNum} (h : idleLane s = some l) : s.lane l = .idle := by
  simpa using List.find?_some h

/-- A granted port has a waiting entry that names a slot, and fewer than two entries in lanes. -/
theorem portEligible_cases (h : portEligible s p = true) :
    ∃ e, (s.port p).sequence.find? (·.status == .waitingLane) = some e ∧ e.isPass = false
      ∧ (s.port p).inLaneCount < Config.portLaneCap := by
  unfold portEligible at h
  simp only [Bool.and_eq_true, decide_eq_true_eq] at h
  obtain ⟨hwaits, hcap⟩ := h
  split at hwaits
  · next e he => exact ⟨e, he, by simpa using hwaits, hcap⟩
  · cases hwaits

theorem spendCorrupt_moves (body : EntryBody) (s : State) : Moves L s₀ s (spendCorrupt body s).2 := by
  unfold spendCorrupt
  split
  · exact updAssoc_moves_of_same
  · exact .refl s₀ s
  · exact .refl s₀ s

/-- Spending corrupt-one touches one association alone (R99). -/
theorem spendCorrupt_frame (body : EntryBody) (s : State) : ∃ assocs, (spendCorrupt body s).2 = { s with assocs := assocs } := by
  unfold spendCorrupt
  split <;> exact ⟨_, rfl⟩

theorem grantTransform_moves {l : LaneNum} (hidle : s.lane l = .idle) (hport : portEligible s p = true)
    (htested : Tested s₀ s) : Moves L s₀ s (grantTransform l p s) := by
  obtain ⟨e, hfind, _, hcap⟩ := portEligible_cases hport
  unfold grantTransform
  rw [hfind]
  simp only
  split
  · exact .refl s₀ s
  · next k _ =>
    have hwaits : ∃ e ∈ (s.port p).sequence, e.status = .waitingLane :=
      ⟨e, List.mem_of_find?_eq_some hfind, by simpa using List.find?_some hfind⟩
    have hgrant : Moves L s₀ (spendCorrupt e.body s).2 (((spendCorrupt e.body s).2.updPort p fun x =>
        { x with sequence := grantOldest l (spendCorrupt e.body s).1 x.sequence }).setLane l
          (.busy (.transform p (keyCopy s k) (s.port p).settings.clpType))) := by
      obtain ⟨assocs, hspend⟩ := spendCorrupt_frame e.body s
      rw [hspend]
      exact (Move.grants (s := { s with assocs := assocs }) l p _ _ _ hidle hwaits hcap htested).moves
    refine (spendCorrupt_moves e.body s).trans (hgrant.trans (Moves.trans ?_ (settlePasses_moves ..)))
    exact free_moves ⟨_, _, _, _, _, _, _, _, _, _, _, _, _, _, _, _, rfl⟩

theorem grantOne_moves (h : grantOne s = some t) (htested : Tested s₀ s) : Moves L s₀ s t := by
  unfold grantOne at h
  split at h
  · cases h
  · next l hl =>
    have hidle := idle_of_idleLane hl
    have hwas : isTransform (s.lane l) = false := by rw [hidle]; rfl
    split at h
    · next r rest _ =>
      cases h
      exact Moves.trans (t := { s with verifyQueue := rest })
        (free_moves ⟨_, _, _, _, _, _, _, _, _, _, _, _, _, _, _, _, rfl⟩)
        (Move.lane (s := { s with verifyQueue := rest }) l (.busy (.verify r (keyCopy s r.slot) false))
          ⟨.inl hwas, rfl, fun hexpand => by simp [Lane.isExpand] at hexpand, fun _ => htested⟩).moves
    · split at h
      · next k rest _ hcount =>
        cases h
        exact Moves.trans (t := { s with expansionFifo := rest })
          (free_moves ⟨_, _, _, _, _, _, _, _, _, _, _, _, _, _, _, _, rfl⟩)
          (Move.lane (s := { s with expansionFifo := rest }) l (.busy (.expand k (s.slot k).key true))
            ⟨.inl hwas, rfl, fun _ => of_decide_eq_true hcount, fun _ => htested⟩).moves
      · obtain ⟨p, hp, rfl⟩ := Option.map_eq_some_iff.mp h
        exact grantTransform_moves hidle (List.find?_some hp) htested

theorem tested_of_grantFrame (h : GrantFrame s t) (hs : Tested s₀ s) : Tested s₀ t := by
  obtain ⟨_, _, _, _, _, _, rfl⟩ := h
  exact hs

theorem grantUpTo_moves : ∀ (n : Nat) {s : State}, Tested s₀ s → Moves L s₀ s (grantUpTo n s)
  | 0, s, _ => .refl s₀ s
  | n + 1, s, hs => by
    unfold grantUpTo
    split
    · next t h => exact (grantOne_moves h hs).trans (grantUpTo_moves n (tested_of_grantFrame (grantOne_frame h) hs))
    · exact .refl s₀ s

theorem arbitrate_moves (h : Tested s₀ s) : Moves L s₀ s (arbitrate s) := grantUpTo_moves 6 h

theorem freeLane_moves {l : LaneNum} (h : isTransform (s.lane l) = false) : Moves L s₀ s (freeLane l s) :=
  (Move.lane l .idle ⟨.inl h, rfl, by simp [Lane.isExpand], fun hbusy => by simp at hbusy⟩).moves

/-! ## Numbers (R53 to R56) -/

/-- An event that is raised before an entry joins a sequence might as well be raised after it. -/
theorem raiseEvent_updPort (kind : EventKind) (source : EventSource) (detail : BitVec 16) (s : State) (p : PortNum)
    (f : Port → Port) : raiseEvent kind source detail (s.updPort p f) = (raiseEvent kind source detail s).updPort p f := by
  unfold raiseEvent
  by_cases hmask : s.eventMask.getLsbD kind.code = false
  · simp [hmask]
  · by_cases hlisted : s.events.any (Event.sameAs kind source) = true
    · simp only [State.updPort_eventMask, State.updPort_events, hmask, hlisted, if_true]
      rfl
    · by_cases hroom : s.events.length < Config.eventCapacity
      · simp only [State.updPort_eventMask, State.updPort_events, hmask, hlisted, hroom, if_true]
        rfl
      · simp only [State.updPort_eventMask, State.updPort_events, hmask, hlisted, hroom, if_false]
        rfl

theorem raiseEvent_updSlot (kind : EventKind) (source : EventSource) (detail : BitVec 16) (s : State) (k : SlotNum)
    (f : Slot → Slot) : raiseEvent kind source detail (s.updSlot k f) = (raiseEvent kind source detail s).updSlot k f := by
  unfold raiseEvent
  by_cases hmask : s.eventMask.getLsbD kind.code = false
  · simp [hmask]
  · by_cases hlisted : s.events.any (Event.sameAs kind source) = true
    · simp only [State.updSlot_eventMask, State.updSlot_events, hmask, hlisted, if_true]
      rfl
    · by_cases hroom : s.events.length < Config.eventCapacity
      · simp only [State.updSlot_eventMask, State.updSlot_events, hmask, hlisted, hroom, if_true]
        rfl
      · simp only [State.updSlot_eventMask, State.updSlot_events, hmask, hlisted, hroom, if_false]
        rfl

theorem exhaust_recordAgainst (a : Anum) (k : SlotNum) (p : PortNum) (body : EntryBody) (frame : Bytes) (s : State) :
    recordAgainst k (joinSequence p body frame (exhaust a s)) = exhaust a (recordAgainst k (joinSequence p body frame s)) := by
  unfold exhaust recordAgainst joinSequence
  rw [← raiseEvent_updPort, ← raiseEvent_updSlot]
  rfl

theorem exhaust_moves (a : Anum) (s : State) : Moves L s₀ s (exhaust a s) :=
  Moves.trans updAssoc_moves_of_same (raiseEvent_moves ..)

/-- The association that holds a slot as its current one is the only one (R66). -/
theorem current_unique (hs : Coherent s) (hk : (s.assoc a).current = some k) (b : Anum) (hb : (s.assoc b).current = some k) :
    b = a :=
  Option.some.inj ((owner_of_role hs (.inl hb)).symm.trans (owner_of_role hs (.inl hk)))

/-- A data frame takes the next number of its association (R53). -/
theorem takesNumber_data (hs : Coherent s₀ → Coherent s) (hstate : (s.assoc a).state = .running ∨ (s.assoc a).state = .switching)
    (hk : (s.assoc a).current = some k) (hport : (s.assoc a).port = p)
    (hroom : (s.port p).sequence.length < Config.sequenceCapacity) (m : Protection) (v : VlanHandling) (label : BitVec 32) :
    TakesNumber s₀ s p a k (.data a k (s.assoc a).nextPn m v label)
      { s.assoc a with nextPn := (s.assoc a).nextPn + 1 } where
  counters := rfl
  current := hk
  port := fun _ => hport
  body := fun _ _ _ _ => ⟨rfl, rfl⟩
  room := hroom
  keeps := ⟨hk, rfl, rfl, rfl, rfl, rfl⟩
  alone := fun h₀ => current_unique (hs h₀) hk
  active := fun h₀ => active_of_current (hs h₀) hk
  range := fun h₀ => by
    have hok := ok_of_coherent (hs h₀) a
    obtain ⟨_, _, _, _, _, hlow, _⟩ := hok
    exact ⟨hlow, nextPn_le_of_ok (ok_of_coherent (hs h₀) a) hstate⟩

/-- A data frame that has taken its number, and has exhausted its association if that is the stop mark (R53, R55). -/
theorem numbered_coherent (p : PortNum) (frame : Bytes) (hs : Coherent s)
    (hstate : (s.assoc a).state = .running ∨ (s.assoc a).state = .switching) :
    let x := s.assoc a
    let u := recordAgainst k (joinSequence p (.data a k x.nextPn x.protection x.vlan x.label) frame
      (s.updAssoc a fun y => { y with nextPn := y.nextPn + 1 }))
    Coherent (if x.nextPn = x.stopMark then exhaust a u else u) :=
  exhaustAtMark_coherent hs hstate ((joinSequence_quiet ..).trans (recordAgainst_quiet ..))

theorem numberFrame_moves (frame : Bytes) (hs : Coherent s₀ → Coherent s)
    (hstate : (s.assoc a).state = .running ∨ (s.assoc a).state = .switching) (hk : (s.assoc a).current = some k)
    (hport : (s.assoc a).port = p) (hroom : (s.port p).sequence.length < Config.sequenceCapacity) :
    Moves L s₀ s (numberFrame p a k frame s) := by
  unfold numberFrame
  dsimp only
  have htakes := takesNumber_data hs hstate hk hport hroom (s.assoc a).protection (s.assoc a).vlan (s.assoc a).label
  refine Moves.trans (Move.numbers p a k _ frame (fun y => { y with nextPn := y.nextPn + 1 }) htakes).moves ?_
  have hmark (u : State) : Moves L s₀ u (if (s.assoc a).nextPn = (s.assoc a).stopMark then exhaust a u else u) := by
    split
    · exact exhaust_moves ..
    · exact .refl s₀ u
  refine Moves.trans (hmark _) ?_
  by_cases hswitch : (s.assoc a).switchMark ≤ (s.assoc a).nextPn
  · rw [if_pos hswitch]
    exact handTrigger_moves .mark fun h₀ => numbered_coherent p frame (hs h₀) hstate
  · rw [if_neg hswitch]
    exact .refl s₀ _

end Sys2Proof.Proofs
end

section
/-! SUPPORT. The commands as chains of elementary changes: time, links, frames, lanes, schedulers and transmitters, the inhibit
input and the self-test. -/

/-! One theorem is checked after another, as in the tests, which bounds the threads that the whole text takes. -/

set_option Elab.async false

namespace Sys2Proof.Proofs

open Sys2Proof Sys2Proof.Machine

variable {L : Prop} {s₀ s t u : State} {a : Anum} {k : SlotNum} {p : PortNum}

/-! ## States that are not TESTING -/

theorem partState_portFrame (h : PortFrame s t) : t.partState = s.partState := by
  obtain ⟨_, _, _, _, _, _, rfl⟩ := h
  rfl

/-- No elementary change enters TESTING. -/
theorem Move.partState (h : Move L s₀ s t) : t.partState = .testing → s.partState = .testing := by
  cases h with
  | free hfree =>
    obtain ⟨_, _, _, _, _, _, _, _, _, _, _, _, _, _, _, _, rfl⟩ := hfree
    exact id
  | event => exact fun h => by simpa using h
  | tested x _ hx => exact fun h => absurd h hx
  | removes p test c => exact fun h => by rwa [partState_portFrame (removeEntries_portFrame p test c s)] at h
  | drops p => exact fun h => by rwa [partState_portFrame (dropHead_portFrame p s)] at h
  | spoils l p copy clp c =>
    exact fun h => by rwa [partState_portFrame (removeEntries_portFrame p _ c (freeLane l s))] at h
  | _ => exact id

theorem Moves.tested (h : Moves L s₀ s t) (hs : Tested s₀ s) : Tested s₀ t :=
  Moves.keeps (P := Tested s₀) (fun _ _ hm ht hoff hlanes htest => ht hoff hlanes (hm.partState htest)) h hs

theorem tested_of_busy {l : LaneNum} {op : LaneOp} (h : s.lane l = .busy op) : Tested s s := by
  intro _ hlanes htest
  obtain ⟨_, _, hidle⟩ := hlanes
  exact hidle htest l op h

theorem tested_of_protect (h : (s.port p).mode = .protect) : Tested s s := by
  intro hoff _ htest
  have hmode := hoff (by simp [htest]) p
  simp [h] at hmode

theorem tested_of_running (h : s.partState = .running) : Tested s₀ s := fun _ _ htest => by simp [h] at htest

/-- Grants follow at the end of what a command has done. -/
theorem Moves.arbitrated (h : Moves L s₀ s t) (hs : Tested s₀ s) : Moves L s₀ s (arbitrate t) :=
  h.trans (arbitrate_moves (h.tested hs))

/-! ## Frames received (R9 to R33, R117 to R123) -/

theorem handOver_moves (hmode : (s.port p).mode = .protect) (f : Bytes) (cls : ClassNum) (outcome : Disposition) :
    Moves L s₀ s (handOver p f cls outcome s) := admitFrame_moves _ hmode

theorem steerProtect_moves (hmode : (s.port p).mode = .protect) (a : Anum) (f : Bytes) (cls : ClassNum) :
    Moves L s₀ s (steerProtect p a f cls s) := by
  have hdropped : Moves L s₀ s (bumpAssoc a .stateDrops 1 (bumpPort p .assocStateDrops 1 s)) :=
    (bumpPort_moves ..).trans (bumpAssoc_moves ..)
  have hchecked {t : State} (ht : Moves L s₀ s t) :
      Moves L s₀ s (if (s.assoc a).port ≠ p then bumpPort p .misdirectedDrops 1 s else t) := by
    split
    · exact bumpPort_moves ..
    · exact ht
  have hkept := handOver_moves (L := L) (s₀ := s₀) hmode f cls (.protect a)
  unfold steerProtect
  dsimp only
  cases (s.assoc a).state with
  | idle => exact bumpPort_moves ..
  | configured => exact hchecked hdropped
  | suspended => exact hchecked hdropped
  | faulted => exact hchecked hdropped
  | running => exact hchecked hkept
  | switching => exact hchecked hkept
  | exhausted => exact hchecked hkept

theorem mode_bumpPort (p q : PortNum) (c : PortCounter) (n : Nat) (s : State) :
    ((bumpPort p c n s).port q).mode = (s.port q).mode := by
  unfold bumpPort
  rw [State.port_updPort]
  split
  · next h => rw [h]
  · rfl

theorem applyAction_moves (hmode : (s.port p).mode = .protect) (f : Bytes) (action : Action) (cls : ClassNum)
    (c : PortCounter) : Moves L s₀ s (applyAction p f action cls c s) := by
  cases action with
  | drop => exact bumpPort_moves ..
  | pass => exact (bumpPort_moves ..).trans (handOver_moves (by rwa [mode_bumpPort]) ..)
  | protect a => exact steerProtect_moves hmode ..

theorem EntryMove.refl (x : SteerEntry) : EntryMove x x := ⟨id, fun h => ⟨h, rfl⟩⟩

theorem updEntry_moves {i : EntryIdx} {f : SteerEntry → SteerEntry} (h : EntryMove (s.entry i) (f (s.entry i))) :
    Moves L s₀ s (s.updEntry i f) := by
  refine Move.moves (.entries _ fun j => ?_)
  rw [row_updRow]
  split
  · next hij => exact hij ▸ h
  · exact .refl _

theorem countHit_moves (i : EntryIdx) (s : State) : Moves L s₀ s (countHit i s) :=
  updEntry_moves ⟨fun _ => addCount_le .., fun h => ⟨h, rfl⟩⟩

theorem noteOverlap_moves (p : PortNum) (found : List EntryIdx) (s : State) : Moves L s₀ s (noteOverlap p found s) := by
  unfold noteOverlap
  split
  · exact (bumpPort_moves ..).trans (raiseEvent_moves ..)
  · exact .refl s₀ s

theorem mode_noteOverlap (p q : PortNum) (found : List EntryIdx) (s : State) :
    ((noteOverlap p found s).port q).mode = (s.port q).mode := by
  unfold noteOverlap
  split
  · rw [State.port_raiseEvent, mode_bumpPort]
  · rfl

theorem steerFrame_moves (hmode : (s.port p).mode = .protect) (f : Bytes) : Moves L s₀ s (steerFrame p f s) := by
  unfold steerFrame
  simp only
  split
  · next i rest _ =>
    refine ((countHit_moves i s).trans (noteOverlap_moves p _ _)).trans (applyAction_moves ?_ ..)
    rw [mode_noteOverlap]
    exact hmode
  · exact applyAction_moves hmode ..

theorem countedIn_moves (p : PortNum) (f : Bytes) (s : State) : Moves L s₀ s (countedIn p f s) :=
  (bumpPort_moves ..).trans (bumpPort_moves ..)

theorem protect_of_accepted {f : Bytes} {x : Port} (h : acceptanceDrop x f = none) : x.mode = .protect := by
  unfold acceptanceDrop at h
  split at h
  · cases h
  · next hmode => cases hx : x.mode <;> simp_all

theorem receiveRack_moves (p : PortNum) (f : Bytes) (s : State) : Moves L s₀ s (receiveRack p f s) := by
  cases hdrop : acceptanceDrop (s.port p) f with
  | some c =>
    rw [receiveRack_dropped hdrop]
    exact (countedIn_moves p f s).trans (bumpPort_moves ..)
  | none =>
    rw [receiveRack_accepted hdrop]
    have hmode : ((countedIn p f s).port p).mode = .protect := by
      unfold countedIn
      rw [mode_bumpPort, mode_bumpPort]
      exact protect_of_accepted hdrop
    refine (countedIn_moves p f s).trans ?_
    split
    · unfold applyRackPause
      split
      · exact updPort_moves_of_same
      · exact .refl s₀ _
    · split
      · exact bumpPort_moves ..
      · exact steerFrame_moves hmode f

/-- The lowest free place of an inbox that has one is in no captured frame (R123). -/
theorem freePlace_free {inbox : List Captured} (h : inbox.length < Config.inboxCapacity) :
    freePlace inbox ∉ inbox.map Captured.place := by
  unfold freePlace
  cases hfind : ([0, 1, 2, 3] : List (Fin 4)).find? fun i => !(inbox.any fun c => c.place == i) with
  | some i =>
    have hi := List.find?_some hfind
    simp only [Option.getD_some, List.mem_map, not_exists, not_and]
    intro c hc hplace
    simp only [Bool.not_eq_true', List.any_eq_false] at hi
    exact hi c hc (by simp [hplace])
  | none =>
    have hall : ∀ i : Fin 4, i ∈ inbox.map Captured.place := by
      intro i
      have hi := List.find?_eq_none.mp hfind i (by fin_cases i <;> simp)
      obtain ⟨c, hc, hplace⟩ : ∃ c ∈ inbox, c.place = i := by simpa using hi
      exact List.mem_map.mpr ⟨c, hc, hplace⟩
    have hcard : (Finset.univ : Finset (Fin 4)).card ≤ (inbox.map Captured.place).toFinset.card :=
      Finset.card_le_card fun i _ => List.mem_toFinset.mpr (hall i)
    have hle := List.toFinset_card_le (inbox.map Captured.place)
    simp [Config.inboxCapacity] at h hcard hle
    omega

theorem captureControl_moves (p : PortNum) (f : Bytes) (s : State) : Moves L s₀ s (captureControl p f s) := by
  unfold captureControl
  split
  · next hroom =>
    refine Moves.trans (updPort_moves ⟨rfl, id, fun h => ?_, .inl⟩) ((bumpPort_moves ..).trans (checkCaptured_moves ..))
    obtain ⟨hlength, hlanes, _, hplaces, hrest⟩ := h
    refine ⟨hlength, hlanes, by simpa using hroom, ?_, hrest⟩
    rw [List.map_append, List.nodup_append]
    exact ⟨hplaces, by simp, by rintro x hx y hy rfl; simp at hy; exact freePlace_free hroom (hy ▸ hx)⟩
  · exact (bumpPort_moves ..).trans (raiseEvent_moves ..)

theorem enqueueReturn_moves (p : PortNum) (f : Bytes) (s : State) : Moves L s₀ s (enqueueReturn p f s) := by
  unfold enqueueReturn
  split
  · next hfits =>
    refine updPort_moves ⟨rfl, id, fun h => ?_, .inl⟩
    obtain ⟨hlength, hlanes, hcount, hplaces, hcells, hrest⟩ := h
    refine ⟨hlength, hlanes, hcount, hplaces, ?_, hrest⟩
    unfold Port.returnFree at hfits
    simp only [List.map_append, List.sum_append, List.map_cons, List.map_nil, List.sum_cons, List.sum_nil]
    omega
  · exact (bumpPort_moves ..).trans (raiseEvent_moves ..)

theorem applyCampusPause_moves (p : PortNum) (f : Bytes) (s : State) : Moves L s₀ s (applyCampusPause p f s) := by
  unfold applyCampusPause
  split
  · exact Moves.trans updPort_moves_of_same (bumpPort_moves ..)
  · exact .refl s₀ s

theorem receiveCampus_moves (p : PortNum) (f : Bytes) (htested : Tested s₀ s) : Moves L s₀ s (receiveCampus p f s) := by
  unfold receiveCampus
  split
  · exact bumpPort_moves ..
  · split
    · exact applyCampusPause_moves ..
    · split
      · exact (captureControl_moves p f s).arbitrated htested
      · exact enqueueReturn_moves ..

/-! ## Links and transmitters (R14 to R16, R62) -/

theorem setPins_moves (pins : Pins) (s : State) : Moves L s₀ s { s with pins := pins } :=
  free_moves ⟨_, _, _, _, _, _, _, _, _, _, _, _, _, _, _, _, rfl⟩

theorem linkUp_moves (p : PortNum) (s : State) : Moves L s₀ s (linkUp p s) :=
  Moves.trans updPort_moves_of_same (raiseEvent_moves ..)

theorem cutCampusTx_moves (p : PortNum) (s : State) : Moves L s₀ s (cutCampusTx p s) := by
  unfold cutCampusTx
  split
  · exact Moves.trans updPort_moves_of_same (bumpPort_moves ..)
  · exact .refl s₀ s

theorem loseLink_moves (p : PortNum) (s : State) : Moves L s₀ s (loseLink p s) := by
  have hdown : Moves L s₀ s (s.updPort p fun x => { x with link := .down, campusPause := Vector.replicate 8 0 }) :=
    updPort_moves_of_same
  have hraised (wasUp : Prop) [Decidable wasUp] (u : State) :
      Moves L s₀ u (if wasUp then raiseEvent .linkDown (.port p) 0 u else u) := by
    split
    · exact raiseEvent_moves ..
    · exact .refl s₀ u
  exact hdown.trans ((hraised _ _).trans ((cutCampusTx_moves ..).trans
    ((linkDownFlush_moves ..).trans (discardHeads_moves ..))))

theorem countCampusTx_moves (p : PortNum) (tx : CampusTx) (s : State) : Moves L s₀ s (countCampusTx p tx s) := by
  have hsent (a : Anum) (frame : Bytes) : Moves L s₀ s (bumpAssoc a .plaintextOctets (frame.length - 32)
      (bumpAssoc a .framesProtected 1 (bumpPort p .octetsOut frame.length (bumpPort p .protectedFramesOut 1 s)))) :=
    (bumpPort_moves ..).trans ((bumpPort_moves ..).trans ((bumpAssoc_moves ..).trans (bumpAssoc_moves ..)))
  unfold countCampusTx
  split
  · simp only
    split
    · exact (hsent ..).trans (bumpAssoc_moves ..)
    · exact hsent ..
  · exact bumpPort_moves ..
  · exact .refl s₀ s

/-! ## Time (R124 to R127, R143, R144, R164, R184) -/

theorem settlePulse_moves (s : State) (p : PortNum) : Moves L s₀ s (settlePulse s p) := by
  unfold settlePulse
  split
  · split
    · exact linkUp_moves ..
    · exact updPort_moves_of_same
  · exact .refl s₀ s

theorem attemptPulse_moves (s : State) (a : Anum) : Moves L s₀ s (attemptPulse s a) := by
  unfold attemptPulse
  split
  · split
    · split
      · exact endAttempt_moves ..
      · exact updAssoc_moves_of_same
    · exact .refl s₀ s
  · exact .refl s₀ s

theorem abandonRecord_moves (got : Bytes) (s : State) : Moves L s₀ s (abandonRecord got s) :=
  Moves.trans (t := { s with receiver := .hunt }) (free_moves ⟨_, _, _, _, _, _, _, _, _, _, _, _, _, _, _, _, rfl⟩)
    (recordFault_moves ..)

theorem gapPulse_moves (s : State) : Moves L s₀ s (gapPulse s) := by
  unfold gapPulse
  split
  · split
    · exact abandonRecord_moves ..
    · exact free_moves ⟨_, _, _, _, _, _, _, _, _, _, _, _, _, _, _, _, rfl⟩
  · exact .refl s₀ s

theorem lifetimePulse_moves (scale : LifetimeScale) (a : Anum) (hs : Coherent s₀ → Coherent s) :
    Moves L s₀ s (lifetimePulse scale s a) := by
  unfold lifetimePulse
  simp only
  split
  · have hcounted : Moves L s₀ s (s.updAssoc a fun y => { y with lifetimeRemaining := y.lifetimeRemaining - 1 }) :=
      updAssoc_moves_of_same
    split
    · exact hcounted.trans (handTrigger_moves .expiry fun h₀ => (updAssoc_quiet rfl).coherent (hs h₀))
    · exact hcounted
  · exact .refl s₀ s

theorem lifetimes_moves (scale : LifetimeScale) (hs : Coherent s₀ → Coherent s) :
    Moves L s₀ s (allAnums.foldl (lifetimePulse scale) s) :=
  foldl_moves_of_coherent (fun _ a h => lifetimePulse_moves scale a h) (fun _ a h => lifetimePulse_coherent scale a h) _ hs

theorem pulseUsers_moves (hs : Coherent s₀ → Coherent s) : Moves L s₀ s (pulseUsers s) := by
  have hsettled : Moves L s₀ s (allPorts.foldl settlePulse s) := foldl_moves settlePulse_moves _ _
  have hattempts : Moves L s₀ s (allAnums.foldl attemptPulse (scrub (allPorts.foldl settlePulse s))) :=
    hsettled.trans ((scrub_moves _).trans (foldl_moves attemptPulse_moves _ _))
  refine (hattempts.trans (gapPulse_moves _)).trans (lifetimes_moves .fine fun h₀ => ?_)
  have hlinks := (foldl_quiet settlePulse_quiet allPorts s).coherent (hs h₀)
  exact (gapPulse_quiet _).coherent (foldl_coherent (fun _ a h => attemptPulse_coherent a h) _ (scrub_coherent hlinks))

/-- A fine pulse that is not the 33rd of a self-test (R124, R184). -/
theorem finePulse_moves (hs : Coherent s₀ → Coherent s)
    (htest : s.partState = .testing → (s.fineCount + 1) % Config.finePerCoarse ≤ Config.selfTestPulses
      ∨ Config.selfTestPulses < s.fineCount) : Moves L s₀ s (finePulse s) := by
  have hcount : Moves L s₀ s { s with clockCount := 0, fineCount := (s.fineCount + 1) % Config.finePerCoarse } := by
    refine Move.moves (.counts 0 _ s.hwFaults fun h => ?_)
    obtain ⟨_, _, hscrub, hfine⟩ := h
    refine ⟨(by decide : 0 < Config.clocksPerFine), Nat.mod_lt _ (by decide), hscrub, fun hx => ?_⟩
    have := hfine hx
    have := htest hx
    dsimp only
    omega
  have hstart (h₀ : Coherent s₀) :
      Coherent { s with clockCount := 0, fineCount := (s.fineCount + 1) % Config.finePerCoarse } := hs h₀
  have husers := hcount.trans (pulseUsers_moves hstart)
  unfold finePulse
  simp only
  split
  · exact husers.trans (lifetimes_moves .coarse fun h₀ => pulseUsers_coherent (hstart h₀))
  · exact husers

/-! ## The self-test (R184) -/

theorem setHwFaults_moves {hw : HwFaults} (h : hw.scrubFaults = s.hwFaults.scrubFaults) :
    Moves L s₀ s { s with hwFaults := hw } := by
  refine Move.moves (.counts s.clockCount s.fineCount hw fun hc => ?_)
  obtain ⟨hclock, hfine, hscrub, htest⟩ := hc
  exact ⟨hclock, hfine, h ▸ hscrub, htest⟩

theorem failLane_moves (result : SelfTestResult) (l : LaneNum) (htest : s.partState = .testing) :
    Moves L s₀ s (failLane result s l) := by
  unfold failLane
  split
  · refine Moves.trans ?_ (raiseEvent_moves ..)
    refine Moves.trans (Move.lane l .outOfService ⟨.inr htest, rfl, fun h => by simp [Lane.isExpand] at h, ?_⟩).moves
      (setHwFaults_moves rfl)
    rintro ⟨op, h⟩
    cases h
  · exact .refl s₀ s

theorem partState_failLane (result : SelfTestResult) (s : State) (l : LaneNum) :
    (failLane result s l).partState = s.partState := by
  unfold failLane
  split
  · simp
  · rfl

theorem failKeyStore_moves (result : SelfTestResult) (s : State) : Moves L s₀ s (failKeyStore result s) := by
  unfold failKeyStore
  split
  · refine Moves.trans ?_ (raiseEvent_moves ..)
    exact setHwFaults_moves rfl
  · exact .refl s₀ s

theorem partState_failKeyStore (result : SelfTestResult) (s : State) :
    (failKeyStore result s).partState = s.partState := by
  unfold failKeyStore
  split
  · simp
  · rfl

theorem failBuffer_moves (result : SelfTestResult) (s : State) (p : PortNum) : Moves L s₀ s (failBuffer result s p) := by
  unfold failBuffer
  split
  · refine Moves.trans ?_ (raiseEvent_moves ..)
    exact setHwFaults_moves rfl
  · exact .refl s₀ s

theorem partState_failBuffer (result : SelfTestResult) (s : State) (p : PortNum) :
    (failBuffer result s p).partState = s.partState := by
  unfold failBuffer
  split
  · simp
  · rfl

theorem stateAfterTest_ne (result : SelfTestResult) : stateAfterTest result ≠ .testing := by
  unfold stateAfterTest
  split <;> simp

theorem completeSelfTest_moves (result : SelfTestResult) (htest : s.partState = .testing) :
    Moves L s₀ s (completeSelfTest result s) := by
  have hlanes : Moves L s₀ s (allLanes.foldl (failLane result) s)
      ∧ (allLanes.foldl (failLane result) s).partState = .testing :=
    foldl_keeps (fun t => Moves L s₀ s t ∧ t.partState = .testing) _
      (fun t l ht => ⟨ht.1.trans (failLane_moves result l ht.2), (partState_failLane ..).trans ht.2⟩) _ _
      ⟨.refl s₀ s, htest⟩
  obtain ⟨hlanes, hlanesState⟩ := hlanes
  refine ((hlanes.trans (failKeyStore_moves ..)).trans (foldl_moves (failBuffer_moves result) allPorts _)).trans
    (Move.tested _ ?_ (stateAfterTest_ne result)).moves
  rw [foldl_same State.partState _ (partState_failBuffer result), partState_failKeyStore, hlanesState]

theorem selfTestDue_iff : selfTestDue s = true ↔ s.partState = .testing ∧ s.fineCount = Config.selfTestPulses := by
  simp [selfTestDue]

theorem endDueSelfTest_moves (s : State) : Moves L s₀ s (endDueSelfTest s) := by
  unfold endDueSelfTest
  split
  · next hdue =>
    exact (completeSelfTest_moves _ (selfTestDue_iff.mp hdue).1).trans
      (free_moves ⟨_, _, _, _, _, _, _, _, _, _, _, _, _, _, _, _, rfl⟩)
  · exact .refl s₀ s

/-- After the end of a due self-test, a part that still is in TESTING stands before its 32nd pulse or past it. -/
theorem not_due_endDueSelfTest (s : State) (h : (endDueSelfTest s).partState = .testing) :
    (endDueSelfTest s).fineCount ≠ Config.selfTestPulses := by
  unfold endDueSelfTest at *
  split at h
  · exact absurd h (stateAfterTest_ne _)
  · next hdue =>
    rw [if_neg hdue]
    exact fun hfine => hdue (selfTestDue_iff.mpr ⟨h, hfine⟩)

theorem fine_after {n : Nat} (h : n ≠ Config.selfTestPulses) :
    (n + 1) % Config.finePerCoarse ≤ Config.selfTestPulses ∨ Config.selfTestPulses < n := by
  by_cases hn : Config.selfTestPulses < n
  · exact .inr hn
  · left
    unfold Config.selfTestPulses Config.finePerCoarse at *
    omega

theorem clockTick_moves (hs : Coherent s₀ → Coherent s) : Moves L s₀ s (clockTick s) := by
  unfold clockTick
  split
  · exact .refl s₀ s
  · refine (endDueSelfTest_moves s).trans ?_
    unfold countClock
    split
    · exact finePulse_moves (fun h₀ => (endDueSelfTest_quiet s).coherent (hs h₀))
        fun htest => fine_after (not_due_endDueSelfTest s htest)
    · next hclock =>
      refine Move.moves (.counts _ (endDueSelfTest s).fineCount (endDueSelfTest s).hwFaults fun h => ?_)
      obtain ⟨_, hfine, hscrub, htest⟩ := h
      exact ⟨by dsimp only; omega, hfine, hscrub, htest⟩

end Sys2Proof.Proofs
end

section
/-! SUPPORT. Requests written as records and read back (R169, R171): numbers from their bytes, every body from its encoding. -/

/-! One theorem is checked after another, as in the tests, which bounds the threads that the whole text takes. -/

set_option Elab.async false

namespace Sys2Proof.Proofs

open Sys2Proof Sys2Proof.Machine

/-! ## Numbers and their bytes (R169) -/

theorem ofLE_toLE : ∀ (w n : Nat), ofLE (toLE w n) = n % 256 ^ w
  | 0, n => by simp [toLE, ofLE, Nat.mod_one]
  | w + 1, n => by
    simp only [toLE, ofLE, ofLE_toLE w, BitVec.toNat_ofNat]
    rw [show 256 ^ (w + 1) = 256 * 256 ^ w by ring, Nat.mod_mul]

theorem ofBE_append_singleton (bs : Bytes) (b : Byte) : ofBE (bs ++ [b]) = ofBE bs * 256 + b.toNat := by
  simp [ofBE]

theorem ofBE_reverse : ∀ bs : Bytes, ofBE bs.reverse = ofLE bs
  | [] => rfl
  | b :: bs => by
    rw [List.reverse_cons, ofBE_append_singleton, ofBE_reverse bs, ofLE]
    ring

theorem ofBE_toBE (w n : Nat) : ofBE (toBE w n) = n % 256 ^ w := by rw [toBE, ofBE_reverse, ofLE_toLE]

theorem ofNat_ofLE_toLE {n : Nat} (w : Nat) (x : BitVec n) (h : 2 ^ n = 256 ^ w) :
    BitVec.ofNat n (ofLE (toLE w x.toNat)) = x := by
  rw [ofLE_toLE, ← h, Nat.mod_eq_of_lt x.isLt, BitVec.ofNat_toNat, BitVec.setWidth_eq]

theorem ofNat_ofBE_toBE {n : Nat} (w : Nat) (x : BitVec n) (h : 2 ^ n = 256 ^ w) :
    BitVec.ofNat n (ofBE (toBE w x.toNat)) = x := by
  rw [ofBE_toBE, ← h, Nat.mod_eq_of_lt x.isLt, BitVec.ofNat_toNat, BitVec.setWidth_eq]

/-! ## Bodies (R171) -/

theorem vector8_eq (v : Vector Byte 8) :
    v = #v[row v 0, row v 1, row v 2, row v 3, row v 4, row v 5, row v 6, row v 7] :=
  ext_rows fun i => by fin_cases i <;> rfl

theorem vector4_eq {α : Type} (v : Vector α 4) : v = #v[row v 0, row v 1, row v 2, row v 3] :=
  ext_rows fun i => by fin_cases i <;> rfl

theorem beAt_of_slice {n w i : Nat} {bs : Bytes} (x : BitVec n) (h : 2 ^ n = 256 ^ w)
    (hslice : slice bs i w = toBE w x.toNat) : BitVec.ofNat n (beAt bs i w) = x := by
  rw [beAt, hslice, ofNat_ofBE_toBE w x h]

theorem leAt_of_slice {n w i : Nat} {bs : Bytes} (x : BitVec n) (h : 2 ^ n = 256 ^ w)
    (hslice : slice bs i w = toLE w x.toNat) : BitVec.ofNat n (leAt bs i w) = x := by
  rw [leAt, hslice, ofNat_ofLE_toLE w x h]

theorem le16At_of_slice {i : Nat} {bs : Bytes} (x : BitVec 16) (hslice : slice bs i 2 = toLE 2 x.toNat) :
    le16At bs i = x := leAt_of_slice x rfl hslice

theorem fourLe16At_of_slice {i : Nat} {bs : Bytes} {v : Vector (BitVec 16) 4}
    (h₀ : slice bs i 2 = toLE 2 (row v 0).toNat) (h₁ : slice bs (i + 2) 2 = toLE 2 (row v 1).toNat)
    (h₂ : slice bs (i + 4) 2 = toLE 2 (row v 2).toNat) (h₃ : slice bs (i + 6) 2 = toLE 2 (row v 3).toNat) :
    fourLe16At bs i = v := by
  rw [fourLe16At, le16At_of_slice _ h₀, le16At_of_slice _ h₁, le16At_of_slice _ h₂, le16At_of_slice _ h₃, ← vector4_eq]

theorem readPortSet_write (b : PortSetBody) : readPortSet (writePortSet b) = b := by
  obtain ⟨port, portAddress, peerAddress, frameCeiling, clpType, classes, untagged, action, anum, settle, policy, inhibit⟩ := b
  rw [vector8_eq classes]
  simp only [readPortSet, PortSetBody.mk.injEq]
  exact ⟨rfl, beAt_of_slice _ rfl rfl, beAt_of_slice _ rfl rfl, le16At_of_slice _ rfl, le16At_of_slice _ rfl, rfl, rfl,
    rfl, rfl, rfl, rfl, rfl⟩

theorem readPortFlow_write (b : PortFlowBody) : readPortFlow (writePortFlow b) = b := by
  obtain ⟨port, pauseEnable, ceiling, upper, lower, quanta⟩ := b
  rw [vector4_eq ceiling, vector4_eq upper, vector4_eq lower]
  simp only [readPortFlow, PortFlowBody.mk.injEq]
  exact ⟨rfl, rfl, fourLe16At_of_slice rfl rfl rfl rfl, fourLe16At_of_slice rfl rfl rfl rfl,
    fourLe16At_of_slice rfl rfl rfl rfl, le16At_of_slice _ rfl⟩

theorem readSteerSet_write (b : SteerSetBody) : readSteerSet (writeSteerSet b) = b := by
  simp only [readSteerSet]
  rw [le16At_of_slice (i := 3) b.vlanValue rfl, le16At_of_slice (i := 5) b.vlanMask rfl,
    beAt_of_slice (i := 9) b.addressValue rfl rfl, beAt_of_slice (i := 15) b.addressMask rfl rfl,
    le16At_of_slice (i := 21) b.typeValue rfl, le16At_of_slice (i := 23) b.typeMask rfl]
  rfl

theorem readAssocSet_write (b : AssocSetBody) : readAssocSet (writeAssocSet b) = b := by
  simp only [readAssocSet]
  rw [beAt_of_slice (i := 4) b.label rfl rfl, leAt_of_slice (i := 9) b.switchMark rfl rfl,
    leAt_of_slice (i := 14) b.stopMark rfl rfl, le16At_of_slice (i := 21) b.lifetimeReload rfl]
  rfl

/-- The body of a request command is read back as the command (R171). -/
theorem command_of_requestRecord {i : Instr} {kind : RequestKind} {tag : Byte} {body : Bytes}
    (h : requestRecord i = some (kind, tag, body)) : kind.command tag body = i := by
  cases i
  case portSet tag b => cases h; exact congrArg _ (readPortSet_write b)
  case portFlow tag b => cases h; exact congrArg _ (readPortFlow_write b)
  case steerSet tag b => cases h; exact congrArg _ (readSteerSet_write b)
  case assocSet tag b => cases h; exact congrArg _ (readAssocSet_write b)
  case eventsFetch tag count maskWrite mask => cases h; exact congrArg _ (leAt_of_slice mask rfl rfl)
  all_goals cases h <;> rfl

theorem ofCode_code (kind : RequestKind) : RequestKind.ofCode kind.code = some kind := by cases kind <;> rfl

/-- Settles O33. -/
theorem requestsRoundTrip : Obligations.RequestsRoundTrip := fun _ kind _ _ h =>
  ⟨ofCode_code kind, command_of_requestRecord h⟩

/-- A request command is the arrival of its body (R165, R168). -/
theorem exec_request {i : Instr} {kind : RequestKind} {tag : Byte} {body : Bytes}
    (h : requestRecord i = some (kind, tag, body)) (s : State) :
    exec i s = requestArrives kind tag body.length (serveCommand i) s := by
  cases i <;> cases h <;> rfl

theorem dealRecord_goodRecord {i : Instr} {kind : RequestKind} {tag : Byte} {body : Bytes}
    (h : requestRecord i = some (kind, tag, body)) (s : State) :
    dealRecord (goodRecord kind tag body) s = takeRequest kind body.length (serveCommand i) s := by
  simp only [dealRecord, goodRecord, recordCovered, if_true, takeRecord, ofCode_code, command_of_requestRecord h]

/-- Settles O34. -/
theorem requestsAreRecords : Obligations.RequestsAreRecords := fun _ _ _ _ s _ h => by
  rw [exec_request h]
  show unlessHeld s _ = unlessHeld s (.next (recordArrives _ _ _ s))
  rw [show dealRecord (goodRecord _ _ _) = takeRequest _ _ _ from funext (dealRecord_goodRecord h)]
  rfl

end Sys2Proof.Proofs
end

section
/-! SUPPORT. The requests as chains of elementary changes. -/

/-! One theorem is checked after another, as in the tests, which bounds the threads that the whole text takes. -/

set_option Elab.async false

namespace Sys2Proof.Proofs

open Sys2Proof Sys2Proof.Machine

variable {L : Prop} {s₀ s t u : State} {a : Anum} {k : SlotNum} {p : PortNum}

/-! ## Requests on ports (R2, R5, R6, R107, R138) -/

theorem servePortSet_moves (b : PortSetBody) (s : State) : Moves L s₀ s (servePortSet b s).state := by
  unfold servePortSet
  split
  · exact .refl s₀ s
  · split
    · exact .refl s₀ s
    · split
      · exact .refl s₀ s
      · exact updPort_moves_of_same

/-- A port in OFF holds no queued frame, so any thresholds suit it (R107). -/
theorem servePortFlow_moves (b : PortFlowBody) (s : State) : Moves L s₀ s (servePortFlow b s).state := by
  unfold servePortFlow
  split
  · exact .refl s₀ s
  · next p _ =>
    split
    · exact .refl s₀ s
    · next hmode =>
      split
      · exact .refl s₀ s
      · refine updPort_moves ⟨rfl, id, fun hok => ?_, .inl⟩
        have hoff : (s.port p).mode = .off := by simpa using hmode
        obtain ⟨_, _, _, _, _, _, hempty⟩ := id hok
        exact ok_of_queues_empty hok rfl rfl rfl (hempty hoff)

theorem servePortSwitch_moves (port first last : Byte) (s : State) : Moves L s₀ s (servePortSwitch port first last s).state := by
  unfold servePortSwitch
  split
  · exact .refl s₀ s
  · split
    · exact .refl s₀ s
    · split
      · exact .refl s₀ s
      · exact updPort_moves_of_same

theorem abandonPort_moves (p : PortNum) (s : State) : Moves L s₀ s (abandonPort p s) := by
  refine foldl_moves (fun s a => ?_) _ _
  split
  · exact abandonExchange_moves ..
  · exact .refl s₀ s

/-- A port that has left PROTECT with its class queues flushed (R6). -/
theorem flushedOff_moves (p : PortNum) (c : PortCounter) (s : State) :
    Moves L s₀ s (flushQueues p c (s.updPort p fun x => { x with mode := .off })) := by
  rw [flushQueues_eq, updPort_updPort]
  obtain ⟨hsequence, hinbox, hfifo, _, hmode, hcounters⟩ := flushedBy_fields c { s.port p with mode := .off }
  have hmove : PortMove s (s.port p) (flushedBy c { s.port p with mode := .off }) :=
    ⟨hsequence, hcounters, fun h => ok_of_queues_empty h hsequence hinbox hfifo (row_queues_flushedBy c _),
      fun h => by rw [hmode] at h; cases h⟩
  exact updPort_moves hmove

theorem portOff_moves (p : PortNum) (s : State) : Moves L s₀ s (portOff p s) :=
  (flushedOff_moves p _ s).trans ((abandonPort_moves p _).trans
    ((removeEntries_moves (fun e he => by simp at he; simp [laneOf, he]) p _ _).trans (discardHeads_moves p _)))

/-- A port enters PROTECT, which a part in RUNNING permits (R5, R185). -/
theorem portProtect_moves (p : PortNum) (hs : Coherent s₀ → Coherent s) (hrun : s.partState = .running) :
    Moves L s₀ s (portProtect p s) := by
  have hmode : Moves L s₀ s (s.updPort p fun x => { x with mode := .protect }) := by
    refine updPort_moves ⟨rfl, id, fun h => ?_, fun _ => .inr hrun⟩
    obtain ⟨hlength, hlanes, hcount, hplaces, hcells, hocc, _⟩ := h
    exact ⟨hlength, hlanes, hcount, hplaces, hcells, hocc, fun h => by simp at h⟩
  refine hmode.trans ((linkDownFlush_moves p _).trans ((discardHeads_moves p _).trans ?_))
  have hquiet : Quiet s (discardHeads p (linkDownFlush p (s.updPort p fun x => { x with mode := .protect }))) :=
    (updPort_quiet ..).trans ((linkDownFlush_quiet ..).trans (discardHeads_quiet ..))
  refine foldl_moves_of_coherent (fun s a hs => ?_) (fun s a hs => ?_) _ fun h₀ => hquiet.coherent (hs h₀)
  · split
    · exact beginIfPending_moves a hs
    · exact .refl s₀ s
  · split
    · exact beginIfPending_coherent hs a
    · exact hs

theorem servePortMode_moves (port mode : Byte) (hs : Coherent s₀ → Coherent s) (hrun : s.partState = .running) :
    Moves L s₀ s (servePortMode port mode s).state := by
  unfold servePortMode
  split
  · next p m _ _ =>
    split
    · exact .refl s₀ s
    · cases m with
      | off =>
        dsimp only [done]
        exact portOff_moves p s
      | protect =>
        dsimp only
        split
        · exact .refl s₀ s
        · dsimp only [done]
          exact portProtect_moves p hs hrun
  · exact .refl s₀ s

/-! ## Requests on steering entries (R34, R36, R37) -/

theorem EntryMove.of_unlocked {x y : SteerEntry} (h : x.locked = false) (hits : y.hits = 0) : EntryMove x y :=
  ⟨fun _ => by simp [hits], fun hlocked => by simp [h] at hlocked⟩

theorem hits_steerEntryOf {b : SteerSetBody} {e : SteerEntry} (h : steerEntryOf s b = some e) : e.hits = 0 := by
  simp only [steerEntryOf, Option.bind_eq_bind, Option.bind_eq_some_iff] at h
  obtain ⟨_, _, _, _, _, _, _, _, _, _, he⟩ := h
  cases he
  rfl

theorem serveSteerSet_moves (b : SteerSetBody) (s : State) : Moves L s₀ s (serveSteerSet b s).state := by
  unfold serveSteerSet
  split
  · exact .refl s₀ s
  · split
    · exact .refl s₀ s
    · next hlocked =>
      split
      · exact .refl s₀ s
      · next he => exact updEntry_moves (.of_unlocked (by simpa using hlocked) (hits_steerEntryOf he))

theorem serveSteerLock_moves (index : Byte) (s : State) : Moves L s₀ s (serveSteerLock index s).state := by
  unfold serveSteerLock
  split
  · exact .refl s₀ s
  · split
    · exact .refl s₀ s
    · exact updEntry_moves ⟨id, fun h => ⟨rfl, by rw [h]⟩⟩

theorem serveSteerClear_moves (index : Byte) (s : State) : Moves L s₀ s (serveSteerClear index s).state := by
  unfold serveSteerClear
  split
  · exact .refl s₀ s
  · split
    · exact .refl s₀ s
    · next hlocked => exact updEntry_moves (.of_unlocked (by simpa using hlocked) rfl)

/-! ## Requests on associations (R44 to R49, R100, R159) -/

/-- An association in IDLE or CONFIGURED has no key in service (R42). -/
theorem current_none_of_settable (hs : Coherent s) (h : (s.assoc a).state = .idle ∨ (s.assoc a).state = .configured) :
    (s.assoc a).current = none :=
  current_none_of_ok (ok_of_coherent hs a) (by rcases h with h | h <;> rw [h] <;> rfl)

theorem serveAssocSet_moves (b : AssocSetBody) (hs : Coherent s₀ → Coherent s) : Moves L s₀ s (serveAssocSet b s).state := by
  unfold serveAssocSet
  split
  · exact .refl s₀ s
  · split
    · exact .refl s₀ s
    · next a _ hstate =>
      split
      · exact .refl s₀ s
      · next x hx =>
        split
        · obtain ⟨port, protection, vlan, trigger, confirm, scale, _, _, rfl⟩ := configuredOf_eq_some_iff.mp hx
          refine updAssoc_moves ⟨id, .inr rfl, fun h₀ => .inl (current_none_of_settable (hs h₀) ?_)⟩
          tauto
        · exact .refl s₀ s

theorem serveAssocStart_moves (anum : Byte) (hs : Coherent s₀ → Coherent s) : Moves L s₀ s (serveAssocStart anum s).state := by
  unfold serveAssocStart
  split
  · exact .refl s₀ s
  · split
    · exact .refl s₀ s
    · next a _ hstate =>
      split
      · exact .refl s₀ s
      · next k hk =>
        split
        · exact .refl s₀ s
        · next hready =>
          refine entersService_moves ⟨rfl, hk, rfl, rfl, fun h₀ => ⟨by simpa using hready, ?_⟩⟩
          rw [current_none_of_settable (hs h₀) (.inr (by simpa using hstate))]
          simp

theorem serveAssocSuspend_moves (anum : Byte) (s : State) : Moves L s₀ s (serveAssocSuspend anum s).state := by
  unfold serveAssocSuspend
  split
  · exact .refl s₀ s
  · split
    · exact updAssoc_moves_of_same
    · exact .refl s₀ s

theorem serveAssocResume_moves (anum : Byte) (hs : Coherent s₀ → Coherent s) : Moves L s₀ s (serveAssocResume anum s).state := by
  unfold serveAssocResume
  split
  · exact .refl s₀ s
  · split
    · next a _ hstate =>
      refine Moves.trans updAssoc_moves_of_same (beginIfPending_moves a fun h₀ => ?_)
      have hok := ok_of_coherent (hs h₀) a
      refine updAssoc_coherent (hs h₀) ?_ rfl rfl rfl (.inl rfl)
      simpa [Assoc.Ok, hstate, AssocState.inService] using hok
    · exact .refl s₀ s

theorem slot_abandonExchange (cause : AbortCause) (s : State) (a : Anum) (k : SlotNum) :
    (abandonExchange cause s a).slot k = s.slot k := by
  by_cases h : (s.assoc a).attempt = none
  · rw [abandonExchange_none h]
  · rw [abandonExchange_eq h]
    simp [endExchange, leaveControlQueue]

theorem nextEmptied_moves {o : Option SlotNum} (h : Coherent s₀ → ∀ k, o = some k → Uncounted (s.slot k)) :
    Moves L s₀ s (nextEmptied o s) := by
  cases o with
  | none => exact .refl s₀ s
  | some k => exact emptySlot_moves fun h₀ => .inl (h h₀ k rfl)

theorem uncounted_of_next (hs : Coherent s) (hk : (s.assoc a).next = some k) : Uncounted (s.slot k) := by
  rcases ((fits_of_coherent hs a).next k).mp hk with h | h
  · exact .inr (.inl (heldAs_eq_some_iff.mp h).2.1)
  · exact .inr (.inr (heldAs_eq_some_iff.mp h).2.1)

theorem clearAssoc_moves (a : Anum) (hs : Coherent s₀ → Coherent s) : Moves L s₀ s (clearAssoc a s) := by
  rw [clearAssoc_eq]
  have hcleared : ∀ u : State, Moves L s₀ u (u.updAssoc a Assoc.cleared) := fun u =>
    updAssoc_moves ⟨id, .inl rfl, fun _ => .inl rfl⟩
  refine (abandonExchange_moves ..).trans ((outgoingLeaves_moves fun h₀ j hj => ?_).trans
    ((nextEmptied_moves fun h₀ k hk => ?_).trans ((hcleared _).trans (withdrawVerifies_moves ..))))
  · rw [slot_abandonExchange]
    exact active_of_current (hs h₀) hj
  · rw [slot_outgoingLeaves_ne _ fun hcurrent => next_ne_of_current (hs h₀) hcurrent hk, slot_abandonExchange]
    exact uncounted_of_next (hs h₀) hk

theorem serveAssocClear_moves (anum : Byte) (hs : Coherent s₀ → Coherent s) : Moves L s₀ s (serveAssocClear anum s).state := by
  unfold serveAssocClear
  split
  · exact .refl s₀ s
  · split
    · exact .refl s₀ s
    · exact clearAssoc_moves _ hs

theorem corruptAction_eq {action : Byte} {x y : Assoc} (h : corruptAction action x = some y) :
    ∃ one all, y = { x with corruptOne := one, corruptAll := all } := by
  unfold corruptAction at h
  split at h <;> cases h <;> exact ⟨_, _, rfl⟩

theorem serveTestCorrupt_moves (anum action : Byte) (s : State) : Moves L s₀ s (serveTestCorrupt anum action s).state := by
  unfold serveTestCorrupt
  split
  · exact .refl s₀ s
  · split
    · exact .refl s₀ s
    · next x hx =>
      split
      · exact .refl s₀ s
      · obtain ⟨one, all, rfl⟩ := corruptAction_eq hx
        exact updAssoc_moves ⟨id, .inr rfl, fun _ => .inr ⟨rfl, rfl, rfl, rfl, rfl⟩⟩

theorem serveSwitchNow_moves (anum : Byte) (hs : Coherent s₀ → Coherent s) : Moves L s₀ s (serveSwitchNow anum s).state := by
  unfold serveSwitchNow
  split
  · exact .refl s₀ s
  · dsimp only
    split
    · exact .refl s₀ s
    · split
      · exact .refl s₀ s
      · split
        · exact .refl s₀ s
        · next hready =>
          split
          · exact .refl s₀ s
          · exact beginSwitch_moves hs (by simpa using hready)

/-! ## Requests on the key store (R68 to R71, R74) -/

theorem serveTransportKey_moves (key : Bytes) (s : State) : Moves L s₀ s (serveTransportKey key s).state := by
  unfold serveTransportKey
  split
  · exact .refl s₀ s
  · next hnone =>
    split
    · exact .refl s₀ s
    · exact (Move.transport key (by simpa using hnone)).moves

theorem loadKey_moves (epoch : Byte) (key : Unwrapped) (hslots : s.slots = s₀.slots) (hempty : (s.slot k).state = .empty)
    (htested : Tested s₀ s) : Moves L s₀ s (loadKey k a epoch key s) := by
  have hslot : Moves L s₀ s (s.updSlot k fun _ => Slot.loadedWith a epoch key) :=
    Move.moves (.slot k _ ⟨fun _ _ => by simp [Slot.Ok, Slot.loadedWith], fun _ _ => .inl (.inl hempty),
      .inr ⟨rfl, .inr (.inl rfl)⟩, by simp [Slot.loadedWith]⟩)
  have hstart : (s₀.slot k).state = .empty := by rwa [State.slot, ← hslots]
  refine Moves.arbitrated (hslot.trans ((Move.loads a k hstart).moves.trans ?_)) htested
  exact free_moves ⟨_, _, _, _, _, _, _, _, _, _, _, _, _, _, _, _, rfl⟩

theorem serveKeyLoad_moves (slot anum epoch : Byte) (blob : Bytes) (hslots : s.slots = s₀.slots) (htested : Tested s₀ s) :
    Moves L s₀ s (serveKeyLoad slot anum epoch blob s).state := by
  unfold serveKeyLoad
  split
  · exact .refl s₀ s
  · split
    · next k a _ _ =>
      unfold serveLoad
      dsimp only
      split
      · exact .refl s₀ s
      · next hempty =>
        split
        · exact .refl s₀ s
        · split
          · exact .refl s₀ s
          · split
            · exact .refl s₀ s
            · split
              · exact .refl s₀ s
              · split
                · exact .refl s₀ s
                · exact loadKey_moves _ _ hslots (by simpa using hempty) htested
    · exact .refl s₀ s

theorem eraseNext_moves (h : Uncounted (s.slot k)) : Moves L s₀ s (eraseNext k s) := by
  unfold eraseNext
  split
  · refine nextLost_moves.trans (Moves.trans (emptySlot_moves fun _ => .inl ?_) (withdrawVerifies_moves ..))
    exact h
  · exact emptySlot_moves fun _ => .inl h

theorem serveKeyErase_moves (slot : Byte) (s : State) : Moves L s₀ s (serveKeyErase slot s).state := by
  unfold serveKeyErase
  split
  · exact .refl s₀ s
  · split
    · exact .refl s₀ s
    · next h => exact eraseNext_moves (.inr (.inl h))
    · next h =>
      split
      · exact .refl s₀ s
      · exact eraseNext_moves (.inr (.inr h))
    · exact .refl s₀ s
    · exact .refl s₀ s
    · split
      · next h => exact emptySlot_moves fun _ => .inr h
      · exact .refl s₀ s

/-! ## Reports (R177, R178, R181) -/

theorem serveEventsFetch_moves (count maskWrite : Byte) (mask : BitVec 32) (s : State) :
    Moves L s₀ s (serveEventsFetch count maskWrite mask s).state := by
  unfold serveEventsFetch
  split
  · exact .refl s₀ s
  · exact (Move.fetched (min count.toNat fetchMax)).moves.trans
      (free_moves ⟨_, _, _, _, _, _, _, _, _, _, _, _, _, _, _, _, rfl⟩)

theorem serveFaultsRead_moves (s : State) : Moves L s₀ s (serveFaultsRead s).state :=
  (Move.faults [] fun _ => by simp).moves

theorem bounded_replicate (n : Nat) : Bounded (Vector.replicate n 0) := fun i => by simp [row]

theorem clearCounters_moves (block : CounterBlock) (first used : Nat) (s : State) :
    Moves L s₀ s (clearCounters block first used s) := by
  cases block with
  | port =>
    refine (Move.ports _ fun p => ?_).moves
    simp only [mapRange, row_ofFn]
    split
    · exact ⟨rfl, fun _ => bounded_replicate 32, id, .inl⟩
    · exact .refl s _
  | assoc =>
    refine (Move.assocs _ fun a => ?_).moves
    simp only [mapRange, row_ofFn]
    split
    · exact ⟨fun _ => bounded_replicate 8, .inr rfl, fun _ => .inr ⟨rfl, rfl, rfl, rfl, rfl⟩⟩
    · exact .refl s₀ _
  | steer =>
    refine (Move.entries _ fun i => ?_).moves
    simp only [mapRange, row_ofFn]
    split
    · exact ⟨fun _ => Nat.zero_le _, fun h => ⟨h, rfl⟩⟩
    · exact .refl _

theorem serveCountersRead_moves (block first count clear : Byte) (s : State) :
    Moves L s₀ s (serveCountersRead block first count clear s).state := by
  unfold serveCountersRead
  split
  · exact .refl s₀ s
  · split
    · exact .refl s₀ s
    · split
      · exact .refl s₀ s
      · simp only [done]
        split
        · exact clearCounters_moves ..
        · exact .refl s₀ s

end Sys2Proof.Proofs
end

section
/-! SUPPORT. Every command but the ends of a reset is a chain of elementary changes. -/

/-! One theorem is checked after another, as in the tests, which bounds the threads that the whole text takes. -/

set_option Elab.async false

namespace Sys2Proof.Proofs

open Sys2Proof Sys2Proof.Machine

variable {L : Prop} {s₀ s t u : State} {a : Anum} {k : SlotNum} {p : PortNum}

/-! ## The management line (R163 to R168) -/

theorem servePortGet_state (port : Byte) (s : State) : (servePortGet port s).state = s := by
  unfold servePortGet
  split <;> rfl

theorem serveSteerGet_state (index : Byte) (s : State) : (serveSteerGet index s).state = s := by
  unfold serveSteerGet
  split <;> rfl

theorem serveAssocGet_state (anum : Byte) (s : State) : (serveAssocGet anum s).state = s := by
  unfold serveAssocGet
  split <;> rfl

theorem serveSlotGet_state (slot : Byte) (s : State) : (serveSlotGet slot s).state = s := by
  unfold serveSlotGet
  split <;> rfl

theorem moves_of_eq (h : t = s) : Moves L s₀ s t := by
  rw [h]
  exact .refl s₀ s

/-- A request that is taken is a chain, begun in a state that has the slots of the step's own. -/
theorem serveCommand_moves {i : Instr} {kind : RequestKind} {tag : Byte} {body : Bytes}
    (hrequest : requestRecord i = some (kind, tag, body)) (htaken : kind.takenIn s.partState = true)
    (hs : Coherent s₀ → Coherent s) (hslots : s.slots = s₀.slots) : Moves L s₀ s (serveCommand i s).state := by
  have hrun (h : ∀ x, x ≠ .running → kind.takenIn x = false) : s.partState = .running := by
    by_contra hne
    rw [h _ hne] at htaken
    cases htaken
  cases i <;> cases hrequest
  case portSet b => exact servePortSet_moves b s
  case portMode port mode => exact servePortMode_moves port mode hs (hrun fun x hx => by cases x <;> tauto)
  case portFlow b => exact servePortFlow_moves b s
  case portSwitch port first last => exact servePortSwitch_moves port first last s
  case steerSet b => exact serveSteerSet_moves b s
  case steerLock index => exact serveSteerLock_moves index s
  case steerClear index => exact serveSteerClear_moves index s
  case assocSet b => exact serveAssocSet_moves b hs
  case assocStart anum => exact serveAssocStart_moves anum hs
  case assocSuspend anum => exact serveAssocSuspend_moves anum s
  case assocResume anum => exact serveAssocResume_moves anum hs
  case assocClear anum => exact serveAssocClear_moves anum hs
  case testCorrupt anum action => exact serveTestCorrupt_moves anum action s
  case switchNow anum => exact serveSwitchNow_moves anum hs
  case transportKey => exact serveTransportKey_moves body s
  case keyLoad slot anum epoch blob =>
    exact serveKeyLoad_moves slot anum epoch blob hslots (tested_of_running (hrun fun x hx => by cases x <;> tauto))
  case keyErase slot => exact serveKeyErase_moves slot s
  case eventsFetch count maskWrite mask => exact serveEventsFetch_moves count maskWrite mask s
  case portGet port => exact moves_of_eq (servePortGet_state port s)
  case steerGet index => exact moves_of_eq (serveSteerGet_state index s)
  case assocGet anum => exact moves_of_eq (serveAssocGet_state anum s)
  case slotGet slot => exact moves_of_eq (serveSlotGet_state slot s)
  case faultsRead => exact serveFaultsRead_moves s
  case countersRead block first count clear => exact serveCountersRead_moves block first count clear s
  all_goals exact .refl s₀ s

theorem takeRequest_moves {i : Instr} {kind : RequestKind} {tag : Byte} {body : Bytes}
    (hrequest : requestRecord i = some (kind, tag, body)) (n : Nat) (hs : Coherent s₀ → Coherent s)
    (hslots : s.slots = s₀.slots) : Moves L s₀ s (takeRequest kind n (serveCommand i) s).state := by
  unfold takeRequest
  split
  · exact .refl s₀ s
  · next htaken =>
    split
    · exact .refl s₀ s
    · exact serveCommand_moves hrequest (by simpa using htaken) hs hslots

/-- The command that a kind, a tag and a body stand for is a request of that kind. -/
theorem requestRecord_command (kind : RequestKind) (tag : Byte) (body : Bytes) :
    ∃ written, requestRecord (kind.command tag body) = some (kind, tag, written) := by
  cases kind <;> exact ⟨_, rfl⟩

theorem dealRecord_moves (r : Record) (hs : Coherent s₀ → Coherent s) (hslots : s.slots = s₀.slots) :
    Moves L s₀ s (dealRecord r s).state := by
  unfold dealRecord
  split
  · unfold takeRecord
    split
    · next kind _ =>
      obtain ⟨written, hrequest⟩ := requestRecord_command kind r.tag r.body
      exact takeRequest_moves hrequest _ hs hslots
    · exact recordFault_moves ..
  · exact recordFault_moves ..

/-- A record that arrives is a chain if what deals with it is one (R165, R166). -/
theorem recordArrives_moves {deal : State → Served} (kind tag : Byte)
    (hdeal : ∀ s₁ : State, (Coherent s → Coherent s₁) → s₁.slots = s.slots → Moves True s s₁ (deal s₁).state) :
    Moves True s s (recordArrives kind tag deal s) := by
  have hcounted : Moves True s s { s with requestCount := s.requestCount + 1, receiver := .hunt } :=
    free_moves ⟨_, _, _, _, _, _, _, _, _, _, _, _, _, _, _, _, rfl⟩
  refine hcounted.trans ?_
  unfold recordArrives
  dsimp only
  split
  · exact (hdeal { s with requestCount := s.requestCount + 1, receiver := .hunt } id rfl).trans
      (line_moves ⟨_, _, _, _, _, _, _, _, _, _, _, _, _, _, _, _, rfl⟩)
  · exact line_moves ⟨_, _, _, _, _, _, _, _, _, _, _, _, _, _, _, _, rfl⟩
  · exact recordFault_moves ..
  · exact recordFault_moves ..

theorem completeRecord_moves (r : Record) (s : State) : Moves True s s (completeRecord r s) :=
  recordArrives_moves r.kind r.tag fun _ hs hslots => dealRecord_moves r hs hslots

theorem receiveByte_moves (byte : Byte) (stopBit : Bool) (s : State) : Moves True s s (receiveByte byte stopBit s) := by
  unfold receiveByte
  split
  · split
    · exact free_moves ⟨_, _, _, _, _, _, _, _, _, _, _, _, _, _, _, _, rfl⟩
    · exact .refl s s
  · split
    · unfold recordByte
      dsimp only
      split
      · exact free_moves ⟨_, _, _, _, _, _, _, _, _, _, _, _, _, _, _, _, rfl⟩
      · split
        · exact Moves.trans (free_moves ⟨_, _, _, _, _, _, _, _, _, _, _, _, _, _, _, _, rfl⟩) (recordFault_moves ..)
        · split
          · exact free_moves ⟨_, _, _, _, _, _, _, _, _, _, _, _, _, _, _, _, rfl⟩
          · exact completeRecord_moves ..
    · exact abandonRecord_moves ..

/-! ## Results that a chain leads to -/

/-- A result whose next state, if it has one, a chain leads to. -/
def Leads (L : Prop) (s : State) : Result → Prop
  | .next t => Moves L s s t
  | .fault _ => True
  | .refused _ => True

theorem leads_next (h : Moves L s s t) : Leads L s (.next t) := h

theorem leads_refused (r : Refusal) : Leads L s (.refused r) := trivial

theorem leads_self : Leads L s (.next s) := Moves.refl s s

theorem unlessHeld_leads {act : Result} (h : Leads L s act) : Leads L s (unlessHeld s act) := by
  unfold unlessHeld
  split
  · exact leads_self
  · exact h

theorem ite_leads {c : Prop} [Decidable c] {x y : Result} (hx : c → Leads L s x) (hy : ¬c → Leads L s y) :
    Leads L s (if c then x else y) := by
  split
  · next h => exact hx h
  · next h => exact hy h

theorem requestArrives_leads {i : Instr} {kind : RequestKind} {tag : Byte} {body : Bytes}
    (h : requestRecord i = some (kind, tag, body)) (s : State) : Leads True s (exec i s) := by
  rw [exec_request h]
  exact unlessHeld_leads (recordArrives_moves _ _ fun _ hs hslots => takeRequest_moves h _ hs hslots)

/-! ## Start-up and the inhibit input (R183, R184, R187, R188) -/

theorem cutOff_moves (s : State) : Moves True s s { s with
    pins := { s.pins with resetLow := true }, ports := mapRows s.ports Port.cutOff, replyOwed := none, busyOwed := none } := by
  have hports : Moves True s s { s with ports := mapRows s.ports Port.cutOff } := by
    refine (Move.ports _ fun p => ?_).moves
    rw [row_mapRows]
    exact ⟨rfl, id, id, .inl⟩
  exact hports.trans (line_moves ⟨_, _, _, _, _, _, _, _, _, _, _, _, _, _, _, _, rfl⟩)

theorem inhibitFlush_moves (s : State) (p : PortNum) : Moves L s₀ s (inhibitFlush s p) := by
  unfold inhibitFlush
  split
  · exact flushQueues_moves ..
  · exact .refl s₀ s

theorem markDone_fields (e : Entry) : e.markDone.body = e.body ∧ laneOf e.markDone = laneOf e := by
  unfold Entry.markDone
  split <;> exact ⟨rfl, rfl⟩

theorem markEntries_moves (s : State) (p : PortNum) : Moves L s₀ s (markEntries s p) := by
  refine (Move.remarks p ((s.port p).sequence.map Entry.markDone) ?_ ?_).moves
  · simp [(markDone_fields _).1]
  · simp [(markDone_fields _).2]

theorem assertInhibit_moves (s : State) : Moves L s₀ s (assertInhibit s) := by
  have hraised : Moves L s₀ s (raiseEvent .inhibitOn .part 0 { s with inhibit := .asserted }) :=
    Moves.trans (free_moves ⟨_, _, _, _, _, _, _, _, _, _, _, _, _, _, _, _, rfl⟩) (raiseEvent_moves ..)
  exact hraised.trans ((foldl_moves inhibitFlush_moves _ _).trans ((foldl_moves markEntries_moves _ _).trans
    ((foldl_moves (fun s a => abandonExchange_moves .inhibit a s) _ _).trans
      (foldl_moves (fun s p => discardHeads_moves p s) _ _))))

theorem releaseInhibit_moves (hs : Coherent s₀ → Coherent s) : Moves L s₀ s (releaseInhibit s) := by
  have hraised : Moves L s₀ s (raiseEvent .inhibitOff .part 0 { s with inhibit := .released }) :=
    Moves.trans (free_moves ⟨_, _, _, _, _, _, _, _, _, _, _, _, _, _, _, _, rfl⟩) (raiseEvent_moves ..)
  have hquiet : Quiet s (raiseEvent .inhibitOff .part 0 { s with inhibit := .released }) :=
    Quiet.trans (t := { s with inhibit := .released }) ⟨fun _ => rfl⟩ (raiseEvent_quiet ..)
  refine hraised.trans (Moves.trans ?_
    (foldl_moves (fun s p => (linkDownFlush_moves p s).trans (discardHeads_moves p _)) _ _))
  exact foldl_moves_of_coherent (fun s a hs => beginIfPending_moves a hs)
    (fun s a hs => beginIfPending_coherent hs a) _ fun h₀ => hquiet.coherent (hs h₀)

theorem execPinResetAssert_leads (s : State) : Leads True s (execPinResetAssert s) :=
  ite_leads (fun _ => trivial) fun _ => cutOff_moves s

theorem execSelftestComplete_leads (result : SelfTestResult) (s : State) : Leads L s (execSelftestComplete result s) := by
  refine unlessHeld_leads (ite_leads (fun hdue => ?_) fun _ => trivial)
  exact completeSelfTest_moves result (selfTestDue_iff.mp hdue).1

theorem execInhibitAssert_leads (s : State) : Leads L s (execInhibitAssert s) :=
  ite_leads (fun _ => setPins_moves _ s) fun _ => ite_leads (fun _ => trivial) fun _ =>
    (setPins_moves _ s).trans (assertInhibit_moves _)

theorem execInhibitRelease_leads (s : State) : Leads L s (execInhibitRelease s) :=
  ite_leads (fun _ => setPins_moves _ s) fun _ => ite_leads (fun _ => trivial) fun _ =>
    (setPins_moves _ s).trans (releaseInhibit_moves id)

/-! ## Pulses and quanta (R106, R112, R118, R122, R124, R127, R144, R164) -/

theorem applyDrift_time (drift : Option KeyDrift) (s : State) :
    (applyDrift drift s).partState = s.partState ∧ (applyDrift drift s).fineCount = s.fineCount := by
  cases drift <;> exact ⟨rfl, rfl⟩

theorem execFinePulse_leads (drift : Option KeyDrift) (s : State) : Leads L s (execFinePulse drift s) := by
  refine unlessHeld_leads ?_
  have hended : Moves L s s (applyDrift drift (endDueSelfTest s)) := (endDueSelfTest_moves s).trans (applyDrift_moves drift _)
  refine hended.trans (finePulse_moves (fun hs => ?_) fun htest => fine_after ?_)
  · exact ((endDueSelfTest_quiet s).trans (applyDrift_quiet drift _)).coherent hs
  · obtain ⟨hstate, hfine⟩ := applyDrift_time drift (endDueSelfTest s)
    rw [hfine]
    exact not_due_endDueSelfTest s (hstate ▸ htest)

theorem execCoarsePulse_leads (drift : Option KeyDrift) (s : State) : Leads L s (execCoarsePulse drift s) := by
  refine unlessHeld_leads (ite_leads (fun hcoarse => ?_) fun _ => leads_self)
  refine (applyDrift_moves drift s).trans (finePulse_moves (fun hs => (applyDrift_quiet drift s).coherent hs) fun _ => .inl ?_)
  rw [(applyDrift_time drift s).2, hcoarse]
  exact Nat.zero_le _

theorem execLifetimeExpiry_leads (a : Anum) (s : State) : Leads L s (execLifetimeExpiry a s) :=
  unlessHeld_leads (ite_leads (fun _ => lifetimePulse_moves _ a id) fun _ => leads_self)

theorem execAttemptTimeout_leads (a : Anum) (s : State) : Leads L s (execAttemptTimeout a s) :=
  unlessHeld_leads (ite_leads (fun _ => attemptPulse_moves s a) fun _ => leads_self)

theorem execGapExpiry_leads (s : State) : Leads L s (execGapExpiry s) :=
  unlessHeld_leads (ite_leads (fun _ => gapPulse_moves s) fun _ => leads_self)

theorem execQuantumTick_leads (s : State) : Leads L s (execQuantumTick s) := by
  refine unlessHeld_leads (Move.ports _ fun p => ?_).moves
  rw [row_mapRows]
  exact ⟨rfl, id, id, .inl⟩

theorem execPauseRefreshDue_leads (p : PortNum) (k : ClassNum) (s : State) : Leads L s (execPauseRefreshDue p k s) :=
  unlessHeld_leads (ite_leads (fun _ => updPort_moves_of_same) fun _ => leads_self)

theorem execCampusPauseEnd_leads (p : PortNum) (q : Prio) (s : State) : Leads L s (execCampusPauseEnd p q s) :=
  unlessHeld_leads (ite_leads (fun _ => updPort_moves_of_same) fun _ => leads_self)

theorem execRackPauseEnd_leads (p : PortNum) (q : Prio) (s : State) : Leads L s (execRackPauseEnd p q s) :=
  unlessHeld_leads (ite_leads (fun _ => updPort_moves_of_same) fun _ => leads_self)

/-! ## Link reports and frames received (R8 to R17, R115, R119) -/

theorem execLinkGood_leads (p : PortNum) (s : State) : Leads L s (execLinkGood p s) :=
  ite_leads (fun _ => setPins_moves _ s) fun _ =>
    ite_leads (fun _ => (setPins_moves _ s).trans updPort_moves_of_same) fun _ => trivial

theorem execLinkSettled_leads (p : PortNum) (s : State) : Leads L s (execLinkSettled p s) :=
  unlessHeld_leads (ite_leads (fun _ => linkUp_moves p s) fun _ => leads_self)

theorem execLinkLost_leads (p : PortNum) (s : State) : Leads L s (execLinkLost p s) :=
  ite_leads (fun _ => setPins_moves _ s) fun _ => ite_leads (fun _ => trivial) fun _ =>
    (setPins_moves _ s).trans (loseLink_moves p _)

theorem execRackLinkLost_leads (p : PortNum) (s : State) : Leads L s (execRackLinkLost p s) := by
  refine ite_leads (fun _ => setPins_moves _ s) fun _ => ite_leads (fun _ => trivial) fun _ => ?_
  dsimp only
  split
  · exact (setPins_moves _ s).trans updPort_moves_of_same
  · exact (setPins_moves _ s).trans updPort_moves_of_same
  · exact setPins_moves _ s

theorem execRackLinkGood_leads (p : PortNum) (s : State) : Leads L s (execRackLinkGood p s) :=
  ite_leads (fun _ => setPins_moves _ s) fun _ => ite_leads (fun _ => trivial) fun _ => setPins_moves _ s

theorem execRsideFrameReceived_leads (p : PortNum) (f : Bytes) (s : State) : Leads L s (execRsideFrameReceived p f s) :=
  unlessHeld_leads (ite_leads (fun _ => receiveRack_moves p f s) fun _ => leads_self)

theorem execCsideFrameReceived_leads (p : PortNum) (f : Bytes) (s : State) : Leads L s (execCsideFrameReceived p f s) :=
  unlessHeld_leads (ite_leads (fun _ => leads_self) fun _ => ite_leads (fun _ => bumpPort_moves ..) fun hmode =>
    receiveCampus_moves p f (tested_of_protect (p := p) (by cases h : (s.port p).mode <;> tauto)))

/-! ## Completions of the lanes (R73, R82, R87, R94) -/

theorem execTransformComplete_leads (l : LaneNum) (s : State) : Leads L s (execTransformComplete l s) := by
  refine unlessHeld_leads ?_
  split
  · next p copy clp hlane =>
    split
    · refine Moves.arbitrated (Moves.trans ?_ (tidySequence_moves p _)) (tested_of_busy hlane)
      split
      · exact (Move.spoils l p copy clp _ hlane).moves
      · exact (Move.hands l p copy clp _ hlane).moves
    · exact trivial
  · exact trivial

theorem SlotMove.expanded {x : Slot} (h : x.state = .loaded) (key : Bytes) (code : Nat) :
    SlotMove s₀ x { x with expandedKey := key, integrityCode := code, state := .ready } :=
  ⟨fun _ hok => by simpa [Slot.Ok, h] using hok, fun _ _ => .inl (.inr (.inl h)), .inl rfl, fun h => by simp at h⟩

theorem execExpandComplete_leads (l : LaneNum) (s : State) : Leads L s (execExpandComplete l s) := by
  refine unlessHeld_leads ?_
  split
  · next k key live hlane =>
    have hfree : Moves L s s (freeLane l s) := freeLane_moves (by rw [hlane]; rfl)
    refine ite_leads (fun hlive => ?_) fun _ => hfree.arbitrated (tested_of_busy hlane)
    obtain ⟨-, hloaded⟩ := hlive
    have hexpanded : Moves L s s (completeExpansion k key (freeLane l s)) :=
      hfree.trans ((Move.slot k _ (SlotMove.expanded hloaded _ _)).moves.trans (raiseEvent_moves ..))
    refine Moves.arbitrated (hexpanded.trans ?_) (tested_of_busy hlane)
    split
    · exact beginIfPending_moves _ fun hs => completeExpansion_coherent key ((setLane_quiet ..).coherent hs) hloaded
    · exact .refl s _
  · exact trivial

theorem execVerifyComplete_leads (l : LaneNum) (s : State) : Leads L s (execVerifyComplete l s) := by
  refine unlessHeld_leads ?_
  split
  · next r copy withdrawn hlane =>
    refine Moves.arbitrated ((freeLane_moves (by rw [hlane]; rfl)).trans ?_) (tested_of_busy hlane)
    exact applyVerdict_moves _ _ _ fun hs => (setLane_quiet ..).coherent hs
  · exact trivial

/-! ## The schedulers and the transmitters (R15, R51 to R56, R113 to R121, R141) -/

theorem schedulerRuns_iff : s.schedulerRuns p = true ↔ (s.port p).mode = .protect ∧ (s.port p).link = .up
    ∧ s.inhibit = .released ∧ (s.port p).sequence.length < Config.sequenceCapacity := by
  cases h : s.inhibit <;> simp [State.schedulerRuns, State.inhibited, h, and_assoc]

/-- A frame steered to PROTECT is numbered, or leaves with the counters of its check (R52). -/
theorem dequeueProtected_moves (a : Anum) (frame : Bytes) (hs : Coherent s₀ → Coherent s) (htested : Tested s₀ s)
    (hroom : (s.port p).sequence.length < Config.sequenceCapacity) (h : dequeueProtected p a frame s = .ok t) :
    Moves L s₀ s t := by
  have hmisdirected : Moves L s₀ s (bumpPort p .misdirectedDrops 1 s) := bumpPort_moves ..
  have hdrop (c : AssocCounter) : Moves L s₀ s (bumpAssoc a c 1 (bumpPort p .assocStateDrops 1 s)) :=
    (bumpPort_moves ..).trans (bumpAssoc_moves ..)
  have hchoice {x y : State} (hx : Moves L s₀ s x) (hy : (s.assoc a).port = p → Moves L s₀ s y)
      (hxy : (if (s.assoc a).port ≠ p then .ok x else .ok y : Except Fault State) = .ok t) : Moves L s₀ s t := by
    split at hxy <;> cases hxy
    · exact hx
    · next hport => exact hy (by simpa using hport)
  by_cases hstate : (s.assoc a).state = .running ∨ (s.assoc a).state = .switching
  · cases hk : (s.assoc a).current with
    | none =>
      rcases hstate with hstate | hstate <;> simp only [dequeueProtected, hstate, hk] at h <;> split at h <;> cases h <;>
        exact hmisdirected
    | some k =>
      rw [dequeueProtected_served hstate hk] at h
      exact hchoice hmisdirected (fun hport =>
        ((numberFrame_moves frame hs hstate hk hport hroom).trans (tidySequence_moves ..)).arbitrated htested) h
  · unfold dequeueProtected at h
    dsimp only at h
    split at h
    · cases h
      exact bumpPort_moves ..
    · exact hchoice hmisdirected (fun _ => hdrop .stateDrops) h
    · exact hchoice hmisdirected (fun _ => hdrop .stateDrops) h
    · exact hchoice hmisdirected (fun _ => hdrop .stateDrops) h
    · exact hchoice hmisdirected (fun _ => hdrop .exhaustDrops) h
    · next hrunning => exact absurd (.inl hrunning) hstate
    · next hswitching => exact absurd (.inr hswitching) hstate

theorem sequence_takeHead (p : PortNum) (k : ClassNum) (s : State) :
    ((takeHead p k s).port p).sequence = (s.port p).sequence := by
  unfold takeHead
  rw [evalHolding_updQueue, State.port_updPort_self]
  rfl

theorem execDequeueDecision_leads (p : PortNum) (s : State) : Leads L s (execDequeueDecision p s) := by
  refine unlessHeld_leads (ite_leads (fun _ => leads_self) fun hruns => ?_)
  obtain ⟨hmode, -, -, hroom⟩ := schedulerRuns_iff.mp (by simpa using (not_or.mp hruns).1)
  split
  · exact leads_self
  · next k _ =>
    split
    · exact leads_self
    · have htaken : Moves L s s (takeHead p k s) := takeHead_moves ..
      have hroom' : ((takeHead p k s).port p).sequence.length < Config.sequenceCapacity := by rwa [sequence_takeHead]
      have htested := tested_of_protect hmode
      dsimp only
      split
      · exact ((htaken.trans (Move.passes p _ hroom').moves).trans (tidySequence_moves ..)).arbitrated htested
      · next a _ =>
        cases h : dequeueProtected p a _ (takeHead p k s) with
        | error f => exact trivial
        | ok t =>
          exact htaken.trans (dequeueProtected_moves a _ (fun hs => (takeHead_quiet ..).coherent hs)
            (htaken.tested htested) hroom' h)

/-- A notice that takes the stop mark exhausts its association before it joins the sequence, and might as well after (R56). -/
theorem placeNotice_eq (p : PortNum) (a : Anum) (t : Attempt) (j k : SlotNum) (s : State) :
    let x := s.assoc a
    let head := noticeHead (s.port p).settings a (s.slot j).epoch x.nextPn (s.slot k).epoch t.number (s.slot k).checkValue
      x.label
    let u := recordAgainst j (joinSequence p (.notice a j x.nextPn) head ((dropNotice p s).updAssoc a (issued t)))
    placeNotice p a t j k s
      = bumpAssoc a .attemptsSent 1 (if x.state = .switching ∧ x.nextPn = x.stopMark then exhaust a u else u) := by
  dsimp only
  rw [← exhaust_recordAgainst]
  unfold placeNotice
  dsimp only
  split <;> rfl

theorem placeNotice_moves {t : Attempt} {j : SlotNum} {rest : List Anum} (k : SlotNum) (hs : Coherent s₀ → Coherent s)
    (hqueue : (s.port p).controlQueue = a :: rest) (htop : (s.assoc a).nextPn ≤ Config.pnMax)
    (hcurrent : (s.assoc a).current = some j) (hroom : (s.port p).sequence.length < Config.sequenceCapacity) :
    Moves L s₀ s (placeNotice p a t j k s) := by
  have hdropped : Moves L s₀ s (dropNotice p s) := updPort_moves_of_same
  have htakes : TakesNumber s₀ (dropNotice p s) p a j (.notice a j (s.assoc a).nextPn) (issued t ((dropNotice p s).assoc a)) :=
    { counters := rfl
      current := hcurrent
      port := fun h₀ => (waitsOn_of_head (hs h₀) hqueue).1
      body := fun _ _ _ _ => ⟨rfl, rfl⟩
      room := by simpa [dropNotice] using hroom
      keeps := ⟨hcurrent, rfl, rfl, rfl, rfl, rfl⟩
      alone := fun h₀ => current_unique (s := s) (hs h₀) hcurrent
      active := fun h₀ => active_of_current (s := s) (hs h₀) hcurrent
      range := fun h₀ => by
        obtain ⟨_, _, _, _, _, hlow, _⟩ := ok_of_coherent (hs h₀) a
        exact ⟨hlow, htop⟩ }
  have hexhausts (u : State) : Moves L s₀ u (bumpAssoc a .attemptsSent 1
      (if (s.assoc a).state = .switching ∧ (s.assoc a).nextPn = (s.assoc a).stopMark then exhaust a u else u)) := by
    split
    · exact (exhaust_moves a u).trans (bumpAssoc_moves ..)
    · exact bumpAssoc_moves ..
  rw [placeNotice_eq]
  exact (hdropped.trans (Move.numbers p a j _ _ (issued t) htakes).moves).trans (hexhausts _)

theorem execNoticePlacement_leads (p : PortNum) (s : State) : Leads L s (execNoticePlacement p s) := by
  refine unlessHeld_leads (ite_leads (fun _ => leads_self) fun hruns => ?_)
  obtain ⟨hmode, -, -, hroom⟩ := schedulerRuns_iff.mp (by simpa using hruns)
  split
  · exact leads_self
  · next a _ hqueue =>
    refine ite_leads (fun _ => Moves.trans updPort_moves_of_same (giveUp_moves ..)) fun htop => ?_
    split
    · next t j k _ hcurrent _ =>
      exact ((placeNotice_moves k id hqueue (Nat.le_of_not_lt htop) hcurrent hroom).trans (tidySequence_moves ..)).arbitrated
        (tested_of_protect hmode)
    · exact trivial
    · exact trivial

theorem execCsideTxStart_leads (p : PortNum) (s : State) : Leads L s (execCsideTxStart p s) := by
  refine unlessHeld_leads ?_
  split
  · next e _ hsequence _ =>
    refine ite_leads (fun hsend => ?_) fun _ => leads_self
    obtain ⟨hdone, -⟩ := hsend
    refine Moves.trans updPort_moves_of_same ((dropHead_moves fun e he => ?_).trans (tidySequence_moves ..))
    simp only [State.port_updPort_self, hsequence, List.head?_cons, Option.mem_def, Option.some.injEq] at he
    exact he ▸ hdone
  · exact leads_self

theorem execCsideTxComplete_leads (p : PortNum) (s : State) : Leads L s (execCsideTxComplete p s) := by
  refine unlessHeld_leads ?_
  split
  · exact Moves.trans updPort_moves_of_same (countCampusTx_moves ..)
  · exact trivial

theorem sum_cells_tail_le (l : List Bytes) : ((l.drop 1).map cellsOf).sum ≤ (l.map cellsOf).sum := by
  cases l <;> simp

theorem execRsideTxStart_leads (p : PortNum) (s : State) : Leads L s (execRsideTxStart p s) := by
  refine unlessHeld_leads (ite_leads (fun _ => leads_self) fun _ => ite_leads (fun _ => updPort_moves_of_same) fun _ => ?_)
  split
  · refine updPort_moves ⟨rfl, id, fun h => ?_, .inl⟩
    obtain ⟨hlength, hlanes, hcount, hplaces, hcells, hocc, hempty⟩ := h
    refine ⟨hlength, hlanes, hcount, hplaces, le_trans ?_ hcells, hocc, hempty⟩
    exact sum_cells_tail_le _
  · exact leads_self

theorem execRsideTxComplete_leads (p : PortNum) (s : State) : Leads L s (execRsideTxComplete p s) := by
  refine unlessHeld_leads ?_
  dsimp only
  split
  · exact Moves.trans updPort_moves_of_same (bumpPort_moves ..)
  · exact Moves.trans updPort_moves_of_same (bumpPort_moves ..)
  · exact trivial

/-- The end of a reply that is not the OK reply to RESET (R166). -/
theorem execReplySent_leads (s : State) (h : ∀ r, s.replyOwed = some r → r.isReset = false) : Leads True s (execReplySent s) := by
  refine unlessHeld_leads ?_
  split
  · exact trivial
  · next r hr =>
    rw [h r hr]
    exact line_moves ⟨_, _, _, _, _, _, _, _, _, _, _, _, _, _, _, _, rfl⟩
  · exact line_moves ⟨_, _, _, _, _, _, _, _, _, _, _, _, _, _, _, _, rfl⟩

/-! ## Every command and every step -/

/-- A command ends a reset in this state: a power-on, the release of RESET_N, or the end of the OK reply to RESET (R183). -/
def EndsReset (i : Instr) (s : State) : Prop :=
  (∃ pins, i = .powerOn pins) ∨ (∃ rate clear, i = .pinResetRelease rate clear)
    ∨ i = .replySent ∧ ∃ r, s.replyOwed = some r ∧ r.isReset = true

/-- A command of the management line: a byte, a record, a request or the end of a reply; or the assertion of RESET_N, which cuts
the reply off (R166, R183). -/
def OnLine : Instr → Bool
  | .pinResetAssert | .mgmtByteReceived _ _ | .recordComplete _ | .replySent => true
  | i => isRequest i

/-- A command that does not concern the management line leaves what is owed on it. -/
theorem exec_leads_offLine (i : Instr) (s : State) (h : ¬EndsReset i s) (hoff : OnLine i = false) : Leads L s (exec i s) := by
  obtain ⟨hpower, hrelease, -⟩ : _ ∧ _ ∧ _ := by simpa only [EndsReset, not_or] using h
  cases i
  case powerOn pins => exact absurd ⟨pins, rfl⟩ hpower
  case pinResetRelease rate clear => exact absurd ⟨rate, clear, rfl⟩ hrelease
  case selftestComplete => exact execSelftestComplete_leads ..
  case inhibitAssert => exact execInhibitAssert_leads s
  case inhibitRelease => exact execInhibitRelease_leads s
  case finePulse => exact execFinePulse_leads ..
  case coarsePulse => exact execCoarsePulse_leads ..
  case lifetimeExpiry => exact execLifetimeExpiry_leads ..
  case linkGood => exact execLinkGood_leads ..
  case linkSettled => exact execLinkSettled_leads ..
  case linkLost => exact execLinkLost_leads ..
  case rackLinkLost => exact execRackLinkLost_leads ..
  case rackLinkGood => exact execRackLinkGood_leads ..
  case rsideFrameReceived => exact execRsideFrameReceived_leads ..
  case csideFrameReceived => exact execCsideFrameReceived_leads ..
  case transformComplete => exact execTransformComplete_leads ..
  case expandComplete => exact execExpandComplete_leads ..
  case verifyComplete => exact execVerifyComplete_leads ..
  case attemptTimeout => exact execAttemptTimeout_leads ..
  case dequeueDecision => exact execDequeueDecision_leads ..
  case noticePlacement => exact execNoticePlacement_leads ..
  case csideTxStart => exact execCsideTxStart_leads ..
  case csideTxComplete => exact execCsideTxComplete_leads ..
  case rsideTxStart => exact execRsideTxStart_leads ..
  case rsideTxComplete => exact execRsideTxComplete_leads ..
  case quantumTick => exact execQuantumTick_leads ..
  case pauseRefreshDue => exact execPauseRefreshDue_leads ..
  case campusPauseEnd => exact execCampusPauseEnd_leads ..
  case rackPauseEnd => exact execRackPauseEnd_leads ..
  case gapExpiry => exact execGapExpiry_leads ..
  all_goals cases hoff

theorem exec_leads (i : Instr) (s : State) (h : ¬EndsReset i s) : Leads True s (exec i s) := by
  cases hline : OnLine i with
  | false => exact exec_leads_offLine i s h hline
  | true =>
    cases hrequest : requestRecord i with
    | some record => exact requestArrives_leads hrequest s
    | none =>
      cases i <;> cases hline <;> cases hrequest
      · exact execPinResetAssert_leads s
      · exact unlessHeld_leads (receiveByte_moves ..)
      · exact unlessHeld_leads (completeRecord_moves ..)
      · refine execReplySent_leads s fun r hr => ?_
        by_contra hreset
        exact h (.inr (.inr ⟨rfl, r, hr, by simpa using hreset⟩))

/-- What a command that ends a reset leaves (R183). -/
theorem next_of_endsReset {i : Instr} (h : EndsReset i s) (ht : exec i s = .next t) :
    (∃ pins straps, t = hardReset pins straps s) ∨ t = softReset s ∨ t = s := by
  obtain ⟨pins, rfl⟩ | ⟨rate, clear, rfl⟩ | ⟨rfl, r, hr, hreset⟩ := h
  · cases ht
    exact .inl ⟨_, _, rfl⟩
  · simp only [exec, execPinResetRelease] at ht
    split at ht <;> cases ht
    exact .inl ⟨_, _, rfl⟩
  · simp only [exec, execReplySent, unlessHeld, hr, hreset, if_true] at ht
    split at ht <;> cases ht
    · exact .inr (.inr rfl)
    · exact .inr (.inl rfl)

/-- What every chain keeps and every reset gives, every command keeps. -/
theorem exec_induction {P Q : State → Prop} (hmoves : ∀ s t, Q s → Moves True s s t → P t)
    (hhard : ∀ pins straps s, P (hardReset pins straps s)) (hsoft : ∀ s, Q s → P (softReset s)) {i : Instr} (hs : Q s)
    (h : exec i s = .next t) : P t := by
  by_cases hends : EndsReset i s
  · obtain ⟨pins, straps, ht⟩ | ht | ht := next_of_endsReset hends h <;> rw [ht]
    · exact hhard pins straps s
    · exact hsoft s hs
    · exact hmoves s s hs (.refl s s)
  · have hleads := exec_leads i s hends
    rw [h] at hleads
    exact hmoves s t hs hleads

/-- What every chain keeps and every reset gives, every step keeps. -/
theorem step_induction {P Q : State → Prop} (hpending : ∀ s rest, Q s → Q { s with pending := rest })
    (hmoves : ∀ s t, Q s → Moves True s s t → P t) (hhard : ∀ pins straps s, P (hardReset pins straps s))
    (hsoft : ∀ s, Q s → P (softReset s)) (hs : Q s) (h : step s = .next t) : P t := by
  unfold step at h
  split at h
  · cases h
    exact hmoves s _ hs (clockTick_moves id)
  · next rest _ => exact exec_induction hmoves hhard hsoft (hpending s rest hs) h

end Sys2Proof.Proofs
end

section
/-! SUPPORT. Entries that leave a transform sequence: what becomes of their port, of the slots they count against (R76, R78) and
of the lanes. -/

/-! One theorem is checked after another, as in the tests, which bounds the threads that the whole text takes. -/

set_option Elab.async false

namespace Sys2Proof.Proofs

open Sys2Proof Sys2Proof.Machine

variable {s t : State} {k : SlotNum} {p q : PortNum}

/-! ## One entry -/

theorem slot_releaseSlot (k j : SlotNum) (s : State) :
    (releaseSlot k s).slot j = if k = j then (s.slot j).released else s.slot j := by
  obtain ⟨hdraining, hcount, h⟩ | ⟨hstays, h⟩ := releaseSlot_cases k s <;> rw [h]
  · split
    · next hkj => rw [← hkj, slot_retireSlot_self, Slot.released, if_pos ⟨hdraining, by omega⟩]
    · next hkj => rw [slot_retireSlot_ne s hkj]
  · rw [State.slot_updSlot]
    split
    · next hkj =>
      subst hkj
      rw [Slot.released, if_neg fun hleft => hstays ⟨hleft.1, by omega⟩]
    · rfl

theorem slot_releaseEntry (e : Entry) (k : SlotNum) (s : State) :
    (releaseEntry e s).slot k = if e.slot? = some k then (s.slot k).released else s.slot k := by
  unfold releaseEntry
  split
  · next j hj => rw [slot_releaseSlot, hj]; simp
  · next hnone => simp [hnone]

theorem port_of_slotFrame (h : SlotFrame s t) (q : PortNum) : t.port q = s.port q := by
  obtain ⟨_, _, _, _, _, rfl⟩ := h
  rfl

@[simp] theorem port_releaseEntry (e : Entry) (q : PortNum) (s : State) : (releaseEntry e s).port q = s.port q :=
  port_of_slotFrame (releaseEntry_slotFrame e s) q

/-! ## Counters after a number of drops -/

theorem drops_zero (n : Nat) : drops n 0 = n := rfl

theorem addCount_drops (c n : Nat) : addCount (drops c n) 1 = drops c (n + 1) := by
  unfold addCount drops
  split <;> simp <;> omega

theorem drops_drops (c m n : Nat) : drops (drops c m) n = drops c (m + n) := by
  unfold drops
  split_ifs <;> omega

/-- A port with a number of drops counted. -/
def Port.withDrops (c : PortCounter) (n : Nat) (x : Port) : Port :=
  { x with counters := updRow x.counters c.index (drops · n) }

theorem updRow_self {α : Type} {n : Nat} (v : Vector α n) (i : Fin n) {f : α → α} (h : f (row v i) = row v i) :
    updRow v i f = v := by
  unfold updRow
  rw [h, setRow_row]

theorem withDrops_zero (c : PortCounter) (x : Port) : Port.withDrops c 0 x = x := by
  unfold Port.withDrops
  rw [updRow_self _ _ (drops_zero _)]

theorem withDrops_withDrops (c : PortCounter) (m n : Nat) (x : Port) :
    Port.withDrops c n (Port.withDrops c m x) = Port.withDrops c (m + n) x := by
  unfold Port.withDrops
  simp only [updRow_updRow]
  rw [show (fun v => drops v n) ∘ (fun v => drops v m) = fun v => drops v (m + n) from funext fun v => drops_drops v m n]

theorem addCount_one (c : Nat) : addCount c 1 = drops c 1 := rfl

theorem bumpPort_one (p : PortNum) (c : PortCounter) (s : State) : bumpPort p c 1 s = s.updPort p (Port.withDrops c 1) := rfl

theorem row_withDrops (c d : PortCounter) (n : Nat) (x : Port) : row (Port.withDrops c n x).counters d.index
    = if c.index = d.index then drops (row x.counters d.index) n else row x.counters d.index := by
  refine (row_updRow ..).trans ?_
  split
  · next h => rw [h]
  · rfl

/-! ## The entries that a test removes -/

/-- The entries of a list leave one after another, each counted once. -/
def countOut (p : PortNum) (c : PortCounter) (es : List Entry) (s : State) : State :=
  es.foldl (fun s e => releaseEntry e (bumpPort p c 1 s)) s

theorem removeEntries_eq (p : PortNum) (test : Entry → Bool) (c : PortCounter) (s : State) : removeEntries p test c s
    = countOut p c ((s.port p).sequence.filter test)
        (s.updPort p fun x => { x with sequence := x.sequence.filter fun e => !test e }) := rfl

/-- A slot after a number of entries recorded against it have left (R76, R78). -/
def Slot.releasedTimes (n : Nat) (x : Slot) : Slot := Slot.released^[n] x

@[simp] theorem releasedTimes_zero (x : Slot) : Slot.releasedTimes 0 x = x := rfl

theorem releasedTimes_succ (n : Nat) (x : Slot) : Slot.releasedTimes (n + 1) x = Slot.releasedTimes n x.released := rfl

theorem releasedTimes_add (m n : Nat) (x : Slot) :
    Slot.releasedTimes (m + n) x = Slot.releasedTimes n (Slot.releasedTimes m x) := by
  rw [Slot.releasedTimes, Nat.add_comm, Function.iterate_add_apply]
  rfl

/-- How many entries of a list are recorded against a slot. -/
def against (k : SlotNum) (es : List Entry) : Nat := es.countP fun e => e.slot? == some k

theorem against_cons (k : SlotNum) (e : Entry) (es : List Entry) :
    against k (e :: es) = against k es + if e.slot? = some k then 1 else 0 := by simp [against, List.countP_cons]

theorem slot_countOut (p : PortNum) (c : PortCounter) (k : SlotNum) : ∀ (es : List Entry) (s : State),
    (countOut p c es s).slot k = Slot.releasedTimes (against k es) (s.slot k)
  | [], _ => rfl
  | e :: es, s => by
    have hrest := slot_countOut p c k es (releaseEntry e (bumpPort p c 1 s))
    rw [against_cons]
    refine hrest.trans ?_
    rw [slot_releaseEntry, State.slot_bumpPort]
    split
    · rw [releasedTimes_succ]
    · rfl

theorem port_countOut (p q : PortNum) (c : PortCounter) : ∀ (es : List Entry) (s : State),
    (countOut p c es s).port q = if p = q then Port.withDrops c es.length (s.port q) else s.port q
  | [], s => by
    rw [List.length_nil, withDrops_zero, ite_self]
    rfl
  | e :: es, s => by
    refine (port_countOut p q c es (releaseEntry e (bumpPort p c 1 s))).trans ?_
    rw [port_releaseEntry, bumpPort_one, State.port_updPort]
    split
    · next h => rw [h, withDrops_withDrops, List.length_cons, Nat.add_comm]
    · rfl

theorem port_removeEntries (p q : PortNum) (test : Entry → Bool) (c : PortCounter) (s : State) :
    (removeEntries p test c s).port q = if p = q then
      Port.withDrops c ((s.port q).sequence.countP test)
        { s.port q with sequence := (s.port q).sequence.filter fun e => !test e } else s.port q := by
  rw [removeEntries_eq, port_countOut, State.port_updPort]
  split
  · next h => rw [h, List.countP_eq_length_filter]
  · rfl

theorem slot_removeEntries (p : PortNum) (test : Entry → Bool) (c : PortCounter) (k : SlotNum) (s : State) :
    (removeEntries p test c s).slot k
      = Slot.releasedTimes (against k ((s.port p).sequence.filter test)) (s.slot k) := by
  rw [removeEntries_eq, slot_countOut, State.slot_updPort]

theorem port_dropHead (p q : PortNum) (s : State) :
    (dropHead p s).port q = if p = q then { s.port q with sequence := (s.port q).sequence.tail } else s.port q := by
  unfold dropHead
  split
  · next h =>
    split
    · next hpq => rw [← hpq, h, List.tail_nil, ← h]
    · rfl
  · next e es h =>
    rw [port_releaseEntry, State.port_updPort]
    split
    · next hpq => rw [← hpq, h, List.tail_cons]
    · rfl

theorem slot_dropHead (p : PortNum) (k : SlotNum) (s : State) : (dropHead p s).slot k
    = Slot.releasedTimes (against k ((s.port p).sequence.take 1)) (s.slot k) := by
  unfold dropHead
  split
  · next h => rw [h]; rfl
  · next e es h =>
    rw [slot_releaseEntry, State.slot_updPort, h, List.take_succ_cons, List.take_zero, against_cons]
    split <;> rfl

/-! ## Lanes -/

theorem laneShape_releaseEntry (e : Entry) (l : LaneNum) (s : State) :
    laneShape ((releaseEntry e s).lane l) = laneShape (s.lane l) := by
  unfold releaseEntry
  split
  · next k _ =>
    obtain ⟨_, _, h⟩ | ⟨_, h⟩ := releaseSlot_cases k s <;> rw [h]
    · rw [retireSlot, State.lane_raiseEvent]
      show laneShape (row (mapRows s.lanes _) l) = _
      rw [row_mapRows]
      exact laneShape_dropped k _
    · rfl
  · rfl

theorem laneShape_countOut (p : PortNum) (c : PortCounter) (es : List Entry) (l : LaneNum) (s : State) :
    laneShape ((countOut p c es s).lane l) = laneShape (s.lane l) :=
  foldl_same (fun s : State => laneShape (s.lane l)) (fun s e => releaseEntry e (bumpPort p c 1 s))
    (fun _ e => laneShape_releaseEntry e l _) es s

theorem laneShape_removeEntries (p : PortNum) (test : Entry → Bool) (c : PortCounter) (l : LaneNum) (s : State) :
    laneShape ((removeEntries p test c s).lane l) = laneShape (s.lane l) := laneShape_countOut ..

theorem laneShape_dropHead (p : PortNum) (l : LaneNum) (s : State) :
    laneShape ((dropHead p s).lane l) = laneShape (s.lane l) := by
  unfold dropHead
  split
  · rfl
  · exact laneShape_releaseEntry ..

/-! ## Events -/

/-- The event list after an entry has left is the list with, at most, one KEY_RETIRED raised (R78). -/
theorem events_releaseEntry (e : Entry) (s : State) :
    (releaseEntry e s).events = s.events
      ∨ ∃ k u, u.events = s.events ∧ (releaseEntry e s).events = (raiseEvent .keyRetired (.slot k) 0 u).events := by
  unfold releaseEntry
  split
  · next k _ =>
    obtain ⟨_, _, h⟩ | ⟨_, h⟩ := releaseSlot_cases k s <;> rw [h]
    · exact .inr ⟨k, emptySlot k s, rfl, rfl⟩
    · exact .inl rfl
  · exact .inl rfl

end Sys2Proof.Proofs
end

section
/-! SUPPORT. The bounds of lists and counts, the zeroised slots and the capacities of the ports, which every elementary change
keeps (O54, O57, O58). -/

/-! One theorem is checked after another, as in the tests, which bounds the threads that the whole text takes. -/

set_option Elab.async false

namespace Sys2Proof.Proofs

open Sys2Proof Sys2Proof.Machine

variable {L : Prop} {s₀ s t : State} {k : SlotNum} {p q : PortNum}

/-! ## The states from which a reset ends -/

/-- The part after a power-on or pin reset, before its links settle and its inhibit state is taken (R183). -/
def hardBase (pins : Pins) (straps : Straps) (s : State) : State :=
  { State.reset with pending := s.pending, openSelfTests := s.openSelfTests, pins := pins, straps := straps }

/-- The part after a soft reset, before its links settle and its inhibit state is taken (R183). -/
def softBase (s : State) : State :=
  { State.reset with
    pending := s.pending, openSelfTests := s.openSelfTests, pins := s.pins, straps := s.straps, partState := s.partState
    clockCount := s.clockCount, fineCount := s.fineCount, hwFaults := s.hwFaults
    steering := mapRows s.steering SteerEntry.softReset, lanes := mapRows s.lanes Lane.softReset }

theorem hardReset_eq (pins : Pins) (straps : Straps) (s : State) : hardReset pins straps s = endReset (hardBase pins straps s) :=
  rfl

theorem softReset_eq (s : State) : softReset s = endReset (softBase s) := rfl

theorem endReset_moves (s : State) : Moves L s₀ s (endReset s) := by
  have hsettled : Moves L s₀ s (allPorts.foldl settleIfGood s) := by
    refine foldl_moves (fun s p => ?_) _ _
    unfold settleIfGood
    split
    · exact updPort_moves_of_same
    · exact .refl s₀ s
  have hinhibit (x : InhibitState) (u : State) : Moves L s₀ u { u with inhibit := x } :=
    free_moves ⟨_, _, _, _, _, _, _, _, _, _, _, _, _, _, _, _, rfl⟩
  unfold endReset
  dsimp only
  split
  · exact hsettled.trans ((hinhibit .asserted _).trans (raiseEvent_moves ..))
  · exact hsettled.trans (hinhibit .released _)

/-- What every chain keeps, and the states from which resets end have, every step keeps. -/
theorem step_keeps_of_moves {P Q : State → Prop} (hpending : ∀ s rest, Q s → Q { s with pending := rest })
    (hmoves : ∀ s t, Q s → Moves True s s t → P t) (hhard : ∀ pins straps s, Q (hardBase pins straps s))
    (hsoft : ∀ s, Q s → Q (softBase s)) (hs : Q s) (h : step s = .next t) : P t :=
  step_induction hpending hmoves (fun pins straps s => hmoves _ _ (hhard pins straps s) (endReset_moves _))
    (fun s hs => hmoves _ _ (hsoft s hs) (endReset_moves _)) hs h

theorem hardBase_coherent (pins : Pins) (straps : Straps) (s : State) : Coherent (hardBase pins straps s) :=
  coherent_of_reset rfl rfl rfl

theorem softBase_coherent (s : State) : Coherent (softBase s) := coherent_of_reset rfl rfl rfl

/-! ## The event list (R174, R175) -/

theorem eventsOk_of_events (h : t.events = s.events) (hs : EventsOk s) : EventsOk t := by
  unfold EventsOk at *
  rwa [h]

theorem merged_name (kind : EventKind) (source : EventSource) (e : Event) :
    ((e.merged kind source).kind, (e.merged kind source).source) = (e.kind, e.source) := by
  unfold Event.merged
  split <;> rfl

theorem merged_count (kind : EventKind) (source : EventSource) {e : Event} (h : 1 ≤ e.count ∧ e.count ≤ 255) :
    1 ≤ (e.merged kind source).count ∧ (e.merged kind source).count ≤ 255 := by
  unfold Event.merged
  split
  · dsimp only
    omega
  · exact h

theorem eventsOk_raiseEvent (kind : EventKind) (source : EventSource) (detail : BitVec 16) (hs : EventsOk s) :
    EventsOk (raiseEvent kind source detail s) := by
  obtain ⟨hlength, hnodup, hcounts⟩ := id hs
  obtain ⟨-, h⟩ | ⟨-, -, h⟩ | ⟨-, hnew, hroom, h⟩ | ⟨-, -, -, h⟩ := raiseEvent_cases kind source detail s <;> rw [h]
  · exact hs
  · refine ⟨by simpa using hlength, ?_, fun e he => ?_⟩
    · rw [List.map_map]
      exact (List.map_congr_left fun e _ => merged_name kind source e) ▸ hnodup
    · obtain ⟨x, hx, rfl⟩ := List.mem_map.mp he
      exact merged_count kind source (hcounts x hx)
  · refine ⟨?_, ?_, fun e he => ?_⟩
    · simpa [Config.eventCapacity] using hroom
    · rw [List.map_append, List.nodup_append]
      refine ⟨hnodup, by simp, fun x hx y hy => ?_⟩
      obtain ⟨e, he, rfl⟩ := List.mem_map.mp hx
      simp only [List.map_cons, List.map_nil, List.mem_singleton] at hy
      subst hy
      intro hsame
      exact hnew e he (by simpa using hsame)
    · rcases List.mem_append.mp he with he | he
      · exact hcounts e he
      · simp only [List.mem_singleton] at he
        subst he
        simp
  · exact hs

theorem eventsOk_releaseEntry (e : Entry) (hs : EventsOk s) : EventsOk (releaseEntry e s) := by
  obtain h | ⟨k, u, hu, h⟩ := events_releaseEntry e s
  · exact eventsOk_of_events h hs
  · exact eventsOk_of_events h (eventsOk_raiseEvent _ _ _ (eventsOk_of_events hu hs))

theorem eventsOk_removeEntries (p : PortNum) (test : Entry → Bool) (c : PortCounter) (hs : EventsOk s) :
    EventsOk (removeEntries p test c s) :=
  foldl_keeps EventsOk (fun s e => releaseEntry e (bumpPort p c 1 s))
    (fun _ e hu => eventsOk_releaseEntry e (eventsOk_of_events rfl hu)) _ _ (eventsOk_of_events rfl hs)

theorem eventsOk_dropHead (p : PortNum) (hs : EventsOk s) : EventsOk (dropHead p s) := by
  unfold dropHead
  split
  · exact hs
  · exact eventsOk_releaseEntry _ (eventsOk_of_events rfl hs)

theorem Move.eventsOk (h : Move L s₀ s t) (hs : EventsOk s) : EventsOk t := by
  cases h with
  | free hfree =>
    obtain ⟨_, _, _, _, _, _, _, _, _, _, _, _, _, _, _, _, rfl⟩ := hfree
    exact hs
  | event kind source detail => exact eventsOk_raiseEvent kind source detail hs
  | fetched n =>
    obtain ⟨hlength, hnodup, hcounts⟩ := hs
    refine ⟨by simp; omega, ?_, fun e he => hcounts e (List.mem_of_mem_drop he)⟩
    rw [List.map_drop]
    exact hnodup.sublist (List.drop_sublist ..)
  | removes p test c => exact eventsOk_removeEntries p test c hs
  | drops p => exact eventsOk_dropHead p hs
  | spoils l p copy clp c => exact eventsOk_removeEntries p _ c (eventsOk_of_events rfl hs)
  | _ => exact hs

/-! ## Management faults, the divider's counts, transport key and steering entries -/

/-- What a change of the ports, the slots, the lanes or the events leaves as it was. -/
theorem portFrame_rest (h : PortFrame s t) : t.faultList = s.faultList ∧ t.clockCount = s.clockCount
    ∧ t.fineCount = s.fineCount ∧ t.hwFaults = s.hwFaults ∧ t.partState = s.partState ∧ t.steering = s.steering
    ∧ t.transportKey = s.transportKey ∧ t.assocs = s.assocs := by
  obtain ⟨_, _, _, _, _, _, rfl⟩ := h
  exact ⟨rfl, rfl, rfl, rfl, rfl, rfl, rfl, rfl⟩

theorem faultListOk_portFrame (h : PortFrame s t) (hs : FaultListOk s) : FaultListOk t := by
  obtain ⟨_, _, _, _, _, _, rfl⟩ := h
  exact hs

theorem Move.faultListOk (h : Move L s₀ s t) (hs : FaultListOk s) : FaultListOk t := by
  cases h with
  | free hfree =>
    obtain ⟨_, _, _, _, _, _, _, _, _, _, _, _, _, _, _, _, rfl⟩ := hfree
    exact hs
  | event => exact faultListOk_portFrame (raiseEvent_portFrame ..) hs
  | faults v hv => exact hv hs
  | removes => exact faultListOk_portFrame (removeEntries_portFrame ..) hs
  | drops => exact faultListOk_portFrame (dropHead_portFrame ..) hs
  | spoils => exact faultListOk_portFrame (removeEntries_portFrame ..) hs
  | _ => exact hs

theorem countsOk_portFrame (h : PortFrame s t) (hs : CountsOk s) : CountsOk t := by
  obtain ⟨_, _, _, _, _, _, rfl⟩ := h
  exact hs

theorem Move.countsOk (h : Move L s₀ s t) (hs : CountsOk s) : CountsOk t := by
  cases h with
  | free hfree =>
    obtain ⟨_, _, _, _, _, _, _, _, _, _, _, _, _, _, _, _, rfl⟩ := hfree
    exact hs
  | event => exact countsOk_portFrame (raiseEvent_portFrame ..) hs
  | counts clock fine hw hcounts => exact hcounts hs
  | tested x _ hx =>
    obtain ⟨hclock, hfine, hscrub, -⟩ := hs
    exact ⟨hclock, hfine, hscrub, fun h => absurd h hx⟩
  | removes => exact countsOk_portFrame (removeEntries_portFrame ..) hs
  | drops => exact countsOk_portFrame (dropHead_portFrame ..) hs
  | spoils => exact countsOk_portFrame (removeEntries_portFrame ..) hs
  | _ => exact hs

/-! ## Counters (R180) -/

theorem countersOk_iff : CountersOk s ↔ (∀ p, Bounded (s.port p).counters) ∧ (∀ a, Bounded (s.assoc a).counters)
    ∧ ∀ i, (s.entry i).hits ≤ Config.counterMax := Iff.rfl

theorem countersOk_of_ports (hs : CountersOk s) (hassocs : t.assocs = s.assocs) (hsteering : t.steering = s.steering)
    (hports : ∀ p, Bounded (s.port p).counters → Bounded (t.port p).counters) : CountersOk t := by
  obtain ⟨hport, hassoc, hhits⟩ := countersOk_iff.mp hs
  refine countersOk_iff.mpr ⟨fun p => hports p (hport p), ?_, ?_⟩
  · unfold State.assoc at *
    rwa [hassocs]
  · unfold State.entry at *
    rwa [hsteering]

theorem countersOk_of_assocs (hs : CountersOk s) (hports : ∀ p, (t.port p).counters = (s.port p).counters)
    (hsteering : t.steering = s.steering) (hassocs : ∀ a, Bounded (s.assoc a).counters → Bounded (t.assoc a).counters) :
    CountersOk t := by
  obtain ⟨hport, hassoc, hhits⟩ := countersOk_iff.mp hs
  refine countersOk_iff.mpr ⟨fun p => ?_, fun a => hassocs a (hassoc a), ?_⟩
  · rw [hports]
    exact hport p
  · unfold State.entry at *
    rwa [hsteering]

theorem drops_le {c n : Nat} (h : c ≤ Config.counterMax) : drops c n ≤ Config.counterMax := by
  unfold drops
  split
  · exact h
  · omega

theorem bounded_withDrops (c : PortCounter) (n : Nat) {x : Port} (h : Bounded x.counters) :
    Bounded (Port.withDrops c n x).counters := by
  intro i
  rw [Port.withDrops, row_updRow]
  split
  · exact drops_le (h _)
  · exact h i

theorem countersOk_removeEntries (p : PortNum) (test : Entry → Bool) (c : PortCounter) (hs : CountersOk s) :
    CountersOk (removeEntries p test c s) := by
  obtain ⟨-, -, -, -, -, hsteering, -, hassocs⟩ := portFrame_rest (removeEntries_portFrame p test c s)
  refine countersOk_of_ports hs hassocs hsteering fun q h => ?_
  rw [port_removeEntries]
  split
  · exact bounded_withDrops _ _ h
  · exact h

theorem countersOk_dropHead (p : PortNum) (hs : CountersOk s) : CountersOk (dropHead p s) := by
  obtain ⟨-, -, -, -, -, hsteering, -, hassocs⟩ := portFrame_rest (dropHead_portFrame p s)
  refine countersOk_of_ports hs hassocs hsteering fun q h => ?_
  rw [port_dropHead]
  split <;> exact h

theorem countersOk_updPort {f : Port → Port} (hs : CountersOk s) (h : (f (s.port p)).counters = (s.port p).counters) :
    CountersOk (s.updPort p f) := by
  refine countersOk_of_ports hs rfl rfl fun q hq => ?_
  rw [State.port_updPort]
  split
  · next hpq =>
    subst hpq
    rwa [h]
  · exact hq

theorem countersOk_updAssoc {a : Anum} {f : Assoc → Assoc} (hs : CountersOk s)
    (h : (f (s.assoc a)).counters = (s.assoc a).counters) : CountersOk (s.updAssoc a f) := by
  refine countersOk_of_assocs hs (fun _ => rfl) rfl fun b hb => ?_
  rw [State.assoc_updAssoc]
  split
  · next hab =>
    subst hab
    rwa [h]
  · exact hb

theorem Move.countersOk (h : Move L s₀ s t) (hs : CountersOk s) : CountersOk t := by
  cases h with
  | free hfree =>
    obtain ⟨_, _, _, _, _, _, _, _, _, _, _, _, _, _, _, _, rfl⟩ := hfree
    exact hs
  | event kind source detail =>
    obtain ⟨_, _, h⟩ := raiseEvent_frame kind source detail s
    rw [h]
    exact hs
  | ports v hv => exact countersOk_of_ports hs rfl rfl fun p h => (hv p).counters h
  | assocs v hv => exact countersOk_of_assocs hs (fun _ => rfl) rfl fun a h => (hv a).counters h
  | serves a k f hf => exact countersOk_updAssoc hs hf.counters
  | loads a k => exact countersOk_updAssoc hs rfl
  | entries v hv =>
    obtain ⟨hport, hassoc, hhits⟩ := hs
    exact ⟨hport, hassoc, fun i => (hv i).hits (hhits i)⟩
  | passes p frame => exact countersOk_updPort hs rfl
  | numbers p a k body frame f hf => exact countersOk_updPort (s := s.updAssoc a f) (countersOk_updAssoc hs hf.counters) rfl
  | remarks p seq => exact countersOk_updPort hs rfl
  | removes p test c => exact countersOk_removeEntries p test c hs
  | drops p => exact countersOk_dropHead p hs
  | grants l p mark copy clp => exact countersOk_updPort hs rfl
  | hands l p copy clp frame => exact countersOk_updPort (s := freeLane l s) hs rfl
  | spoils l p copy clp c => exact countersOk_removeEntries (s := freeLane l s) p _ c hs
  | _ => exact hs

/-! ## Every step keeps the lists and counts (O54) -/

theorem eventsOk_nil (h : s.events = []) : EventsOk s := by simp [EventsOk, h]

theorem bounded_port_reset : Bounded Port.reset.counters := bounded_replicate 32

theorem countersOk_reset (hports : s.ports = Vector.replicate 4 .reset) (hassocs : s.assocs = Vector.replicate 64 .reset)
    (hhits : ∀ i, (s.entry i).hits = 0) : CountersOk s := by
  refine countersOk_iff.mpr ⟨fun p => ?_, fun a => ?_, fun i => by simp [hhits]⟩
  · rw [State.port, hports, row_replicate]
    exact bounded_replicate 32
  · rw [State.assoc, hassocs, row_replicate]
    exact bounded_replicate 8

theorem hits_softReset (e : SteerEntry) : e.softReset.hits = 0 := by
  unfold SteerEntry.softReset
  split <;> rfl

/-- Settles O54: each elementary change keeps each of the four bounds. -/
theorem everyStepKeepsTheLists : Obligations.EveryStepKeepsTheLists := by
  intro s t h
  refine ⟨fun hs => ?_, fun hs => ?_, fun hs => ?_, fun hs => ?_⟩
  · exact step_keeps_of_moves (Q := EventsOk) (fun _ _ => id) (fun _ _ hs hm => hm.keeps (fun _ _ => Move.eventsOk) hs)
      (fun _ _ _ => eventsOk_nil rfl) (fun _ _ => eventsOk_nil rfl) hs h
  · exact step_keeps_of_moves (Q := FaultListOk) (fun _ _ => id) (fun _ _ hs hm => hm.keeps (fun _ _ => Move.faultListOk) hs)
      (fun _ _ _ => Nat.zero_le _) (fun _ _ => Nat.zero_le _) hs h
  · exact step_keeps_of_moves (Q := CountersOk) (fun _ _ => id) (fun _ _ hs hm => hm.keeps (fun _ _ => Move.countersOk) hs)
      (fun _ _ _ => countersOk_reset rfl rfl fun i => by simp [hardBase, State.reset, State.entry, SteerEntry.reset])
      (fun _ _ => countersOk_reset rfl rfl fun i => by simp [softBase, State.entry, hits_softReset]) hs h
  · exact step_keeps_of_moves (Q := CountsOk) (fun _ _ => id) (fun _ _ hs hm => hm.keeps (fun _ _ => Move.countsOk) hs)
      (fun _ _ _ => by simp [CountsOk, hardBase, State.reset, Config.clocksPerFine, Config.finePerCoarse,
        HwFaults.cleared]) (fun _ hs => hs) hs h

/-! ## Slots hold no key material in EMPTY and FAULTED (O57) -/

theorem ok_released {x : Slot} (h : x.Ok) : x.released.Ok := by
  unfold Slot.released
  split
  · exact ok_empty
  · exact h

theorem ok_releasedTimes : ∀ (n : Nat) {x : Slot}, x.Ok → (Slot.releasedTimes n x).Ok
  | 0, _, h => h
  | n + 1, _, h => ok_releasedTimes n (ok_released h)

theorem Move.slotsOk (h₀ : Coherent s₀) (h : Move L s₀ s t) (hs : SlotsOk s) : SlotsOk t := by
  cases h with
  | free hfree =>
    obtain ⟨_, _, _, _, _, _, _, _, _, _, _, _, _, _, _, _, rfl⟩ := hfree
    exact hs
  | event => exact fun k => by simpa using hs k
  | slot k f hf =>
    intro j
    rw [State.slot_updSlot]
    split
    · next hkj => exact hkj ▸ hf.ok h₀ (hs k)
    · exact hs j
  | numbers p a k body frame f =>
    intro j
    unfold recordAgainst
    rw [State.slot_updSlot]
    split
    · next hkj => exact hkj ▸ hs k
    · exact hs j
  | removes p test c => exact fun k => slot_removeEntries p test c k s ▸ ok_releasedTimes _ (hs k)
  | drops p => exact fun k => slot_dropHead p k s ▸ ok_releasedTimes _ (hs k)
  | spoils l p copy clp c => exact fun k => slot_removeEntries p _ c k (freeLane l s) ▸ ok_releasedTimes _ (hs k)
  | _ => exact hs

theorem slotsOk_reset (h : s.slots = Vector.replicate 128 .empty) : SlotsOk s := fun k => by
  rw [State.slot, h, row_replicate]
  exact ok_empty

/-- Settles O57: each elementary change of a slot inside a step from a coherent state keeps its form. -/
theorem everyStepKeepsSlotsZeroised : Obligations.EveryStepKeepsSlotsZeroised := fun _ _ hcoherent hs h =>
  step_keeps_of_moves (Q := fun s => Coherent s ∧ SlotsOk s) (fun _ _ => id)
    (fun _ _ hs hm => hm.keeps (fun _ _ => Move.slotsOk hs.1) hs.2)
    (fun _ _ _ => ⟨hardBase_coherent .., slotsOk_reset rfl⟩) (fun _ _ => ⟨softBase_coherent _, slotsOk_reset rfl⟩)
    ⟨hcoherent, hs⟩ h

end Sys2Proof.Proofs
end

section
/-! SUPPORT. The capacities of the ports, which every elementary change keeps (O58). -/

/-! One theorem is checked after another, as in the tests, which bounds the threads that the whole text takes. -/

set_option Elab.async false

namespace Sys2Proof.Proofs

open Sys2Proof Sys2Proof.Machine

variable {L : Prop} {s₀ s t : State} {k : SlotNum} {p q : PortNum} {x y : Port}

/-! ## Sequences (R91, R93) -/

/-- How many entries of a sequence are IN_LANE (R93). -/
def inLanes (es : List Entry) : Nat := es.countP fun e => e.status.isInLane

theorem inLaneCount_eq (x : Port) : x.inLaneCount = inLanes x.sequence := by
  rw [inLanes, List.countP_eq_length_filter, Port.inLaneCount]

theorem inLanes_eq_of_laneOf {es fs : List Entry} (h : es.map laneOf = fs.map laneOf) : inLanes es = inLanes fs := by
  have hcount (gs : List Entry) : inLanes gs = (gs.map laneOf).countP Option.isSome := by
    rw [inLanes, List.countP_map]
    refine List.countP_congr fun e _ => ?_
    have := @laneOf_eq_none_iff e
    cases h : laneOf e <;> simp_all
  rw [hcount, hcount, h]

theorem inLanes_sublist {es fs : List Entry} (h : es.Sublist fs) : inLanes es ≤ inLanes fs := h.countP_le

/-- A sequence that is no longer and holds no more entries in lanes suits its port. -/
theorem ok_with_sequence {seq : List Entry} (h : x.Ok) (hlength : seq.length ≤ x.sequence.length)
    (hlanes : inLanes seq ≤ inLanes x.sequence) : Port.Ok { x with sequence := seq } := by
  obtain ⟨hlen, hcap, hrest⟩ := h
  rw [inLaneCount_eq] at hcap
  exact ⟨hlength.trans hlen, (inLaneCount_eq _).trans_le (hlanes.trans hcap), hrest⟩

theorem ok_withDrops (c : PortCounter) (n : Nat) (h : x.Ok) : (Port.withDrops c n x).Ok := h

theorem ok_joined {e : Entry} (h : x.Ok) (hroom : x.sequence.length < Config.sequenceCapacity)
    (hstatus : e.status = .waitingLane) : Port.Ok { x with sequence := x.sequence ++ [e] } := by
  obtain ⟨hlen, hcap, hrest⟩ := h
  refine ⟨by simpa using hroom, ?_, hrest⟩
  rw [inLaneCount_eq] at *
  simpa [inLanes, List.countP_append, hstatus, EntryStatus.isInLane] using hcap

/-- A grant moves one entry into a lane (R91). -/
theorem inLanes_grantOldest (l : LaneNum) (mark : Bool) : ∀ es : List Entry,
    inLanes (grantOldest l mark es) ≤ inLanes es + 1
  | [] => by simp [grantOldest, inLanes]
  | e :: es => by
    unfold grantOldest
    split
    · next h => simp [inLanes, h, EntryStatus.isInLane]
    · have ih := inLanes_grantOldest l mark es
      simp only [inLanes, List.countP_cons] at *
      omega

theorem length_grantOldest (l : LaneNum) (mark : Bool) : ∀ es : List Entry, (grantOldest l mark es).length = es.length
  | [] => rfl
  | e :: es => by
    unfold grantOldest
    split
    · rfl
    · simp [length_grantOldest l mark es]

theorem ok_granted (h : x.Ok) (hcap : x.inLaneCount < Config.portLaneCap) (l : LaneNum) (mark : Bool) :
    Port.Ok { x with sequence := grantOldest l mark x.sequence } := by
  obtain ⟨hlen, -, hrest⟩ := h
  refine ⟨(length_grantOldest ..).trans_le hlen, ?_, hrest⟩
  rw [inLaneCount_eq] at *
  exact (inLanes_grantOldest l mark x.sequence).trans hcap

theorem laneOf_handed (l : LaneNum) (inhibited : Bool) (frame : Bytes) (e : Entry) :
    laneOf (e.handed l inhibited frame) = if laneOf e = some l then none else laneOf e := by
  unfold Entry.handed
  by_cases h : e.status = .inLane l
  · rw [if_pos h, if_pos (by simp [laneOf, h])]
    rfl
  · rw [if_neg h, if_neg]
    unfold laneOf
    cases hs : e.status <;> simp_all

theorem ok_handed (h : x.Ok) (l : LaneNum) (inhibited : Bool) (frame : Bytes) :
    Port.Ok { x with sequence := x.sequence.map (Entry.handed l inhibited frame) } := by
  refine ok_with_sequence h (by simp) ?_
  rw [inLanes, List.countP_map, inLanes]
  refine List.countP_mono_left fun e _ he => ?_
  have hafter := laneOf_handed l inhibited frame e
  have hwas := @laneOf_eq_none_iff e
  have hnow := @laneOf_eq_none_iff (e.handed l inhibited frame)
  by_contra hnot
  simp_all

/-! ## The ports under each elementary change -/

theorem portsOk_updPort {f : Port → Port} (hs : PortsOk s) (h : (s.port p).Ok → (f (s.port p)).Ok) : PortsOk (s.updPort p f) := by
  intro q
  rw [State.port_updPort]
  split
  · next hpq => exact hpq ▸ h (hs p)
  · exact hs q

theorem portsOk_removeEntries (p : PortNum) (test : Entry → Bool) (c : PortCounter) (hs : PortsOk s) :
    PortsOk (removeEntries p test c s) := by
  intro q
  rw [port_removeEntries]
  split
  · exact ok_withDrops c _ (ok_with_sequence (hs q) (List.length_filter_le ..) (inLanes_sublist List.filter_sublist))
  · exact hs q

theorem portsOk_dropHead (p : PortNum) (hs : PortsOk s) : PortsOk (dropHead p s) := by
  intro q
  rw [port_dropHead]
  split
  · exact ok_with_sequence (hs q) (by simp) (inLanes_sublist (List.tail_sublist _))
  · exact hs q

theorem Move.portsOk (h : Move L s₀ s t) (hs : PortsOk s) : PortsOk t := by
  cases h with
  | free hfree =>
    obtain ⟨_, _, _, _, _, _, _, _, _, _, _, _, _, _, _, _, rfl⟩ := hfree
    exact hs
  | event => exact fun p => by simpa using hs p
  | ports v hv => exact fun p => (hv p).ok (hs p)
  | passes p frame hroom => exact portsOk_updPort hs fun h => ok_joined h hroom rfl
  | numbers p a k body frame f hf => exact portsOk_updPort (s := s.updAssoc a f) hs fun h => ok_joined h hf.room rfl
  | remarks p seq hbody hlane =>
    refine portsOk_updPort hs fun h => ok_with_sequence h (le_of_eq ?_) (le_of_eq (inLanes_eq_of_laneOf hlane))
    simpa using congrArg List.length hbody
  | removes p test c => exact portsOk_removeEntries p test c hs
  | drops p => exact portsOk_dropHead p hs
  | grants l p mark copy clp _ _ hcap => exact portsOk_updPort hs fun h => ok_granted h hcap l mark
  | hands l p copy clp frame => exact portsOk_updPort (s := freeLane l s) hs fun h => ok_handed h l _ frame
  | spoils l p copy clp c => exact portsOk_removeEntries (s := freeLane l s) p _ c hs
  | _ => exact hs

theorem heldOff_of_modes (hs : HeldOff s) (hstate : t.partState = s.partState) (hmode : ∀ p, (t.port p).mode = (s.port p).mode) :
    HeldOff t := fun hne p => (hmode p).trans (hs (hstate ▸ hne) p)

theorem mode_removeEntries (p q : PortNum) (test : Entry → Bool) (c : PortCounter) (s : State) :
    ((removeEntries p test c s).port q).mode = (s.port q).mode := by
  rw [port_removeEntries]
  split <;> rfl

theorem mode_dropHead (p q : PortNum) (s : State) : ((dropHead p s).port q).mode = (s.port q).mode := by
  rw [port_dropHead]
  split <;> rfl

theorem mode_updPort {f : Port → Port} (hf : ∀ x, (f x).mode = x.mode) (q : PortNum) :
    ((s.updPort p f).port q).mode = (s.port q).mode := by
  rw [State.port_updPort]
  split
  · next h => rw [hf, h]
  · rfl

theorem Move.heldOff (h : Move L s₀ s t) (hs : HeldOff s) : HeldOff t := by
  cases h with
  | free hfree =>
    obtain ⟨_, _, _, _, _, _, _, _, _, _, _, _, _, _, _, _, rfl⟩ := hfree
    exact hs
  | event => exact heldOff_of_modes hs (by simp) fun p => by simp
  | ports v hv =>
    intro hne p
    cases hmode : (row v p).mode with
    | off => exact hmode
    | protect =>
      rcases (hv p).mode hmode with hwas | hrun
      · rw [hs hne p] at hwas
        cases hwas
      · exact absurd hrun hne
  | tested x htest => exact fun _ p => hs (by simp [htest]) p
  | passes p frame => exact heldOff_of_modes hs rfl (mode_updPort fun _ => rfl)
  | numbers p a k body frame f => exact heldOff_of_modes hs rfl (mode_updPort fun _ => rfl)
  | remarks p seq => exact heldOff_of_modes hs rfl (mode_updPort fun _ => rfl)
  | removes p test c =>
    exact heldOff_of_modes hs (partState_portFrame (removeEntries_portFrame ..)) fun q => mode_removeEntries ..
  | drops p => exact heldOff_of_modes hs (partState_portFrame (dropHead_portFrame ..)) fun q => mode_dropHead ..
  | grants l p mark copy clp => exact heldOff_of_modes hs rfl (mode_updPort fun _ => rfl)
  | hands l p copy clp frame => exact heldOff_of_modes hs rfl (mode_updPort fun _ => rfl)
  | spoils l p copy clp c =>
    exact heldOff_of_modes hs (partState_portFrame (removeEntries_portFrame (s := freeLane l s) ..)) fun q => mode_removeEntries ..
  | _ => exact hs

theorem ok_port_reset : Port.reset.Ok := by
  simp [Port.Ok, Port.reset, Port.inLaneCount, Port.occupancy]

theorem portsOk_reset (h : s.ports = Vector.replicate 4 .reset) : PortsOk s := fun p => by
  rw [State.port, h, row_replicate]
  exact ok_port_reset

theorem heldOff_reset (h : s.ports = Vector.replicate 4 .reset) : HeldOff s := fun _ p => by
  rw [State.port, h, row_replicate]
  rfl

/-- Settles O58: each elementary change keeps the capacities, and a port enters PROTECT in RUNNING alone. -/
theorem everyStepKeepsThePorts : Obligations.EveryStepKeepsThePorts := fun _ _ hports hoff h =>
  step_keeps_of_moves (P := fun s => PortsOk s ∧ HeldOff s) (Q := fun s => PortsOk s ∧ HeldOff s) (fun _ _ => id)
    (fun _ _ hs hm => ⟨hm.keeps (fun _ _ => Move.portsOk) hs.1, hm.keeps (fun _ _ => Move.heldOff) hs.2⟩)
    (fun _ _ _ => ⟨portsOk_reset rfl, heldOff_reset rfl⟩) (fun _ _ => ⟨portsOk_reset rfl, heldOff_reset rfl⟩)
    ⟨hports, hoff⟩ h

end Sys2Proof.Proofs
end

section
/-! SUPPORT. In-flight counts (R76) and BUSY lanes (R83, R94), which every elementary change keeps in step with the transform
sequences (O59). -/

/-! One theorem is checked after another, as in the tests, which bounds the threads that the whole text takes. -/

set_option Elab.async false

namespace Sys2Proof.Proofs

open Sys2Proof Sys2Proof.Machine

variable {L : Prop} {s₀ s t : State} {k : SlotNum} {l : LaneNum} {p q : PortNum} {x y : Slot} {n : Nat}

/-! ## Entries recorded against a slot -/

theorem entriesAgainst_eq (s : State) (k : SlotNum) :
    entriesAgainst s k = (allPorts.map fun p => against k (s.port p).sequence).sum := by
  simp only [entriesAgainst, against, List.countP_eq_length_filter]

theorem entriesAgainst_congr (h : ∀ p, against k (t.port p).sequence = against k (s.port p).sequence) :
    entriesAgainst t k = entriesAgainst s k := by
  simp only [entriesAgainst_eq, h]

/-- A change of one sequence changes the number of entries by as much. -/
theorem entriesAgainst_of_one (h : ∀ q, q ≠ p → (t.port q).sequence = (s.port q).sequence) :
    entriesAgainst t k + against k (s.port p).sequence = entriesAgainst s k + against k (t.port p).sequence := by
  have h₀ := h 0
  have h₁ := h 1
  have h₂ := h 2
  have h₃ := h 3
  simp only [entriesAgainst_eq, allPorts, List.map_cons, List.map_nil, List.sum_cons, List.sum_nil]
  fin_cases p <;> simp at * <;> simp only [*] <;> omega

theorem against_append (k : SlotNum) (es fs : List Entry) : against k (es ++ fs) = against k es + against k fs := by
  simp [against]

/-- The slot of an entry is part of its body. -/
theorem against_eq_of_body {es fs : List Entry} (h : es.map Entry.body = fs.map Entry.body) : against k es = against k fs := by
  have hcount (gs : List Entry) : against k gs
      = (gs.map Entry.body).countP fun b => Entry.slot? ⟨b, [], .done, false, false⟩ == some k := by
    rw [List.countP_map]
    rfl
  rw [hcount, hcount, h]

theorem against_filter_add (k : SlotNum) (test : Entry → Bool) (es : List Entry) :
    against k (es.filter fun e => !test e) + against k (es.filter test) = against k es := by
  induction es with
  | nil => rfl
  | cons e es ih =>
    cases h : test e <;> simp only [List.filter_cons, h, Bool.not_true, Bool.not_false, if_true, against_cons] <;> simp <;> omega

/-! ## A slot and the number of entries recorded against it (R64, R76) -/

/-- A slot against which a number of entries stand. -/
structure Counts (x : Slot) (n : Nat) : Prop where
  count : x.inFlight = n
  uncounted : Uncounted x → x.inFlight = 0
  draining : x.state = .draining → 1 ≤ x.inFlight

theorem inFlightOk_iff : InFlightOk s ↔ ∀ k, Counts (s.slot k) (entriesAgainst s k) :=
  forall_congr' fun _ => ⟨fun ⟨h₁, h₂, h₃⟩ => ⟨h₁, h₂, h₃⟩, fun ⟨h₁, h₂, h₃⟩ => ⟨h₁, h₂, h₃⟩⟩

theorem Counts.moved (h : Counts x n) (hmove : SlotMove s₀ x y) (h₀ : Coherent s₀) : Counts y n := by
  obtain ⟨hcount, huncounted, hdraining⟩ := h
  have hzero (hy : Uncounted y) : x.inFlight = 0 := (hmove.uncounted h₀ hy).elim huncounted id
  obtain hsame | ⟨hnone, hempty⟩ := hmove.inFlight
  · refine ⟨hsame.trans hcount, fun hy => hsame.trans (hzero hy), fun hy => ?_⟩
    rw [hsame]
    exact (hmove.draining hy).elim hdraining id
  · refine ⟨?_, fun _ => hnone, fun hy => ?_⟩
    · rw [hnone, ← hcount, hzero hempty]
    · simp [Uncounted, hy] at hempty

theorem Counts.released (h : Counts x (n + 1)) : Counts x.released n := by
  obtain ⟨hcount, huncounted, hdraining⟩ := h
  unfold Slot.released
  split
  · next hlast => exact ⟨by simp [Slot.empty]; omega, fun _ => rfl, fun hy => by simp [Slot.empty] at hy⟩
  · next hstays =>
    refine ⟨by simp [hcount], fun hy => ?_, fun hy => ?_⟩
    · exact absurd (huncounted hy) (by omega)
    · have : ¬x.inFlight ≤ 1 := fun hle => hstays ⟨hy, hle⟩
      dsimp only
      omega

theorem Counts.releasedTimes : ∀ (m : Nat) {x : Slot}, Counts x (n + m) → Counts (Slot.releasedTimes m x) n
  | 0, _, h => h
  | m + 1, _, h => Counts.releasedTimes m h.released

theorem Counts.recorded (h : Counts x n) (hactive : x.state = .active) : Counts { x with inFlight := x.inFlight + 1 } (n + 1) :=
  ⟨by simp [h.count], fun hy => by simp [Uncounted, hactive] at hy, fun hy => by simp [hactive] at hy⟩

theorem inFlightOk_removeEntries (p : PortNum) (test : Entry → Bool) (c : PortCounter) (hs : InFlightOk s) :
    InFlightOk (removeEntries p test c s) := by
  refine inFlightOk_iff.mpr fun k => ?_
  rw [slot_removeEntries]
  refine Counts.releasedTimes _ ?_
  have hcounts := inFlightOk_iff.mp hs k
  have hone := entriesAgainst_of_one (s := s) (t := removeEntries p test c s) (k := k) (p := p) fun q hq => by
    rw [port_removeEntries, if_neg (Ne.symm hq)]
  rw [port_removeEntries, if_pos rfl] at hone
  have hsplit := against_filter_add k test (s.port p).sequence
  dsimp only [Port.withDrops] at hone
  rwa [show entriesAgainst (removeEntries p test c s) k + against k ((s.port p).sequence.filter test) = entriesAgainst s k by omega]

theorem inFlightOk_dropHead (p : PortNum) (hs : InFlightOk s) : InFlightOk (dropHead p s) := by
  refine inFlightOk_iff.mpr fun k => ?_
  rw [slot_dropHead]
  refine Counts.releasedTimes _ ?_
  have hcounts := inFlightOk_iff.mp hs k
  have hone := entriesAgainst_of_one (s := s) (t := dropHead p s) (k := k) (p := p) fun q hq => by
    rw [port_dropHead, if_neg (Ne.symm hq)]
  rw [port_dropHead, if_pos rfl] at hone
  dsimp only at hone
  have hsplit : against k ((s.port p).sequence.take 1) + against k (s.port p).sequence.tail = against k (s.port p).sequence := by
    rw [← against_append, ← List.drop_one, List.take_append_drop]
  rwa [show entriesAgainst (dropHead p s) k + against k ((s.port p).sequence.take 1) = entriesAgainst s k by omega]

theorem inFlightOk_of_same (hs : InFlightOk s) (hslot : ∀ k, t.slot k = s.slot k)
    (hagainst : ∀ k p, against k (t.port p).sequence = against k (s.port p).sequence) : InFlightOk t := by
  refine inFlightOk_iff.mpr fun k => ?_
  rw [hslot, entriesAgainst_congr (hagainst k)]
  exact inFlightOk_iff.mp hs k

theorem inFlightOk_updPort {f : Port → Port} (hs : InFlightOk s)
    (h : ∀ k, against k (f (s.port p)).sequence = against k (s.port p).sequence) : InFlightOk (s.updPort p f) := by
  refine inFlightOk_of_same hs (fun _ => rfl) fun k q => ?_
  rw [State.port_updPort]
  split
  · next hpq => exact hpq ▸ h k
  · rfl

theorem body_handed (l : LaneNum) (inhibited : Bool) (frame : Bytes) (e : Entry) :
    (e.handed l inhibited frame).body = e.body := by
  unfold Entry.handed
  split <;> rfl

theorem body_grantOldest (l : LaneNum) (mark : Bool) : ∀ es : List Entry,
    (grantOldest l mark es).map Entry.body = es.map Entry.body
  | [] => rfl
  | e :: es => by
    unfold grantOldest
    split
    · rfl
    · simp [body_grantOldest l mark es]

/-- The entry that takes a number counts against its slot (R53, R56). -/
theorem inFlightOk_numbered {p : PortNum} {a : Anum} {body : EntryBody} {frame : Bytes} {f : Assoc → Assoc}
    (h₀ : Coherent s₀) (hf : TakesNumber s₀ s p a k body (f (s.assoc a))) (hs : InFlightOk s) :
    InFlightOk (recordAgainst k (joinSequence p body frame (s.updAssoc a f))) := by
  refine inFlightOk_iff.mpr fun j => ?_
  have hcounts := inFlightOk_iff.mp hs j
  have hone := entriesAgainst_of_one (s := s) (t := recordAgainst k (joinSequence p body frame (s.updAssoc a f))) (k := j)
    (p := p) fun q hq => by
      show ((joinSequence p body frame (s.updAssoc a f)).port q).sequence = _
      rw [joinSequence, State.port_updPort_ne _ _ (Ne.symm hq)]
      rfl
  have hjoined : ((recordAgainst k (joinSequence p body frame (s.updAssoc a f))).port p).sequence
      = (s.port p).sequence ++ [⟨body, frame, .waitingLane, false, false⟩] := by
    show ((joinSequence p body frame (s.updAssoc a f)).port p).sequence = _
    rw [joinSequence, State.port_updPort_self]
    rfl
  rw [hjoined, against_append, against_cons, (hf.body frame .waitingLane false false).1] at hone
  unfold recordAgainst at *
  rw [State.slot_updSlot]
  split
  · next hkj =>
    subst hkj
    have hrest : against k [] = 0 := rfl
    rw [if_pos rfl, hrest] at hone
    rw [show entriesAgainst _ k = entriesAgainst s k + 1 by omega]
    exact hcounts.recorded (hf.active h₀)
  · next hkj =>
    have hrest : against j [] = 0 := rfl
    rw [if_neg (by simpa using hkj), hrest] at hone
    rw [show entriesAgainst _ j = entriesAgainst s j by omega]
    exact hcounts

theorem Move.inFlightOk (h₀ : Coherent s₀) (h : Move L s₀ s t) (hs : InFlightOk s) : InFlightOk t := by
  cases h with
  | free hfree =>
    obtain ⟨_, _, _, _, _, _, _, _, _, _, _, _, _, _, _, _, rfl⟩ := hfree
    exact hs
  | event => exact inFlightOk_of_same hs (fun _ => by simp) fun _ _ => by simp
  | ports v hv => exact inFlightOk_of_same hs (fun _ => rfl) fun k p => congrArg (against k) (hv p).sequence
  | slot k f hf =>
    refine inFlightOk_iff.mpr fun j => ?_
    have hcounts := inFlightOk_iff.mp hs j
    rw [State.slot_updSlot]
    split
    · next hkj =>
      subst hkj
      exact hcounts.moved hf h₀
    · exact hcounts
  | passes p frame => exact inFlightOk_updPort hs fun k => by rw [against_append]; rfl
  | numbers p a k body frame f hf => exact inFlightOk_numbered h₀ hf hs
  | remarks p seq hbody => exact inFlightOk_updPort hs fun k => against_eq_of_body hbody
  | removes p test c => exact inFlightOk_removeEntries p test c hs
  | drops p => exact inFlightOk_dropHead p hs
  | grants l p mark copy clp => exact inFlightOk_updPort hs fun k => against_eq_of_body (body_grantOldest ..)
  | hands l p copy clp frame =>
    exact inFlightOk_updPort (s := freeLane l s) hs fun k => against_eq_of_body (by simp [body_handed])
  | spoils l p copy clp c => exact inFlightOk_removeEntries (s := freeLane l s) p _ c hs
  | _ => exact hs

/-! ## Lanes -/

/-- A lane is BUSY with the TRANSFORM of a port (R83). -/
def transformsFor (x : Lane) (p : PortNum) : Prop := ∃ copy clp, x = .busy (.transform p copy clp)

theorem transformsFor_iff_of_shape {x y : Lane} (h : laneShape y = laneShape x) (p : PortNum) :
    transformsFor y p ↔ transformsFor x p := by
  have hshape (z : Lane) : transformsFor z p ↔ transformsFor (laneShape z) p := by
    unfold laneShape transformsFor
    split <;> simp
  rw [hshape y, h, ← hshape x]

theorem isExpand_of_shape {x y : Lane} (h : laneShape y = laneShape x) : y.isExpand = x.isExpand := by
  have hshape (z : Lane) : z.isExpand = (laneShape z).isExpand := by
    unfold laneShape
    split <;> rfl
  rw [hshape y, h, ← hshape x]

theorem busy_iff_of_shape {x y : Lane} (h : laneShape y = laneShape x) : (∃ op, y = .busy op) ↔ ∃ op, x = .busy op := by
  have hshape (z : Lane) : (∃ op, z = .busy op) ↔ ∃ op, laneShape z = .busy op := by
    unfold laneShape
    split <;> simp
  rw [hshape y, h, ← hshape x]

theorem mem_laneOf_iff {es : List Entry} : some l ∈ es.map laneOf ↔ ∃ e ∈ es, e.status = .inLane l := by
  simp only [List.mem_map]
  refine exists_congr fun e => and_congr_right fun _ => ?_
  unfold laneOf
  cases e.status <;> simp

/-- The lanes by what they are BUSY with, and the sequences by what lanes their entries are in. -/
theorem lanesOk_iff : LanesOk s ↔ (∀ l p, transformsFor (s.lane l) p ↔ some l ∈ (s.port p).sequence.map laneOf)
    ∧ expandCount s ≤ Config.expandCap ∧ (s.partState = .testing → ∀ l, ¬∃ op, s.lane l = .busy op) := by
  simp only [LanesOk, mem_laneOf_iff, transformsFor, not_exists]

theorem expandCount_congr (h : ∀ l, laneShape (t.lane l) = laneShape (s.lane l)) : expandCount t = expandCount s := by
  unfold expandCount
  simp only [fun l => isExpand_of_shape (h l)]

theorem lanesOk_of_shape (hs : LanesOk s) (hlane : ∀ l, laneShape (t.lane l) = laneShape (s.lane l))
    (hstate : t.partState = .testing → s.partState = .testing)
    (hport : ∀ l p, some l ∈ (t.port p).sequence.map laneOf ↔ some l ∈ (s.port p).sequence.map laneOf) : LanesOk t := by
  obtain ⟨hbusy, hcount, hidle⟩ := lanesOk_iff.mp hs
  refine lanesOk_iff.mpr ⟨fun l p => ?_, ?_, fun htest l => ?_⟩
  · rw [transformsFor_iff_of_shape (hlane l), hbusy, hport]
  · rwa [expandCount_congr hlane]
  · rw [busy_iff_of_shape (hlane l)]
    exact hidle (hstate htest) l

theorem lanesOk_updPort {f : Port → Port} (hs : LanesOk s)
    (h : ∀ l, some l ∈ (f (s.port p)).sequence.map laneOf ↔ some l ∈ (s.port p).sequence.map laneOf) : LanesOk (s.updPort p f) := by
  refine lanesOk_of_shape hs (fun _ => rfl) id fun l q => ?_
  rw [State.port_updPort]
  split
  · next hpq => exact hpq ▸ h l
  · rfl

/-- Entries that are in no lane leave no lane. -/
theorem lanesOk_removeEntries {test : Entry → Bool} (h : ∀ e, test e = true → laneOf e = none) (p : PortNum) (c : PortCounter)
    (hs : LanesOk s) : LanesOk (removeEntries p test c s) := by
  refine lanesOk_of_shape hs (fun l => laneShape_removeEntries ..)
    (fun htest => by rwa [partState_portFrame (removeEntries_portFrame ..)] at htest) fun l q => ?_
  rw [port_removeEntries]
  split
  · simp only [Port.withDrops, List.mem_map, List.mem_filter]
    constructor
    · rintro ⟨e, ⟨he, -⟩, hl⟩
      exact ⟨e, he, hl⟩
    · rintro ⟨e, he, hl⟩
      refine ⟨e, ⟨he, ?_⟩, hl⟩
      by_contra hgone
      rw [h e (by simpa using hgone)] at hl
      cases hl
  · rfl

theorem lanesOk_dropHead (h : ∀ e ∈ (s.port p).sequence.head?, laneOf e = none) (hs : LanesOk s) : LanesOk (dropHead p s) := by
  refine lanesOk_of_shape hs (fun l => laneShape_dropHead ..)
    (fun htest => by rwa [partState_portFrame (dropHead_portFrame ..)] at htest) fun l q => ?_
  rw [port_dropHead]
  split
  · next hpq =>
    subst hpq
    cases hseq : (s.port p).sequence with
    | nil => rfl
    | cons e es =>
      have hnone : laneOf e = none := h e (by simp [hseq])
      simp [hnone]
  · rfl

/-! ### One lane set -/

theorem countP_set_le {g : LaneNum → Lane} (l : LaneNum) (x : Lane) : ∀ ls : List LaneNum, ls.Nodup →
    ls.countP (fun m => (if l = m then x else g m).isExpand) ≤ ls.countP (fun m => (g m).isExpand) + if x.isExpand then 1 else 0
  | [], _ => Nat.zero_le _
  | m :: ls, h => by
    obtain ⟨hm, hls⟩ := List.nodup_cons.mp h
    rw [List.countP_cons, List.countP_cons]
    by_cases hlm : l = m
    · subst hlm
      have hrest : ls.countP (fun m => (if l = m then x else g m).isExpand) = ls.countP fun m => (g m).isExpand :=
        List.countP_congr fun m hmem => by rw [if_neg fun hl => hm (by rwa [hl])]
      rw [hrest, if_pos rfl]
      omega
    · have ih := countP_set_le (g := g) l x ls hls
      rw [if_neg hlm]
      omega

theorem expandCount_setLane_le (l : LaneNum) (x : Lane) (s : State) :
    expandCount (s.setLane l x) ≤ expandCount s + if x.isExpand then 1 else 0 := by
  simp only [expandCount, ← List.countP_eq_length_filter, State.lane_setLane]
  exact countP_set_le l x allLanes (by decide)

theorem not_transformsFor {x : Lane} (h : isTransform x = false) (p : PortNum) : ¬transformsFor x p := by
  rintro ⟨copy, clp, rfl⟩
  cases h

/-- A lane that neither held a TRANSFORM nor takes one (R91). -/
theorem lanesOk_setLane {x : Lane} (hoff : HeldOff s₀) (hlanes : LanesOk s₀) (h : LaneMove s₀ s l x) (hs : LanesOk s) :
    LanesOk (s.setLane l x) := by
  obtain ⟨hbusy, hcount, hidle⟩ := lanesOk_iff.mp hs
  have hwas : isTransform (s.lane l) = false := by
    refine h.was.elim id fun htest => ?_
    cases hx : s.lane l with
    | busy op => exact absurd ⟨op, hx⟩ (hidle htest l)
    | idle => rfl
    | outOfService => rfl
  refine lanesOk_iff.mpr ⟨fun m p => ?_, ?_, fun htest m => ?_⟩
  · rw [State.lane_setLane]
    split
    · next hlm =>
      subst hlm
      exact iff_of_false (not_transformsFor h.now p) fun hmem => not_transformsFor hwas p ((hbusy l p).mpr hmem)
    · exact hbusy m p
  · refine (expandCount_setLane_le l x s).trans ?_
    split
    · next hexpand => exact h.expand hexpand
    · exact hcount
  · rw [State.lane_setLane]
    split
    · exact fun hop => h.busy hop hoff hlanes htest
    · exact hidle htest m

/-! ### Transforms granted and ended -/

theorem mem_laneOf_grantOldest {l : LaneNum} (mark : Bool) (m : LaneNum) : ∀ es : List Entry,
    (∃ e ∈ es, e.status = .waitingLane) →
    (some m ∈ (grantOldest l mark es).map laneOf ↔ m = l ∨ some m ∈ es.map laneOf)
  | [], h => by simp at h
  | e :: es, h => by
    unfold grantOldest
    split
    · next hwaits =>
      have hnone : laneOf e = none := by simp [laneOf, hwaits]
      have hgranted : laneOf { e with status := .inLane l, corrupted := e.corrupted || mark } = some l := rfl
      simp only [List.map_cons, List.mem_cons, hnone, hgranted, Option.some.injEq, reduceCtorEq, false_or]
    · next hstands =>
      have hrest : ∃ e ∈ es, e.status = .waitingLane := by
        obtain ⟨g, hg, hwaits⟩ := h
        rcases List.mem_cons.mp hg with rfl | hg
        · exact absurd hwaits hstands
        · exact ⟨g, hg, hwaits⟩
      rw [List.map_cons, List.mem_cons, mem_laneOf_grantOldest mark m es hrest, List.map_cons, List.mem_cons]
      tauto

theorem lanesOk_granted {copy : KeyCopy} {clp : BitVec 16} (mark : Bool) (hidle : s.lane l = .idle)
    (hwaits : ∃ e ∈ (s.port p).sequence, e.status = .waitingLane) (htest : s.partState ≠ .testing) (hs : LanesOk s) :
    LanesOk ((s.updPort p fun x => { x with sequence := grantOldest l mark x.sequence }).setLane l
      (.busy (.transform p copy clp))) := by
  obtain ⟨hbusy, hcount, -⟩ := lanesOk_iff.mp hs
  have hfree (q : PortNum) : ¬transformsFor (s.lane l) q := not_transformsFor (by rw [hidle]; rfl) q
  refine lanesOk_iff.mpr ⟨fun m q => ?_, ?_, fun h => absurd h htest⟩
  · rw [State.lane_setLane]
    show _ ↔ some m ∈ (((s.updPort p _).port q).sequence).map laneOf
    rw [State.port_updPort]
    by_cases hpq : p = q
    · subst hpq
      rw [if_pos rfl, mem_laneOf_grantOldest mark m _ hwaits]
      split
      · next hlm => exact iff_of_true ⟨copy, clp, rfl⟩ (.inl hlm.symm)
      · next hlm =>
        rw [State.lane_updPort, hbusy m p]
        exact ⟨.inr, fun h => h.resolve_left (Ne.symm hlm)⟩
    · rw [if_neg hpq, ← hbusy m q]
      split
      · next hlm =>
        subst hlm
        refine iff_of_false ?_ (hfree q)
        rintro ⟨_, _, h⟩
        exact hpq (by simp at h; exact h.1)
      · rfl
  · refine (expandCount_setLane_le l _ _).trans ?_
    exact hcount

/-- Lane `l` ends its TRANSFORM for a port, and no entry of the port is in it any more (R94). -/
theorem lanesOk_ended {copy : KeyCopy} {clp : BitVec 16} (hlane : s.lane l = .busy (.transform p copy clp)) (hs : LanesOk s)
    (hshape : ∀ m, laneShape (t.lane m) = laneShape ((freeLane l s).lane m)) (hstate : t.partState = s.partState)
    (hother : ∀ q, p ≠ q → t.port q = s.port q)
    (hport : ∀ m, some m ∈ (t.port p).sequence.map laneOf ↔ m ≠ l ∧ some m ∈ (s.port p).sequence.map laneOf) : LanesOk t := by
  obtain ⟨hbusy, hcount, hidle⟩ := lanesOk_iff.mp hs
  have hfreed (m : LaneNum) : (freeLane l s).lane m = if l = m then .idle else s.lane m := State.lane_setLane ..
  refine lanesOk_iff.mpr ⟨fun m q => ?_, ?_, fun htest m => ?_⟩
  · rw [transformsFor_iff_of_shape (hshape m), hfreed]
    by_cases hpq : p = q
    · subst hpq
      rw [hport, ← hbusy m p]
      split
      · next hlm => exact iff_of_false (not_transformsFor rfl p) fun h => h.1 hlm.symm
      · next hlm => exact ⟨fun h => ⟨Ne.symm hlm, h⟩, fun h => h.2⟩
    · rw [hother q hpq, ← hbusy m q]
      split
      · next hlm =>
        subst hlm
        refine iff_of_false (not_transformsFor rfl q) ?_
        rintro ⟨_, _, h⟩
        rw [hlane] at h
        exact hpq (by simp at h; exact h.1)
      · rfl
  · rw [expandCount_congr hshape]
    exact (expandCount_setLane_le l .idle s).trans hcount
  · rw [busy_iff_of_shape (hshape m), hfreed]
    split
    · simp
    · exact hidle (hstate ▸ htest) m

theorem mem_laneOf_handed (l m : LaneNum) (inhibited : Bool) (frame : Bytes) (es : List Entry) :
    some m ∈ (es.map (Entry.handed l inhibited frame)).map laneOf ↔ m ≠ l ∧ some m ∈ es.map laneOf := by
  simp only [List.map_map, List.mem_map, Function.comp_apply, laneOf_handed]
  constructor
  · rintro ⟨e, he, h⟩
    split at h
    · cases h
    · next hne => exact ⟨fun hm => hne (hm ▸ h), e, he, h⟩
  · rintro ⟨hne, e, he, h⟩
    exact ⟨e, he, by rw [if_neg fun hl => hne (Option.some.inj (h.symm.trans hl)), h]⟩

theorem mem_laneOf_spoiled (l m : LaneNum) (es : List Entry) :
    some m ∈ (es.filter fun e => !(e.status == .inLane l)).map laneOf ↔ m ≠ l ∧ some m ∈ es.map laneOf := by
  simp only [mem_laneOf_iff, List.mem_filter, Bool.not_eq_true', beq_eq_false_iff_ne]
  constructor
  · rintro ⟨e, ⟨he, hne⟩, h⟩
    exact ⟨fun hm => hne (hm ▸ h), e, he, h⟩
  · rintro ⟨hne, e, he, h⟩
    exact ⟨e, ⟨he, fun hl => hne (by simpa [h] using hl)⟩, h⟩

theorem Move.lanesOk (hoff : HeldOff s₀) (hlanes : LanesOk s₀) (h : Move L s₀ s t) (hs : LanesOk s) : LanesOk t := by
  cases h with
  | free hfree =>
    obtain ⟨_, _, _, _, _, _, _, _, _, _, _, _, _, _, _, _, rfl⟩ := hfree
    exact hs
  | event => exact lanesOk_of_shape hs (fun _ => by simp) (by simp) fun _ _ => by simp
  | ports v hv =>
    refine lanesOk_of_shape hs (fun _ => rfl) id fun l p => ?_
    rw [show ((State.port { s with ports := v } p).sequence) = (s.port p).sequence from (hv p).sequence]
  | lanes v hv => exact lanesOk_of_shape hs hv id fun _ _ => Iff.rfl
  | lane l x hx => exact lanesOk_setLane hoff hlanes hx hs
  | tested x _ hx => exact lanesOk_of_shape hs (fun _ => rfl) (fun h => absurd h hx) fun _ _ => Iff.rfl
  | passes p frame => exact lanesOk_updPort hs fun l => by simp [laneOf]
  | numbers p a k body frame f =>
    exact lanesOk_updPort (s := s.updAssoc a f) (f := fun x => { x with sequence := x.sequence ++ [_] }) hs
      fun l => by simp [laneOf]
  | remarks p seq _ hlane => exact lanesOk_updPort hs fun l => by rw [hlane]
  | removes p test c htest => exact lanesOk_removeEntries htest p c hs
  | drops p hhead => exact lanesOk_dropHead hhead hs
  | grants l p mark copy clp hidle hwaits _ htested => exact lanesOk_granted mark hidle hwaits (htested hoff hlanes) hs
  | hands l p copy clp frame hlane =>
    refine lanesOk_ended hlane hs (fun _ => rfl) rfl (fun q hpq => State.port_updPort_ne _ _ hpq) fun m => ?_
    rw [handFrame, State.port_updPort_self]
    exact mem_laneOf_handed ..
  | spoils l p copy clp c hlane =>
    refine lanesOk_ended hlane hs (fun m => laneShape_removeEntries ..) (partState_portFrame (removeEntries_portFrame ..))
      (fun q hpq => by rw [port_removeEntries, if_neg hpq]; rfl) fun m => ?_
    rw [port_removeEntries, if_pos rfl]
    exact mem_laneOf_spoiled ..
  | _ => exact hs

/-! ## Every step keeps the counts and the lanes (O59) -/

theorem row_port_reset (h : s.ports = Vector.replicate 4 .reset) (p : PortNum) : s.port p = .reset := by
  rw [State.port, h, row_replicate]

theorem inFlightOk_reset (hports : s.ports = Vector.replicate 4 .reset) (hslots : s.slots = Vector.replicate 128 .empty) :
    InFlightOk s := by
  refine inFlightOk_iff.mpr fun k => ?_
  have hnone : entriesAgainst s k = 0 := by
    simp [entriesAgainst, row_port_reset hports, Port.reset]
  rw [State.slot, hslots, row_replicate, hnone]
  exact ⟨rfl, fun _ => rfl, fun h => by simp [Slot.empty] at h⟩

theorem lanesOk_reset (hports : s.ports = Vector.replicate 4 .reset) (hidle : ∀ l op, s.lane l ≠ .busy op) : LanesOk s := by
  refine lanesOk_iff.mpr ⟨fun l p => ?_, ?_, fun _ l ⟨op, h⟩ => hidle l op h⟩
  · rw [row_port_reset hports]
    exact iff_of_false (fun ⟨_, _, h⟩ => hidle _ _ h) (by simp [Port.reset])
  · have hnone : ∀ l ∈ allLanes, ¬(s.lane l).isExpand = true := fun l _ => by
      cases h : s.lane l with
      | busy op => exact absurd h (hidle l op)
      | idle => simp [Lane.isExpand]
      | outOfService => simp [Lane.isExpand]
    rw [expandCount, List.filter_eq_nil_iff.mpr hnone]
    exact Nat.zero_le _

theorem softReset_not_busy (x : Lane) (op : LaneOp) : x.softReset ≠ .busy op := by
  unfold Lane.softReset
  split <;> simp

/-- Settles O59: each elementary change inside a step from a coherent state keeps counts and lanes in step with the sequences. -/
theorem everyStepKeepsLanesAndCounts : Obligations.EveryStepKeepsLanesAndCounts := fun _ _ hcoherent hoff hcounts hlanes h =>
  step_keeps_of_moves (P := fun s => InFlightOk s ∧ LanesOk s)
    (Q := fun s => Coherent s ∧ HeldOff s ∧ InFlightOk s ∧ LanesOk s) (fun _ _ => id)
    (fun _ _ hs hm => by
      obtain ⟨hcoherent, hoff, hcounts, hlanes⟩ := hs
      exact ⟨hm.keeps (fun _ _ => Move.inFlightOk hcoherent) hcounts, hm.keeps (fun _ _ => Move.lanesOk hoff hlanes) hlanes⟩)
    (fun _ _ _ => ⟨hardBase_coherent .., heldOff_reset rfl, inFlightOk_reset rfl rfl,
      lanesOk_reset rfl fun l op => by simp [hardBase, State.reset, State.lane]⟩)
    (fun _ _ => ⟨softBase_coherent _, heldOff_reset rfl, inFlightOk_reset rfl rfl,
      lanesOk_reset rfl fun l op => by simp [softBase, State.lane, softReset_not_busy]⟩)
    ⟨hcoherent, hoff, hcounts, hlanes⟩ h

end Sys2Proof.Proofs
end

section
/-! SUPPORT. Packet numbers: no elementary change puts a number twice under one load of a slot (R57, O56). -/

/-! One theorem is checked after another, as in the tests, which bounds the threads that the whole text takes. -/

set_option Elab.async false

namespace Sys2Proof.Proofs

open Sys2Proof Sys2Proof.Machine

variable {L : Prop} {s₀ s t : State} {a : Anum} {k : SlotNum} {p q : PortNum}

/-! ## What an entry is recorded as -/

/-- The slot that a body is recorded against (R93). -/
def bodySlot (b : EntryBody) : Option SlotNum := Entry.slot? ⟨b, [], .done, false, false⟩

/-- The packet number that a body carries (R93). -/
def bodyPn (b : EntryBody) : Option Nat := Entry.pn? ⟨b, [], .done, false, false⟩

/-- The bodies of a port's transform sequence, in their order. -/
def bodies (s : State) (p : PortNum) : List EntryBody := (s.port p).sequence.map Entry.body

/-- Two bodies under one slot carry rising numbers. -/
def Rising (b c : EntryBody) : Prop :=
  ∀ k m n, bodySlot b = some k → bodySlot c = some k → bodyPn b = some m → bodyPn c = some n → m < n

/-- A body carries a number that is in range, and below the next of the association whose current slot it is under, whose
port it stands on. -/
structure Fresh (s : State) (p : PortNum) (b : EntryBody) : Prop where
  range : ∀ n, bodyPn b = some n → 1 ≤ n ∧ n ≤ Config.pnMax
  below : ∀ a k n, (s.assoc a).current = some k → bodySlot b = some k → bodyPn b = some n →
    n < (s.assoc a).nextPn ∧ (s.assoc a).port = p

theorem numbersOk_iff : NumbersOk s ↔ ∀ p, (bodies s p).Pairwise Rising ∧ ∀ b ∈ bodies s p, Fresh s p b := by
  simp only [bodies, List.pairwise_map, List.forall_mem_map]
  exact ⟨fun ⟨hrising, hrange, hbelow⟩ p => ⟨hrising p, fun e he => ⟨hrange p e he, hbelow p e he⟩⟩,
    fun h => ⟨fun p => (h p).1, fun p e he => ((h p).2 e he).range, fun p e he => ((h p).2 e he).below⟩⟩

/-- Fewer entries, and associations that keep their current slots at most, with their ports and numbers no lower. -/
theorem numbersOk_of_less (hs : NumbersOk s) (hbodies : ∀ p, (bodies t p).Sublist (bodies s p))
    (hassocs : ∀ a k, (t.assoc a).current = some k → (s.assoc a).current = some k
      ∧ (s.assoc a).nextPn ≤ (t.assoc a).nextPn ∧ (t.assoc a).port = (s.assoc a).port) : NumbersOk t := by
  refine numbersOk_iff.mpr fun p => ?_
  obtain ⟨hrising, hfresh⟩ := numbersOk_iff.mp hs p
  refine ⟨hrising.sublist (hbodies p), fun b hb => ?_⟩
  have hold := hfresh b ((hbodies p).subset hb)
  refine ⟨hold.range, fun a k n hcurrent hk hn => ?_⟩
  obtain ⟨hcurrent', hnumber, hport⟩ := hassocs a k hcurrent
  obtain ⟨hbelow, hplace⟩ := hold.below a k n hcurrent' hk hn
  exact ⟨hbelow.trans_le hnumber, hport.trans hplace⟩

theorem numbersOk_of_bodies (hs : NumbersOk s) (hassocs : t.assocs = s.assocs)
    (hbodies : ∀ p, (bodies t p).Sublist (bodies s p)) : NumbersOk t := by
  refine numbersOk_of_less hs hbodies fun a k h => ?_
  have hsame : t.assoc a = s.assoc a := by rw [State.assoc, hassocs, State.assoc]
  rw [hsame] at h ⊢
  exact ⟨h, le_rfl, rfl⟩

theorem sublist_of_eq {α : Type} {xs ys : List α} (h : xs = ys) : xs.Sublist ys := h ▸ List.Sublist.refl _

theorem bodies_updPort {f : Port → Port} (h : ((f (s.port p)).sequence.map Entry.body).Sublist (bodies s p)) (q : PortNum) :
    (bodies (s.updPort p f) q).Sublist (bodies s q) := by
  unfold bodies
  rw [State.port_updPort]
  split
  · next hpq => exact hpq ▸ h
  · exact List.Sublist.refl _

theorem bodies_removeEntries (p q : PortNum) (test : Entry → Bool) (c : PortCounter) (s : State) :
    (bodies (removeEntries p test c s) q).Sublist (bodies s q) := by
  unfold bodies
  rw [port_removeEntries]
  split
  · exact List.filter_sublist.map _
  · exact List.Sublist.refl _

theorem bodies_dropHead (p q : PortNum) (s : State) : (bodies (dropHead p s) q).Sublist (bodies s q) := by
  unfold bodies
  rw [port_dropHead]
  split
  · exact (List.tail_sublist _).map _
  · exact List.Sublist.refl _

/-! ## Bodies that join -/

/-- A body that is fresh, and above every body under its slot, may join. -/
theorem numbersOk_joined {body : EntryBody} (hs : NumbersOk s) (hjoined : bodies t p = bodies s p ++ [body])
    (hother : ∀ q, q ≠ p → bodies t q = bodies s q) (hold : ∀ q b, Fresh s q b → Fresh t q b) (hnew : Fresh t p body)
    (hrising : ∀ b ∈ bodies s p, Rising b body) : NumbersOk t := by
  refine numbersOk_iff.mpr fun q => ?_
  obtain ⟨hwas, hfresh⟩ := numbersOk_iff.mp hs q
  by_cases hq : q = p
  · subst hq
    rw [hjoined]
    refine ⟨List.pairwise_append.mpr ⟨hwas, List.pairwise_singleton .., fun b hb c hc => ?_⟩, fun b hb => ?_⟩
    · rw [List.mem_singleton.mp hc]
      exact hrising b hb
    · rcases List.mem_append.mp hb with hb | hb
      · exact hold q b (hfresh b hb)
      · rw [List.mem_singleton.mp hb]
        exact hnew
  · rw [hother q hq]
    exact ⟨hwas, fun b hb => hold q b (hfresh b hb)⟩

theorem bodies_joinSequence_self (p : PortNum) (body : EntryBody) (frame : Bytes) (s : State) :
    bodies (joinSequence p body frame s) p = bodies s p ++ [body] := by
  simp [bodies, joinSequence]

theorem bodies_joinSequence_ne {p q : PortNum} (h : q ≠ p) (body : EntryBody) (frame : Bytes) (s : State) :
    bodies (joinSequence p body frame s) q = bodies s q := by
  rw [bodies, joinSequence, State.port_updPort_ne _ _ h.symm, bodies]

theorem numbersOk_passes (p : PortNum) (frame : Bytes) (hs : NumbersOk s) : NumbersOk (joinSequence p .pass frame s) := by
  refine numbersOk_joined hs (bodies_joinSequence_self ..) (fun q hq => bodies_joinSequence_ne hq ..) (fun q b h => ⟨h.range, h.below⟩)
    ⟨fun n h => (by cases h), fun a k n _ h => (by cases h)⟩ fun b _ k m n _ h => (by cases h)

theorem numbersOk_numbered {body : EntryBody} {frame : Bytes} {f : Assoc → Assoc} (h₀ : Coherent s₀)
    (hf : TakesNumber s₀ s p a k body (f (s.assoc a))) (hs : NumbersOk s) :
    NumbersOk (recordAgainst k (joinSequence p body frame (s.updAssoc a f))) := by
  obtain ⟨hcurrent, hnext, hnumber, -, -, hport⟩ := hf.keeps
  obtain ⟨hslot, hpn⟩ : bodySlot body = some k ∧ bodyPn body = some (s.assoc a).nextPn := hf.body [] .done false false
  have hassoc (b : Anum) : (recordAgainst k (joinSequence p body frame (s.updAssoc a f))).assoc b
      = if a = b then f (s.assoc a) else s.assoc b := State.assoc_updAssoc ..
  refine numbersOk_joined hs (body := body) (bodies_joinSequence_self ..) (fun q hq => bodies_joinSequence_ne hq ..) ?_ ?_ ?_
  · refine fun q b hfresh => ⟨hfresh.range, fun c j n hc hj hn => ?_⟩
    rw [hassoc] at hc ⊢
    split at hc
    · next hac =>
      subst hac
      cases hcurrent.symm.trans hc
      obtain ⟨hbelow, hplace⟩ := hfresh.below a k n hf.current hj hn
      rw [if_pos rfl, hnumber, hport]
      exact ⟨by omega, hplace⟩
    · next hac =>
      rw [if_neg hac]
      exact hfresh.below c j n hc hj hn
  · refine ⟨fun n hn => ?_, fun c j n hc hj hn => ?_⟩
    · cases hpn.symm.trans hn
      exact hf.range h₀
    · cases hslot.symm.trans hj
      cases hpn.symm.trans hn
      rw [hassoc] at hc ⊢
      by_cases hac : a = c
      · rw [if_pos hac, hnumber, hport]
        exact ⟨Nat.lt_succ_self _, hf.port h₀⟩
      · rw [if_neg hac] at hc
        exact absurd (hf.alone h₀ c hc).symm hac
  · intro b hb j m n hbj hj hm hn
    cases hslot.symm.trans hj
    cases hpn.symm.trans hn
    exact (((numbersOk_iff.mp hs p).2 b hb).below a k m hf.current hbj hm).1

/-- No entry is recorded against a slot in which none counts (R64). -/
theorem bodySlot_ne_of_none (h : entriesAgainst s k = 0) (p : PortNum) : ∀ b ∈ bodies s p, bodySlot b ≠ some k := by
  intro b hb hk
  obtain ⟨e, he, rfl⟩ := List.mem_map.mp hb
  have hzero : against k (s.port p).sequence = 0 := by
    rw [entriesAgainst_eq] at h
    exact (List.sum_eq_zero_iff.mp h) _ (List.mem_map.mpr ⟨p, by fin_cases p <;> decide, rfl⟩)
  have hother : ¬e.slot? = some k := by simpa using List.countP_eq_zero.mp hzero e he
  exact hother hk

theorem numbersOk_serves {f : Assoc → Assoc} (h₀ : Coherent s₀) (hf : EntersService s₀ s a k (f (s.assoc a)))
    (hcounts : InFlightOk s) (hs : NumbersOk s) : NumbersOk (s.updAssoc a f) := by
  obtain ⟨hready, -⟩ := hf.fresh h₀
  have hk := inFlightOk_iff.mp hcounts k
  have hnone := bodySlot_ne_of_none (hk.count.symm.trans (hk.uncounted (.inr (.inr hready))))
  refine numbersOk_iff.mpr fun p => ?_
  obtain ⟨hrising, hfresh⟩ := numbersOk_iff.mp hs p
  refine ⟨hrising, fun b hb => ⟨(hfresh b hb).range, fun c j n hc hj hn => ?_⟩⟩
  rw [State.assoc_updAssoc] at hc ⊢
  by_cases hac : a = c
  · rw [if_pos hac, hf.current] at hc
    cases hc
    exact absurd hj (hnone p b hb)
  · rw [if_neg hac] at hc ⊢
    exact (hfresh b hb).below c j n hc hj hn

theorem Move.numbersOk (h₀ : Coherent s₀) (h : Move L s₀ s t) (hcounts : InFlightOk s) (hs : NumbersOk s) : NumbersOk t := by
  cases h with
  | free hfree =>
    obtain ⟨_, _, _, _, _, _, _, _, _, _, _, _, _, _, _, _, rfl⟩ := hfree
    exact hs
  | event => exact numbersOk_of_bodies hs (by simp) fun p => by simp [bodies]
  | ports v hv =>
    refine numbersOk_of_bodies hs rfl fun p => sublist_of_eq ?_
    exact congrArg (List.map Entry.body) (hv p).sequence
  | assocs v hv =>
    refine numbersOk_of_less hs (fun _ => List.Sublist.refl _) fun a k h => ?_
    rcases (hv a).current h₀ with hnone | ⟨hcurrent, hnumber, -, -, hport⟩
    · rw [show State.assoc { s with assocs := v } a = row v a from rfl, hnone] at h
      cases h
    · exact ⟨hcurrent ▸ h, le_of_eq hnumber, hport⟩
  | serves a k f hf => exact numbersOk_serves h₀ hf hcounts hs
  | loads a k =>
    refine numbersOk_of_less hs (fun _ => List.Sublist.refl _) fun b j h => ?_
    rw [State.assoc_updAssoc] at h ⊢
    split at h
    · next hab =>
      subst hab
      rw [if_pos rfl]
      exact ⟨h, le_rfl, rfl⟩
    · next hab =>
      rw [if_neg hab]
      exact ⟨h, le_rfl, rfl⟩
  | passes p frame => exact numbersOk_passes p frame hs
  | numbers p a k body frame f hf => exact numbersOk_numbered h₀ hf hs
  | remarks p seq hbody => exact numbersOk_of_bodies hs rfl (bodies_updPort (sublist_of_eq hbody))
  | removes p test c =>
    exact numbersOk_of_bodies hs (portFrame_rest (removeEntries_portFrame ..)).2.2.2.2.2.2.2 fun q => bodies_removeEntries ..
  | drops p =>
    exact numbersOk_of_bodies hs (portFrame_rest (dropHead_portFrame ..)).2.2.2.2.2.2.2 fun q => bodies_dropHead ..
  | grants l p mark copy clp =>
    exact numbersOk_of_bodies hs rfl (bodies_updPort (sublist_of_eq (body_grantOldest ..)))
  | hands l p copy clp frame =>
    exact numbersOk_of_bodies hs rfl (bodies_updPort (s := freeLane l s) (sublist_of_eq (by simp [body_handed, bodies])))
  | spoils l p copy clp c =>
    exact numbersOk_of_bodies hs (portFrame_rest (removeEntries_portFrame (s := freeLane l s) ..)).2.2.2.2.2.2.2
      fun q => bodies_removeEntries (s := freeLane l s) ..
  | _ => exact hs

/-! ## While a slot stays current its numbers rise (R57) -/

/-- From the state in which a step began: a current slot is no next slot, and while it stays current next_pn has not fallen and
the marks stand. -/
def Climbs (s₀ s : State) : Prop :=
  ∀ a k, (s₀.assoc a).current = some k → (s.assoc a).next ≠ some k
    ∧ ((s.assoc a).current = some k → (s₀.assoc a).nextPn ≤ (s.assoc a).nextPn
      ∧ (s.assoc a).switchMark = (s₀.assoc a).switchMark ∧ (s.assoc a).stopMark = (s₀.assoc a).stopMark)

theorem climbs_refl (h₀ : Coherent s) : Climbs s s := fun _ _ h => ⟨next_ne_of_current h₀ h, fun _ => ⟨le_rfl, rfl, rfl⟩⟩

theorem climbs_of_assocs (hs : Climbs s₀ s) (h : t.assocs = s.assocs) : Climbs s₀ t := by
  unfold Climbs State.assoc at *
  rwa [h]

/-- A change of one association that keeps the climb of that one. -/
theorem climbs_updAssoc {f : Assoc → Assoc} (hs : Climbs s₀ s) (h : ∀ k, (s₀.assoc a).current = some k →
    (f (s.assoc a)).next ≠ some k ∧ ((f (s.assoc a)).current = some k → (s.assoc a).current = some k
      ∧ (s.assoc a).nextPn ≤ (f (s.assoc a)).nextPn ∧ (f (s.assoc a)).switchMark = (s.assoc a).switchMark
      ∧ (f (s.assoc a)).stopMark = (s.assoc a).stopMark)) : Climbs s₀ (s.updAssoc a f) := by
  intro b k hb
  obtain ⟨hnext, hclimb⟩ := hs b k hb
  rw [State.assoc_updAssoc]
  by_cases hab : a = b
  · subst hab
    rw [if_pos rfl]
    obtain ⟨hnext', hkept⟩ := h k hb
    refine ⟨hnext', fun hcurrent => ?_⟩
    obtain ⟨hwas, hnumber, hswitch, hstop⟩ := hkept hcurrent
    obtain ⟨hrose, hswitch', hstop'⟩ := hclimb hwas
    exact ⟨hrose.trans hnumber, hswitch.trans hswitch', hstop.trans hstop'⟩
  · rw [if_neg hab]
    exact ⟨hnext, hclimb⟩

theorem Move.climbs (h₀ : Coherent s₀) (h : Move L s₀ s t) (hs : Climbs s₀ s) : Climbs s₀ t := by
  cases h with
  | free hfree =>
    obtain ⟨_, _, _, _, _, _, _, _, _, _, _, _, _, _, _, _, rfl⟩ := hfree
    exact hs
  | event => exact climbs_of_assocs hs (by simp)
  | assocs v hv =>
    intro a k ha
    obtain ⟨hnext, hclimb⟩ := hs a k ha
    refine ⟨?_, fun hcurrent => ?_⟩
    · show (row v a).next ≠ some k
      rcases (hv a).next with h | h <;> rw [h]
      · simp
      · exact hnext
    · rcases (hv a).current h₀ with hnone | ⟨hsame, hnumber, hswitch, hstop, -⟩
      · rw [show State.assoc { s with assocs := v } a = row v a from rfl, hnone] at hcurrent
        cases hcurrent
      · obtain ⟨hrose, hswitch', hstop'⟩ := hclimb (hsame ▸ hcurrent)
        exact ⟨hnumber ▸ hrose, hswitch.trans hswitch', hstop.trans hstop'⟩
  | serves a j f hf =>
    refine climbs_updAssoc hs fun k hk => ⟨by simp [hf.next], fun hcurrent => ?_⟩
    cases hf.current.symm.trans hcurrent
    exact absurd hf.wasNext (hs a j hk).1
  | loads a j hempty =>
    refine climbs_updAssoc hs fun k hk => ⟨fun hnext => ?_, fun hcurrent => ⟨hcurrent, le_rfl, rfl, rfl⟩⟩
    cases hnext
    rw [active_of_current h₀ hk] at hempty
    cases hempty
  | numbers p a j body frame f hf =>
    obtain ⟨hcurrent, hnext, hnumber, hswitch, hstop, -⟩ := hf.keeps
    refine climbs_of_assocs (s := s.updAssoc a f) (climbs_updAssoc hs fun k hk => ?_) rfl
    refine ⟨hnext ▸ (hs a k hk).1, fun hnow => ⟨hf.current.trans (hcurrent.symm.trans hnow), ?_, hswitch, hstop⟩⟩
    omega
  | removes p test c => exact climbs_of_assocs hs (portFrame_rest (removeEntries_portFrame ..)).2.2.2.2.2.2.2
  | drops p => exact climbs_of_assocs hs (portFrame_rest (dropHead_portFrame ..)).2.2.2.2.2.2.2
  | spoils l p copy clp c =>
    exact climbs_of_assocs hs (portFrame_rest (removeEntries_portFrame (s := freeLane l s) ..)).2.2.2.2.2.2.2
  | _ => exact hs

/-! ## Every step (O56) -/

theorem numbersOk_reset (hports : s.ports = Vector.replicate 4 .reset) : NumbersOk s := by
  refine numbersOk_iff.mpr fun p => ?_
  simp [bodies, row_port_reset hports, Port.reset]

theorem current_of_quiet (h : Quiet s t) (a : Anum) : (t.assoc a).current = (s.assoc a).current :=
  congrArg (fun v => v.record.current) (h.same a)

/-- What a chain from a coherent state with right in-flight counts keeps of the numbers. -/
theorem numbersOk_of_moves (h₀ : Coherent s) (hcounts : InFlightOk s) (hs : NumbersOk s) (h : Moves L s s t) : NumbersOk t :=
  (h.keeps (P := fun u => InFlightOk u ∧ NumbersOk u)
    (fun _ _ hm hu => ⟨hm.inFlightOk h₀ hu.1, hm.numbersOk h₀ hu.1 hu.2⟩) ⟨hcounts, hs⟩).2

/-- After a reset no association has a key in service. -/
theorem climbs_of_reset (hassocs : s.assocs = Vector.replicate 64 .reset) (hports : s.ports = Vector.replicate 4 .reset)
    (hslots : s.slots = Vector.replicate 128 .empty) : NumbersOk (endReset s) ∧ ∀ a, ((endReset s).assoc a).current = none := by
  refine ⟨numbersOk_of_moves (L := True) (coherent_of_reset hassocs hslots hports) (inFlightOk_reset hports hslots)
    (numbersOk_reset hports) (endReset_moves s), fun a => ?_⟩
  rw [current_of_quiet (endReset_quiet s), State.assoc, hassocs, row_replicate]
  rfl

/-- Settles O56: a number joins a sequence only as next_pn, which rises with it, and a slot becomes current only when no entry
counts against it. -/
theorem numbersAreNeverReused : Obligations.NumbersAreNeverReused := by
  intro s t hcoherent hcounts hnumbers h
  have hreset {u : State} (hu : NumbersOk u ∧ ∀ a, (u.assoc a).current = none) : NumbersOk u
      ∧ ∀ a k, (s.assoc a).current = some k → (u.assoc a).current = some k → (s.assoc a).nextPn ≤ (u.assoc a).nextPn
        ∧ (u.assoc a).switchMark = (s.assoc a).switchMark ∧ (u.assoc a).stopMark = (s.assoc a).stopMark :=
    ⟨hu.1, fun a k _ hk => by rw [hu.2 a] at hk; cases hk⟩
  refine step_induction (P := fun u => NumbersOk u ∧ ∀ a k, (s.assoc a).current = some k → (u.assoc a).current = some k →
      (s.assoc a).nextPn ≤ (u.assoc a).nextPn ∧ (u.assoc a).switchMark = (s.assoc a).switchMark
        ∧ (u.assoc a).stopMark = (s.assoc a).stopMark)
    (Q := fun u => Coherent u ∧ InFlightOk u ∧ NumbersOk u ∧ u.assocs = s.assocs) (fun _ _ => id)
    (fun u v hu hm => ?_) (fun pins straps u => hreset (climbs_of_reset (s := hardBase pins straps u) rfl rfl rfl))
    (fun u _ => hreset (climbs_of_reset (s := softBase u) rfl rfl rfl)) ⟨hcoherent, hcounts, hnumbers, rfl⟩ h
  obtain ⟨hcoherent', hcounts', hnumbers', hassocs⟩ := hu
  have hclimbs : Climbs u v := hm.keeps (fun _ _ => Move.climbs hcoherent') (climbs_refl hcoherent')
  refine ⟨numbersOk_of_moves hcoherent' hcounts' hnumbers' hm, fun a k hs hv => ?_⟩
  have hsame : u.assoc a = s.assoc a := by rw [State.assoc, hassocs, State.assoc]
  rw [← hsame] at hs ⊢
  exact (hclimbs a k hs).2 hv

end Sys2Proof.Proofs
end

section
/-! SUPPORT. Locked steering entries and the transport key stay, and no reply depends on key material (O60). -/

/-! One theorem is checked after another, as in the tests, which bounds the threads that the whole text takes. -/

set_option Elab.async false

namespace Sys2Proof.Proofs

open Sys2Proof Sys2Proof.Machine

variable {L : Prop} {s₀ s t : State} {a : Anum} {k : SlotNum} {p q : PortNum}

/-! ## Locked entries and the transport key (R25, R68) -/

/-- Every steering entry that is locked stays but for its hits. -/
def KeepsLocks (s t : State) : Prop := ∀ i, (s.entry i).locked = true →
  (t.entry i).locked = true ∧ { t.entry i with hits := 0 } = { s.entry i with hits := 0 }

theorem keepsLocks_of_steering (h : t.steering = s.steering) : KeepsLocks s t := fun i hi => by
  rw [State.entry, h]
  exact ⟨hi, rfl⟩

theorem KeepsLocks.trans {u : State} (h : KeepsLocks s t) (g : KeepsLocks t u) : KeepsLocks s u := fun i hi => by
  obtain ⟨hlocked, hsame⟩ := h i hi
  obtain ⟨hlocked', hsame'⟩ := g i hlocked
  exact ⟨hlocked', hsame'.trans hsame⟩

theorem Move.keepsLocks (h : Move L s₀ s t) : KeepsLocks s t := by
  cases h with
  | free hfree =>
    obtain ⟨_, _, _, _, _, _, _, _, _, _, _, _, _, _, _, _, rfl⟩ := hfree
    exact keepsLocks_of_steering rfl
  | event => exact keepsLocks_of_steering (by simp)
  | entries v hv => exact fun i hi => (hv i).locked hi
  | removes => exact keepsLocks_of_steering (portFrame_rest (removeEntries_portFrame ..)).2.2.2.2.2.1
  | drops => exact keepsLocks_of_steering (portFrame_rest (dropHead_portFrame ..)).2.2.2.2.2.1
  | spoils l => exact keepsLocks_of_steering (portFrame_rest (removeEntries_portFrame (s := freeLane l s) ..)).2.2.2.2.2.1
  | _ => exact keepsLocks_of_steering rfl

theorem Moves.keepsLocks (h : Moves L s₀ s t) : KeepsLocks s t :=
  h.keeps (P := KeepsLocks s) (fun _ _ hm hu => hu.trans hm.keepsLocks) (keepsLocks_of_steering rfl)

theorem softBase_keepsLocks (s : State) : KeepsLocks s (softBase s) := fun i hi => by
  have hentry : (softBase s).entry i = (s.entry i).softReset := row_mapRows ..
  rw [hentry, SteerEntry.softReset, if_pos hi]
  exact ⟨hi, rfl⟩

/-- A transport key that is present stays. -/
def KeepsKey (s t : State) : Prop := s.transportKey ≠ none → t.transportKey = s.transportKey

theorem keepsKey_of_portFrame (h : PortFrame s t) : KeepsKey s t := fun _ => (portFrame_rest h).2.2.2.2.2.2.1

theorem Move.keepsKey (h : Move L s₀ s t) : KeepsKey s t := by
  cases h with
  | free hfree =>
    obtain ⟨_, _, _, _, _, _, _, _, _, _, _, _, _, _, _, _, rfl⟩ := hfree
    exact fun _ => rfl
  | event => exact fun _ => by simp
  | transport key hnone => exact fun hsome => absurd hnone hsome
  | removes => exact keepsKey_of_portFrame (removeEntries_portFrame ..)
  | drops => exact keepsKey_of_portFrame (dropHead_portFrame ..)
  | spoils l => exact keepsKey_of_portFrame (removeEntries_portFrame (s := freeLane l s) ..)
  | _ => exact fun _ => rfl

theorem Moves.keepsKey (h : Moves L s₀ s t) : KeepsKey s t :=
  h.keeps (P := KeepsKey s) (fun _ _ hm hu hs => (hm.keepsKey (by rwa [hu hs])).trans (hu hs)) fun _ => rfl

theorem exec_keepsLocks {c : Instr} (h : exec c s = .next t) (hpower : ∀ pins, c ≠ .powerOn pins)
    (hrelease : ∀ r x, c ≠ .pinResetRelease r x) : KeepsLocks s t ∧ (c ≠ .replySent → KeepsKey s t) := by
  by_cases hends : EndsReset c s
  · obtain ⟨pins, rfl⟩ | ⟨rate, clear, rfl⟩ | ⟨rfl, r, hr, hreset⟩ := id hends
    · exact absurd rfl (hpower pins)
    · exact absurd rfl (hrelease rate clear)
    · refine ⟨?_, fun hc => absurd rfl hc⟩
      simp only [exec, execReplySent, unlessHeld, hr, hreset, if_true] at h
      split at h <;> cases h
      · exact keepsLocks_of_steering rfl
      · exact (softBase_keepsLocks s).trans (endReset_moves (L := True) (s₀ := s) _).keepsLocks
  · have hleads := exec_leads c s hends
    rw [h] at hleads
    exact ⟨Moves.keepsLocks hleads, fun _ => Moves.keepsKey hleads⟩

/-! ## What is owed on the management line (R166) -/

/-- What is owed on the management line stands. -/
def SameOwed (s t : State) : Prop := t.replyOwed = s.replyOwed ∧ t.busyOwed = s.busyOwed

theorem sameOwed_of_portFrame (h : PortFrame s t) : SameOwed s t := by
  obtain ⟨_, _, _, _, _, _, rfl⟩ := h
  exact ⟨rfl, rfl⟩

theorem Move.sameOwed (h : Move False s₀ s t) : SameOwed s t := by
  cases h with
  | free hfree hline => exact hline.resolve_left id
  | event => exact sameOwed_of_portFrame (raiseEvent_portFrame ..)
  | removes => exact sameOwed_of_portFrame (removeEntries_portFrame ..)
  | drops => exact sameOwed_of_portFrame (dropHead_portFrame ..)
  | spoils l => exact sameOwed_of_portFrame (removeEntries_portFrame (s := freeLane l s) ..)
  | _ => exact ⟨rfl, rfl⟩

theorem Moves.sameOwed (h : Moves False s₀ s t) : SameOwed s t :=
  h.keeps (P := SameOwed s) (fun _ _ hm hu => ⟨hm.sameOwed.1.trans hu.1, hm.sameOwed.2.trans hu.2⟩) ⟨rfl, rfl⟩

/-! ## What a request answers, without its state -/

/-- The status and the fields that a request answers. -/
def answer (r : Served) : Status × Bytes := (r.status, r.fields)

/-- The state with the slots of another. -/
def withSlots (v : Vector Slot 128) (s : State) : State := { s with slots := v }

/-- Two slots that differ in their key material alone (R64). -/
structure SameButKey (x y : Slot) : Prop where
  state : x.state = y.state
  owner : x.owner = y.owner
  epoch : x.epoch = y.epoch
  size : x.size = y.size
  checkValue : x.checkValue = y.checkValue
  inFlight : x.inFlight = y.inFlight

theorem answer_done (fields : Bytes) (s t : State) : answer (done fields s) = answer (done fields t) := rfl

theorem answer_refuse (status : Status) (s t : State) : answer (refuse status s) = answer (refuse status t) := rfl

theorem answer_ite {c d : Prop} [Decidable c] [Decidable d] {x y x' y' : Served} (hcd : c ↔ d) (hx : answer x = answer x')
    (hy : answer y = answer y') : answer (if c then x else y) = answer (if d then x' else y') := by
  by_cases hd : d
  · rw [if_pos hd, if_pos (hcd.mpr hd), hx]
  · rw [if_neg hd, if_neg (mt hcd.mp hd), hy]

section WithSlots

variable {v : Vector Slot 128} {s : State}

@[simp] theorem port_withSlots (p : PortNum) : (withSlots v s).port p = s.port p := rfl
@[simp] theorem assoc_withSlots (a : Anum) : (withSlots v s).assoc a = s.assoc a := rfl
@[simp] theorem entry_withSlots (i : EntryIdx) : (withSlots v s).entry i = s.entry i := rfl
@[simp] theorem hwFaults_withSlots : (withSlots v s).hwFaults = s.hwFaults := rfl
@[simp] theorem transportKey_withSlots : (withSlots v s).transportKey = s.transportKey := rfl

theorem answer_portSet (b : PortSetBody) : answer (servePortSet b (withSlots v s)) = answer (servePortSet b s) := by
  have hsettings (p : PortNum) : settingsOf (withSlots v s) p b = settingsOf s p b := rfl
  simp only [servePortSet, hsettings]
  split
  · rfl
  · refine answer_ite Iff.rfl rfl ?_
    split <;> rfl

theorem answer_portMode (port mode : Byte) : answer (servePortMode port mode (withSlots v s)) = answer (servePortMode port mode s) := by
  unfold servePortMode
  split
  · refine answer_ite Iff.rfl (answer_done ..) ?_
    split
    · exact answer_done ..
    · exact answer_ite Iff.rfl (answer_refuse ..) (answer_done ..)
  · rfl

theorem answer_portGet (port : Byte) : answer (servePortGet port (withSlots v s)) = answer (servePortGet port s) := by
  simp only [servePortGet, port_withSlots, hwFaults_withSlots]
  split <;> rfl

theorem answer_portFlow (b : PortFlowBody) : answer (servePortFlow b (withSlots v s)) = answer (servePortFlow b s) := by
  unfold servePortFlow
  split
  · rfl
  · refine answer_ite Iff.rfl rfl ?_
    split <;> rfl

theorem answer_portSwitch (port first last : Byte) :
    answer (servePortSwitch port first last (withSlots v s)) = answer (servePortSwitch port first last s) := by
  unfold servePortSwitch
  split
  · rfl
  · exact answer_ite Iff.rfl rfl (answer_ite Iff.rfl rfl rfl)

theorem answer_steerSet (b : SteerSetBody) : answer (serveSteerSet b (withSlots v s)) = answer (serveSteerSet b s) := by
  have hentry : steerEntryOf (withSlots v s) b = steerEntryOf s b := rfl
  simp only [serveSteerSet, hentry]
  split
  · rfl
  · refine answer_ite Iff.rfl rfl ?_
    split <;> rfl

theorem answer_steerGet (index : Byte) : answer (serveSteerGet index (withSlots v s)) = answer (serveSteerGet index s) := by
  simp only [serveSteerGet, entry_withSlots]
  split <;> rfl

theorem answer_steerLock (index : Byte) : answer (serveSteerLock index (withSlots v s)) = answer (serveSteerLock index s) := by
  unfold serveSteerLock
  split
  · rfl
  · exact answer_ite Iff.rfl rfl rfl

theorem answer_steerClear (index : Byte) : answer (serveSteerClear index (withSlots v s)) = answer (serveSteerClear index s) := by
  unfold serveSteerClear
  split
  · rfl
  · exact answer_ite Iff.rfl rfl rfl

theorem answer_assocSuspend (anum : Byte) :
    answer (serveAssocSuspend anum (withSlots v s)) = answer (serveAssocSuspend anum s) := by
  unfold serveAssocSuspend
  split
  · rfl
  · exact answer_ite Iff.rfl rfl rfl

theorem answer_assocResume (anum : Byte) : answer (serveAssocResume anum (withSlots v s)) = answer (serveAssocResume anum s) := by
  unfold serveAssocResume
  split
  · rfl
  · exact answer_ite Iff.rfl rfl rfl

theorem answer_assocClear (anum : Byte) : answer (serveAssocClear anum (withSlots v s)) = answer (serveAssocClear anum s) := by
  unfold serveAssocClear
  split
  · rfl
  · exact answer_ite Iff.rfl rfl rfl

theorem answer_assocGet (anum : Byte) : answer (serveAssocGet anum (withSlots v s)) = answer (serveAssocGet anum s) := by
  simp only [serveAssocGet, assoc_withSlots]
  split <;> rfl

theorem answer_testCorrupt (anum action : Byte) :
    answer (serveTestCorrupt anum action (withSlots v s)) = answer (serveTestCorrupt anum action s) := by
  simp only [serveTestCorrupt, assoc_withSlots]
  split
  · rfl
  · split
    · rfl
    · exact answer_ite Iff.rfl rfl rfl

theorem answer_transportKey (key : Bytes) :
    answer (serveTransportKey key (withSlots v s)) = answer (serveTransportKey key s) := by
  unfold serveTransportKey
  exact answer_ite Iff.rfl rfl (answer_ite Iff.rfl rfl rfl)

theorem answer_eventsFetch (count maskWrite : Byte) (mask : BitVec 32) :
    answer (serveEventsFetch count maskWrite mask (withSlots v s)) = answer (serveEventsFetch count maskWrite mask s) := by
  unfold serveEventsFetch
  split <;> rfl

theorem answer_countersRead (block first count clear : Byte) :
    answer (serveCountersRead block first count clear (withSlots v s)) = answer (serveCountersRead block first count clear s) := by
  have hsnapshot (b : CounterBlock) (f n : Nat) : counterSnapshot b f n (withSlots v s) = counterSnapshot b f n s := by
    cases b <;> rfl
  simp only [serveCountersRead, hsnapshot]
  split
  · rfl
  · exact answer_ite Iff.rfl rfl (answer_ite Iff.rfl rfl rfl)

/-! ### Requests that look at slots -/

variable (h : ∀ k, SameButKey (row v k) (s.slot k))

include h

theorem state_withSlots (k : SlotNum) : ((withSlots v s).slot k).state = (s.slot k).state := (h k).state

theorem owner_withSlots (k : SlotNum) : ((withSlots v s).slot k).owner = (s.slot k).owner := (h k).owner

theorem epoch_withSlots (k : SlotNum) : ((withSlots v s).slot k).epoch = (s.slot k).epoch := (h k).epoch

theorem inFlight_withSlots (k : SlotNum) : ((withSlots v s).slot k).inFlight = (s.slot k).inFlight := (h k).inFlight

theorem nextReady_withSlots (a : Anum) : (withSlots v s).nextReady a = s.nextReady a := by
  simp only [State.nextReady, assoc_withSlots, state_withSlots h]

theorem answer_assocSet (b : AssocSetBody) : answer (serveAssocSet b (withSlots v s)) = answer (serveAssocSet b s) := by
  have hepoch (a : Anum) : nextEpochOk (withSlots v s) a b.firstEpoch = nextEpochOk s a b.firstEpoch := by
    simp only [nextEpochOk, assoc_withSlots, epoch_withSlots h]
  simp only [serveAssocSet, assoc_withSlots, hepoch]
  split
  · rfl
  · refine answer_ite Iff.rfl rfl ?_
    split
    · rfl
    · exact answer_ite Iff.rfl rfl rfl

theorem answer_assocStart (anum : Byte) : answer (serveAssocStart anum (withSlots v s)) = answer (serveAssocStart anum s) := by
  simp only [serveAssocStart, assoc_withSlots, epoch_withSlots h, state_withSlots h]
  split
  · rfl
  · refine answer_ite Iff.rfl rfl ?_
    split
    · rfl
    · exact answer_ite Iff.rfl rfl rfl

/-- What SWITCH_NOW answers depends on the epoch of the next slot alone (R159). -/
theorem switchNowBytes_withSlots (hready : s.nextReady a = true) :
    switchNowBytes ((beginSwitch a (withSlots v s)).assoc a) = switchNowBytes ((beginSwitch a s).assoc a) := by
  cases hpolicy : (s.assoc a).confirmPolicy with
  | confirmed =>
    rw [beginSwitch_confirmed hpolicy, beginSwitch_confirmed (s := withSlots v s) hpolicy]
    rfl
  | unilateral =>
    obtain ⟨k, hk⟩ : ∃ k, (s.assoc a).next = some k := by
      cases hk : (s.assoc a).next with
      | none => simp [State.nextReady, hk] at hready
      | some k => exact ⟨k, rfl⟩
    have hnext (u : State) (hu : (u.assoc a).next = some k) : ((u.updAssoc a Assoc.unflagged).assoc a).next = some k := by
      simpa [Assoc.unflagged] using hu
    rw [beginSwitch_unilateral hpolicy, beginSwitch_unilateral (s := withSlots v s) hpolicy, assoc_cutOver_self (hnext s hk),
      assoc_cutOver_self (hnext (withSlots v s) hk)]
    simp only [State.assoc_updAssoc_self, State.slot_updAssoc, assoc_withSlots, epoch_withSlots h]

theorem answer_switchNow (anum : Byte) : answer (serveSwitchNow anum (withSlots v s)) = answer (serveSwitchNow anum s) := by
  have hblocked (a : Anum) : switchBlocked (withSlots v s) a = switchBlocked s a := rfl
  simp only [serveSwitchNow, assoc_withSlots, nextReady_withSlots h, hblocked]
  split
  · rfl
  · next a _ =>
    refine answer_ite Iff.rfl rfl (answer_ite Iff.rfl rfl ?_)
    by_cases hready : s.nextReady a = false
    · rw [if_pos hready, if_pos hready]
      rfl
    · rw [if_neg hready, if_neg hready]
      exact answer_ite Iff.rfl rfl (congrArg (Prod.mk Status.ok) (switchNowBytes_withSlots h (by simpa using hready)))

theorem answer_keyLoad (slot anum epoch : Byte) (blob : Bytes) :
    answer (serveKeyLoad slot anum epoch blob (withSlots v s)) = answer (serveKeyLoad slot anum epoch blob s) := by
  simp only [serveKeyLoad, serveLoad, transportKey_withSlots, assoc_withSlots, state_withSlots h]
  split
  · rfl
  · split
    · refine answer_ite Iff.rfl rfl (answer_ite Iff.rfl rfl (answer_ite Iff.rfl rfl (answer_ite Iff.rfl rfl
        (answer_ite Iff.rfl rfl ?_))))
      split <;> rfl
    · rfl

theorem answer_keyErase (slot : Byte) : answer (serveKeyErase slot (withSlots v s)) = answer (serveKeyErase slot s) := by
  have hexchange (k : SlotNum) : ownerInExchange (withSlots v s) k = ownerInExchange s k := by
    simp only [ownerInExchange, assoc_withSlots, owner_withSlots h]
  simp only [serveKeyErase, hexchange, state_withSlots h, inFlight_withSlots h]
  split
  · rfl
  · split
    · rfl
    · rfl
    · exact answer_ite Iff.rfl rfl rfl
    · rfl
    · rfl
    · exact answer_ite Iff.rfl rfl rfl

theorem answer_slotGet (slot : Byte) : answer (serveSlotGet slot (withSlots v s)) = answer (serveSlotGet slot s) := by
  have hbytes (k : SlotNum) : slotBytes (withSlots v s) k = slotBytes s k := by
    have hstatus : (withSlots v s).expansionStatus k = s.expansionStatus k := rfl
    obtain ⟨hstate, howner, hepoch, hsize, hcheck, hcount⟩ := h k
    have hslot : (withSlots v s).slot k = row v k := rfl
    simp only [slotBytes, hstatus, transportKey_withSlots, hslot, hstate, howner, hepoch, hsize, hcheck, hcount]
  simp only [serveSlotGet, hbytes]
  split <;> rfl

/-- No request answers key material (R64, R75). -/
theorem answer_serveCommand (i : Instr) : answer (serveCommand i (withSlots v s)) = answer (serveCommand i s) := by
  cases i
  case portSet => exact answer_portSet ..
  case portMode => exact answer_portMode ..
  case portGet => exact answer_portGet ..
  case portFlow => exact answer_portFlow ..
  case portSwitch => exact answer_portSwitch ..
  case steerSet => exact answer_steerSet ..
  case steerGet => exact answer_steerGet ..
  case steerLock => exact answer_steerLock ..
  case steerClear => exact answer_steerClear ..
  case assocSet => exact answer_assocSet h _
  case assocStart => exact answer_assocStart h _
  case assocSuspend => exact answer_assocSuspend ..
  case assocResume => exact answer_assocResume ..
  case assocClear => exact answer_assocClear ..
  case assocGet => exact answer_assocGet ..
  case testCorrupt => exact answer_testCorrupt ..
  case switchNow => exact answer_switchNow h _
  case transportKey => exact answer_transportKey ..
  case keyLoad => exact answer_keyLoad h ..
  case keyErase => exact answer_keyErase h _
  case slotGet => exact answer_slotGet h _
  case eventsFetch => exact answer_eventsFetch ..
  case countersRead => exact answer_countersRead ..
  all_goals rfl

theorem answer_takeRequest (kind : RequestKind) (n : Nat) (i : Instr) :
    answer (takeRequest kind n (serveCommand i) (withSlots v s)) = answer (takeRequest kind n (serveCommand i) s) := by
  have hstate : (withSlots v s).partState = s.partState := rfl
  simp only [takeRequest, hstate]
  split
  · rfl
  · split
    · rfl
    · exact answer_serveCommand h i

theorem answer_dealRecord (r : Record) : answer (dealRecord r (withSlots v s)) = answer (dealRecord r s) := by
  unfold dealRecord
  split
  · unfold takeRecord
    split
    · exact answer_takeRequest h ..
    · rfl
  · rfl

end WithSlots

/-! ## What is owed after a command (O60) -/

/-- What is owed on the management line. -/
def owed (s : State) : Option Reply × Option BusyMark := (s.replyOwed, s.busyOwed)

theorem owed_of_sameOwed (h : SameOwed s t) : owed t = owed s := Prod.ext h.1 h.2

theorem sameOwed_recordFault (kind : FaultKind) (tag : Option Byte) (s : State) : SameOwed s (recordFault kind tag s) := by
  obtain ⟨_, _, _, h⟩ := recordFault_frame kind tag s
  rw [h]
  exact ⟨rfl, rfl⟩

theorem owed_recordFault (kind : FaultKind) (tag : Option Byte) (h : owed s = owed t) :
    owed (recordFault kind tag s) = owed (recordFault kind tag t) :=
  (owed_of_sameOwed (sameOwed_recordFault ..)).trans (h.trans (owed_of_sameOwed (sameOwed_recordFault ..)).symm)

/-- What a record that arrives leaves owed depends on what is answered alone. -/
theorem owed_recordArrives {v : Vector Slot 128} {deal : State → Served} (kind tag : Byte)
    (hdeal : ∀ u, SameOwed u (deal u).state)
    (hanswer : ∀ u : State, u.slots = s.slots → answer (deal (withSlots v u)) = answer (deal u)) :
    owed (recordArrives kind tag deal (withSlots v s)) = owed (recordArrives kind tag deal s) := by
  have hline : (withSlots v s).lineState = s.lineState := rfl
  unfold recordArrives
  rw [hline]
  dsimp only
  split
  · have hsame := hanswer { s with requestCount := s.requestCount + 1, receiver := .hunt } rfl
    obtain ⟨hstatus, hfields⟩ := Prod.ext_iff.mp hsame
    have hbusy (u : State) : (oweReply kind tag (deal u)).busyOwed = u.busyOwed := (hdeal u).2
    refine Prod.ext ?_ ((hbusy (withSlots v { s with requestCount := s.requestCount + 1, receiver := .hunt })).trans
      (hbusy { s with requestCount := s.requestCount + 1, receiver := .hunt }).symm)
    exact congrArg₂ (fun status fields => some (makeReply kind tag status fields)) hstatus hfields
  · rfl
  · exact owed_recordFault _ _ rfl
  · exact owed_recordFault _ _ rfl

section Owed

variable {v : Vector Slot 128} (h : ∀ k, SameButKey (row v k) (s.slot k))

include h

theorem owed_completeRecord (r : Record) : owed (completeRecord r (withSlots v s)) = owed (completeRecord r s) :=
  owed_recordArrives _ _ (fun u => (dealRecord_moves (s₀ := u) r id rfl).sameOwed)
    fun u hu => answer_dealRecord (fun k => by rw [State.slot, hu]; exact h k) r

theorem owed_request {i : Instr} {kind : RequestKind} {tag : Byte} {body : Bytes}
    (hrequest : requestRecord i = some (kind, tag, body)) (n : Nat) :
    owed (recordArrives kind.code tag (takeRequest kind n (serveCommand i)) (withSlots v s))
      = owed (recordArrives kind.code tag (takeRequest kind n (serveCommand i)) s) :=
  owed_recordArrives _ _ (fun u => (takeRequest_moves (s₀ := u) hrequest n id rfl).sameOwed)
    fun u hu => answer_takeRequest (fun k => by rw [State.slot, hu]; exact h k) ..

theorem owed_receiveByte (byte : Byte) (stopBit : Bool) :
    owed (receiveByte byte stopBit (withSlots v s)) = owed (receiveByte byte stopBit s) := by
  have hreceiver : (withSlots v s).receiver = s.receiver := rfl
  unfold receiveByte
  rw [hreceiver]
  split
  · split <;> rfl
  · split
    · unfold recordByte
      dsimp only
      split
      · rfl
      · split
        · exact owed_recordFault _ _ rfl
        · split
          · rfl
          · exact owed_completeRecord h _
    · exact owed_recordFault _ _ rfl

end Owed

theorem owed_endReset (s : State) : owed (endReset s) = owed s :=
  owed_of_sameOwed (endReset_moves (s₀ := s) s).sameOwed

theorem owed_hardReset (pins : Pins) (straps : Straps) (s : State) : owed (hardReset pins straps s) = (none, none) :=
  owed_endReset _

theorem owed_softReset (s : State) : owed (softReset s) = (none, none) := owed_endReset _

/-- What a result that is a next state leaves owed. -/
def SameOwedNext (x y : Result) : Prop := ∀ s t, x = .next s → y = .next t → owed s = owed t

theorem sameOwedNext_next (h : owed s = owed t) : SameOwedNext (.next s) (.next t) := by
  intro u w hu hw
  cases hu
  cases hw
  exact h

theorem sameOwedNext_unlessHeld {v : Vector Slot 128} {x y : Result} (h : SameOwedNext x y) :
    SameOwedNext (unlessHeld (withSlots v s) x) (unlessHeld s y) := by
  have hpins : (withSlots v s).pins = s.pins := rfl
  unfold unlessHeld
  rw [hpins]
  split
  · exact sameOwedNext_next rfl
  · exact h

/-- What a command leaves owed does not depend on key material. -/
theorem exec_sameOwed {v : Vector Slot 128} (h : ∀ k, SameButKey (row v k) (s.slot k)) (c : Instr) :
    SameOwedNext (exec c (withSlots v s)) (exec c s) := by
  by_cases hpower : ∃ pins, c = .powerOn pins
  · obtain ⟨pins, rfl⟩ := hpower
    exact sameOwedNext_next ((owed_hardReset ..).trans (owed_hardReset ..).symm)
  by_cases hrelease : ∃ rate clear, c = .pinResetRelease rate clear
  · obtain ⟨rate, clear, rfl⟩ := hrelease
    have hpins : (withSlots v s).pins = s.pins := rfl
    simp only [exec, execPinResetRelease, hpins]
    split
    · exact sameOwedNext_next ((owed_hardReset ..).trans (owed_hardReset ..).symm)
    · intro _ _ hu
      cases hu
  cases hline : OnLine c with
  | false =>
    have hends (u : State) : ¬EndsReset c u := by
      rintro (hc | hc | ⟨rfl, -⟩)
      · exact hpower hc
      · exact hrelease hc
      · cases hline
    intro u w hu hw
    have hleads := exec_leads_offLine (L := False) c (withSlots v s) (hends _) hline
    have hleads' := exec_leads_offLine (L := False) c s (hends _) hline
    rw [hu] at hleads
    rw [hw] at hleads'
    exact (owed_of_sameOwed (Moves.sameOwed hleads)).trans (owed_of_sameOwed (Moves.sameOwed hleads')).symm
  | true =>
    cases hrequest : requestRecord c with
    | some record =>
      rw [exec_request hrequest, exec_request hrequest]
      exact sameOwedNext_unlessHeld (sameOwedNext_next (owed_request h hrequest _))
    | none =>
      cases c <;> cases hline <;> cases hrequest
      · have hpins : (withSlots v s).pins = s.pins := rfl
        simp only [exec, execPinResetAssert, hpins]
        split
        · intro _ _ hu
          cases hu
        · exact sameOwedNext_next rfl
      · exact sameOwedNext_unlessHeld (sameOwedNext_next (owed_receiveByte h ..))
      · exact sameOwedNext_unlessHeld (sameOwedNext_next (owed_completeRecord h _))
      · refine sameOwedNext_unlessHeld ?_
        have hreply : (withSlots v s).replyOwed = s.replyOwed := rfl
        have hbusy : (withSlots v s).busyOwed = s.busyOwed := rfl
        rw [hreply, hbusy]
        split
        · intro _ _ hu
          cases hu
        · split
          · exact sameOwedNext_next ((owed_softReset _).trans (owed_softReset _).symm)
          · exact sameOwedNext_next rfl
        · exact sameOwedNext_next rfl

/-- Settles O60: an elementary change keeps locked entries and a present transport key, and no answer reads key material. -/
theorem keysAndLocksStay : Obligations.KeysAndLocksStay := by
  refine ⟨fun c s t h hpower hrelease => ?_, fun c s t s₁ t₁ hsame hs ht => ?_⟩
  · obtain ⟨hlocks, hkey⟩ := exec_keepsLocks h hpower hrelease
    exact ⟨fun i hi => (hlocks i hi).2, hkey⟩
  · obtain ⟨hslots, hrest⟩ := hsame
    have hkeys : ∀ k, SameButKey (row t.slots k) (s.slot k) := fun k => by
      have hk := hslots k
      simp only [Slot.mk.injEq, true_and] at hk
      obtain ⟨hstate, howner, hepoch, hsize, hcheck, hcount⟩ := hk
      exact ⟨hstate.symm, howner.symm, hepoch.symm, hsize.symm, hcheck.symm, hcount.symm⟩
    have hwith : withSlots t.slots s = t := hrest
    rw [← hwith] at ht
    exact Prod.ext_iff.mp (exec_sameOwed hkeys c _ _ ht hs).symm

end Sys2Proof.Proofs
end

section
/-! SUPPORT. The queue, the clock and the resets (R124, R183, R184), and the event list (R175): a step is the command at the
front or one cycle of the clock; every reset gives the values of `hardBase` and `softBase` with the links settled. -/

/-! One theorem is checked after another, as in the tests, which bounds the threads that the whole text takes. -/

set_option Elab.async false

namespace Sys2Proof.Proofs
open Sys2Proof Sys2Proof.Machine

variable {s t : State} {p : PortNum}

/-! ## One step (R124) -/

/-- Settles O1: by the definition of a step. -/
theorem stepRunsFrontCommand : Obligations.StepRunsFrontCommand := fun c rest s h => by
  simp only [step, h]

theorem step_idle (h : s.pending = []) : step s = .next (clockTick s) := by simp only [step, h]

theorem endDueSelfTest_of_not_due (h : ¬(s.partState = .testing ∧ s.fineCount = 32)) : endDueSelfTest s = s :=
  if_neg fun hdue => h (selfTestDue_iff.mp hdue)

theorem endDueSelfTest_of_due (htest : s.partState = .testing) (hfine : s.fineCount = 32) :
    endDueSelfTest s
      = { completeSelfTest (openResult s.openSelfTests) s with openSelfTests := s.openSelfTests + 1 } :=
  if_pos (selfTestDue_iff.mpr ⟨htest, hfine⟩)

theorem exec_selftestComplete_due (r : SelfTestResult) (hreset : s.pins.resetLow = false)
    (htest : s.partState = .testing) (hfine : s.fineCount = 32) :
    exec (.selftestComplete r) s = .next (completeSelfTest r s) :=
  (unlessHeld_released hreset _).trans (if_pos (selfTestDue_iff.mpr ⟨htest, hfine⟩))

theorem countClock_below (h : s.clockCount < 131071) : countClock s = { s with clockCount := s.clockCount + 1 } :=
  if_neg fun hwrap => by have : Config.clocksPerFine = 131072 := rfl; omega

theorem countClock_wraps (h : 131071 ≤ s.clockCount) : countClock s = finePulse s :=
  if_pos (by have : Config.clocksPerFine = 131072 := rfl; omega)

theorem clockTick_held (h : s.pins.resetLow = true) : clockTick s = s := if_pos h

theorem clockTick_released (h : s.pins.resetLow = false) : clockTick s = countClock (endDueSelfTest s) :=
  if_neg (by simp [h])

/-- A self-test leaves the pins, the queue and the divider as they stand. -/
def TestFrame (s t : State) : Prop :=
  ∃ lanes hw events lost, t = { s with lanes := lanes, hwFaults := hw, events := events, eventsLost := lost }

theorem TestFrame.refl (s : State) : TestFrame s s := ⟨_, _, _, _, rfl⟩

theorem TestFrame.trans {u : State} (h : TestFrame s t) (g : TestFrame t u) : TestFrame s u := by
  obtain ⟨_, _, _, _, rfl⟩ := h
  obtain ⟨_, _, _, _, rfl⟩ := g
  exact ⟨_, _, _, _, rfl⟩

theorem raiseEvent_testFrame (kind : EventKind) (source : EventSource) (detail : BitVec 16) (h : TestFrame s t) :
    TestFrame s (raiseEvent kind source detail t) := by
  obtain ⟨events, lost, hraise⟩ := raiseEvent_frame kind source detail t
  exact hraise ▸ h.trans ⟨_, _, _, _, rfl⟩

theorem foldl_testFrame {α : Type} (f : State → α → State) (h : ∀ s x, TestFrame s (f s x)) (xs : List α) (s : State) :
    TestFrame s (xs.foldl f s) :=
  foldl_keeps (TestFrame s) f (fun u x hu => hu.trans (h u x)) xs s (.refl s)

theorem failLane_testFrame (r : SelfTestResult) (s : State) (l : LaneNum) : TestFrame s (failLane r s l) := by
  unfold failLane
  split
  · exact raiseEvent_testFrame _ _ _ ⟨_, _, _, _, rfl⟩
  · exact .refl s

theorem failKeyStore_testFrame (r : SelfTestResult) (s : State) : TestFrame s (failKeyStore r s) := by
  unfold failKeyStore
  split
  · exact raiseEvent_testFrame _ _ _ ⟨_, _, _, _, rfl⟩
  · exact .refl s

theorem failBuffer_testFrame (r : SelfTestResult) (s : State) (p : PortNum) : TestFrame s (failBuffer r s p) := by
  unfold failBuffer
  split
  · exact raiseEvent_testFrame _ _ _ ⟨_, _, _, _, rfl⟩
  · exact .refl s

theorem completeSelfTest_testFrame (r : SelfTestResult) (s : State) :
    ∃ u, TestFrame s u ∧ completeSelfTest r s = { u with partState := stateAfterTest r } :=
  ⟨_, ((foldl_testFrame _ (failLane_testFrame r) _ s).trans (failKeyStore_testFrame r _)).trans
    (foldl_testFrame _ (failBuffer_testFrame r) _ _), rfl⟩

/-- After a self-test that was due, no self-test is due. -/
theorem step_after_test (hpending : s.pending = []) (hreset : s.pins.resetLow = false) (htest : s.partState = .testing)
    (hfine : s.fineCount = 32) :
    step s = step { completeSelfTest (openResult s.openSelfTests) s with openSelfTests := s.openSelfTests + 1 } := by
  obtain ⟨u, ⟨lanes, hw, events, lost, rfl⟩, hdone⟩ := completeSelfTest_testFrame (openResult s.openSelfTests) s
  rw [step_idle hpending, clockTick_released hreset, endDueSelfTest_of_due htest hfine, hdone,
    step_idle (by exact hpending), clockTick_released (by exact hreset),
    endDueSelfTest_of_not_due fun h => stateAfterTest_ne _ h.1]

/-- Settles O2: the three cases of `clockTick`; a due self-test is the one of `openResult`. -/
theorem idleStepIsOneClock : Obligations.IdleStepIsOneClock := fun s hpending => by
  refine ⟨fun hreset => ?_, fun hreset hdue => ⟨fun hclock => ?_, fun hclock => ?_⟩, fun hreset htest hfine => ?_⟩
  · rw [step_idle hpending, clockTick_held hreset]
  · rw [step_idle hpending, clockTick_released hreset, endDueSelfTest_of_not_due hdue, countClock_below hclock]
  · rw [step_idle hpending, clockTick_released hreset, endDueSelfTest_of_not_due hdue, countClock_wraps hclock]
    exact ((unlessHeld_released hreset _).trans (by rw [endDueSelfTest_of_not_due hdue]; rfl)).symm
  · exact ⟨openResult s.openSelfTests, _, exec_selftestComplete_due _ hreset htest hfine, stateAfterTest_ne _,
      step_after_test hpending hreset htest hfine⟩

/-! ## The reset state (R1, R24, R41, R67) -/

theorem entry_reset (i : EntryIdx) : State.reset.entry i = .reset := row_replicate ..

theorem assoc_reset (a : Anum) : State.reset.assoc a = .reset := row_replicate ..

theorem slot_reset (k : SlotNum) : State.reset.slot k = .empty := row_replicate ..

theorem replicate4_eq {α : Type} (x : α) : Vector.replicate 4 x = #v[x, x, x, x] := rfl

/-- Settles O3: the fields by the definitions, the invariants by the lemma on the tables' reset rows for each. -/
theorem resetValues : Obligations.ResetValues := by
  have hcoherent : Coherent State.reset := coherent_of_reset rfl rfl rfl
  refine ⟨fun p => ?_, fun i => ?_, fun a => ?_, fun k => ?_, rfl, rfl, rfl, rfl, rfl, rfl, rfl, rfl, rfl,
    eventsOk_nil rfl, Nat.zero_le _, countersOk_reset rfl rfl fun i => by rw [entry_reset]; rfl, by unfold CountsOk; decide, portsOk_reset rfl,
    heldOff_reset rfl, hcoherent.1, slotsOk_reset rfl, hcoherent.2.1, inFlightOk_reset rfl rfl, numbersOk_reset rfl,
    lanesOk_reset rfl fun l op => by rw [State.lane]; exact (row_replicate Lane.idle l).trans_ne nofun, hcoherent.2.2⟩
  · rw [row_port_reset rfl]
    exact ⟨rfl, rfl, rfl, rfl, rfl, rfl, rfl, rfl, rfl, rfl, rfl, rfl, rfl, rfl, rfl, replicate4_eq _, replicate4_eq _,
      replicate4_eq _, rfl⟩
  · rw [entry_reset]; exact ⟨rfl, rfl, rfl⟩
  · rw [assoc_reset]; exact ⟨rfl, rfl, rfl, rfl, rfl, rfl, rfl, rfl, rfl, rfl, rfl⟩
  · rw [slot_reset]; exact ⟨rfl, rfl, rfl⟩

/-! ## The end of a reset (R14, R187) -/

theorem port_settleIfGood (s : State) (p q : PortNum) :
    (settleIfGood s p).port q = if p = q ∧ row s.pins.campusLink p = true then
      { s.port q with link := .settling, settleRemaining := (s.port q).settings.settle } else s.port q := by
  unfold settleIfGood startSettling
  split
  · rename_i hgood
    rw [State.port_updPort]
    by_cases hq : p = q
    · subst hq; simp [hgood]
    · simp [hq]
  · rename_i hbad
    simp [hbad]

theorem settleIfGood_pins (s : State) (p : PortNum) : (settleIfGood s p).pins = s.pins := by
  unfold settleIfGood; split <;> rfl

/-- The links reported good settle, and nothing but the ports changes. -/
theorem settleLinks_eq (s : State) :
    ∃ ports, allPorts.foldl settleIfGood s = { s with ports := ports }
      ∧ ∀ q, row ports q = if row s.pins.campusLink q = true then
        { s.port q with link := .settling, settleRemaining := (s.port q).settings.settle } else s.port q := by
  have hframe : ∀ (s : State) (p : PortNum), ∃ ports, settleIfGood s p = { s with ports := ports } := fun s p => by
    unfold settleIfGood; split <;> exact ⟨_, rfl⟩
  have hall : ∀ xs : List PortNum, ∃ ports, xs.foldl settleIfGood s = { s with ports := ports } := fun xs =>
    foldl_keeps (fun t => ∃ ports, t = { s with ports := ports }) settleIfGood (by
      rintro _ p ⟨ports, rfl⟩
      obtain ⟨ports', h'⟩ := hframe { s with ports := ports } p
      exact ⟨ports', h'⟩) xs s ⟨_, rfl⟩
  obtain ⟨ports, hports⟩ := hall allPorts
  refine ⟨ports, hports, fun q => ?_⟩
  have hrow : row ports q = (allPorts.foldl settleIfGood s).port q := by rw [hports]; rfl
  rw [hrow]
  simp only [allPorts, List.foldl_cons, List.foldl_nil, port_settleIfGood, settleIfGood_pins]
  fin_cases q <;> simp

/-- A reset that ends where the event list is empty and every kind is enabled. -/
theorem endReset_eq (hevents : s.events = []) (hmask : s.eventMask = BitVec.allOnes 21) :
    ∃ ports, endReset s = { s with
        ports := ports
        inhibit := if s.pins.inhibitLow then .asserted else .released
        events := if s.pins.inhibitLow then [{ kind := .inhibitOn, source := .part, count := 1, detail := 0 }] else [] }
      ∧ ∀ q, row ports q = if row s.pins.campusLink q = true then
        { s.port q with link := .settling, settleRemaining := (s.port q).settings.settle } else s.port q := by
  obtain ⟨ports, hports, hrow⟩ := settleLinks_eq s
  refine ⟨ports, ?_, hrow⟩
  unfold endReset
  rw [hports]
  cases hlow : s.pins.inhibitLow
  · simp [hevents]
  · simp only [if_true]
    simp [raiseEvent, hmask, hevents, EventKind.code, Config.eventCapacity]

theorem port_after_reset (good : Bool) :
    (if good = true then { Port.reset with link := .settling, settleRemaining := Port.reset.settings.settle }
      else Port.reset) = portAfterReset good := rfl

/-- What a power-on reset leaves (R183). -/
theorem hardReset_state (pins : Pins) (straps : Straps) (s : State) :
    ∃ ports, hardReset pins straps s = { hardBase pins straps s with
        ports := ports
        inhibit := if pins.inhibitLow then .asserted else .released
        events := if pins.inhibitLow then [{ kind := .inhibitOn, source := .part, count := 1, detail := 0 }] else [] }
      ∧ ∀ q, row ports q = portAfterReset (row pins.campusLink q) := by
  obtain ⟨ports, heq, hrow⟩ := endReset_eq (s := hardBase pins straps s) rfl rfl
  refine ⟨ports, heq, fun q => (hrow q).trans ?_⟩
  rw [row_port_reset rfl]
  rfl

/-- What a soft reset leaves (R183). -/
theorem softReset_state (s : State) :
    ∃ ports, softReset s = { softBase s with
        ports := ports
        inhibit := if s.pins.inhibitLow then .asserted else .released
        events := if s.pins.inhibitLow then [{ kind := .inhibitOn, source := .part, count := 1, detail := 0 }] else [] }
      ∧ ∀ q, row ports q = portAfterReset (row s.pins.campusLink q) := by
  obtain ⟨ports, heq, hrow⟩ := endReset_eq (s := softBase s) rfl rfl
  refine ⟨ports, heq, fun q => (hrow q).trans ?_⟩
  rw [row_port_reset rfl]
  rfl

/-- Settles O4: the state of `hardReset_state`, which PIN_RESET_RELEASE reaches with the levels of the pins. -/
theorem powerOnAndPinReset : Obligations.PowerOnAndPinReset := by
  refine ⟨fun pins s => ?_, fun rate clear s hlow => ?_⟩
  · obtain ⟨ports, heq, hrow⟩ := hardReset_state
      { resetLow := false, inhibitLow := pins.inhibitLow, campusLink := pins.campusLink, rackLink := pins.rackLink }
      { rate := pins.rate, clear := pins.clear } s
    refine ⟨_, congrArg Host.Outcome.next heq, rfl, rfl, rfl, rfl, rfl, rfl, rfl, rfl, fun l => row_replicate .., hrow,
      fun i => row_replicate .., fun a => row_replicate .., fun k => row_replicate .., rfl, rfl, rfl, rfl, rfl, rfl, rfl,
      rfl, rfl, rfl, rfl, rfl, rfl, rfl, rfl⟩
  · exact if_pos hlow

/-- Settles O37: the reply to RESET ends in the state of `softReset_state`. -/
theorem softResetFollowsItsReply : Obligations.SoftResetFollowsItsReply := fun tag s hreset hreply => by
  obtain ⟨ports, heq, hrow⟩ := softReset_state s
  have hexec : exec .replySent s = .next (softReset s) := by
    refine (unlessHeld_released hreset _).trans ?_
    rw [hreply]
    exact if_pos rfl
  refine ⟨_, hexec.trans (congrArg Host.Outcome.next heq), rfl, rfl, rfl, rfl, rfl, rfl, rfl, rfl,
    fun l => row_mapRows .., fun i => row_mapRows .., hrow, fun a => row_replicate .., fun k => row_replicate .., rfl, rfl,
    rfl, rfl, rfl, rfl, rfl, rfl, rfl, rfl, rfl, rfl, rfl, rfl, rfl⟩

/-! ## RESET_N low (R183) -/

theorem unlessHeld_held (h : s.pins.resetLow = true) (act : Result) : unlessHeld s act = .next s := if_pos h

/-- While RESET_N is low a command changes pin levels alone. -/
def ChangesPins (s : State) (r : Result) : Prop :=
  ∃ t, r = .next t ∧ { t with pins := s.pins } = s ∧ t.pins.resetLow = true

theorem changesPins_of_held (h : s.pins.resetLow = true) (act : Result) : ChangesPins s (unlessHeld s act) :=
  ⟨s, unlessHeld_held h act, rfl, h⟩

theorem changesPins_of_level (h : s.pins.resetLow = true) (hrest : { t with pins := s.pins } = s)
    (hreset : t.pins.resetLow = s.pins.resetLow) (other : Result) :
    ChangesPins s (if s.pins.resetLow then .next t else other) := ⟨t, if_pos h, hrest, hreset.trans h⟩

/-- Settles O5: one command after another; those that read a level set its pin, the others are those of `unlessHeld`. -/
theorem pinResetHoldsThePart : Obligations.PinResetHoldsThePart := by
  refine ⟨fun s hreset => ?_, fun c s hlow hassert hpower hrelease => ?_⟩
  · refine ⟨_, if_neg (by simp [hreset]), rfl, fun p => row_mapRows .., rfl, rfl, rfl, rfl, rfl⟩
  · change ChangesPins s (exec c s)
    cases c
    case powerOn pins => exact absurd rfl (hpower pins)
    case pinResetAssert => exact absurd rfl hassert
    case pinResetRelease rate clear => exact absurd rfl (hrelease rate clear)
    case inhibitAssert => exact changesPins_of_level (t := setInhibitPin true s) hlow rfl rfl _
    case inhibitRelease => exact changesPins_of_level (t := setInhibitPin false s) hlow rfl rfl _
    case linkGood p => exact changesPins_of_level (t := setCampusPin p true s) hlow rfl rfl _
    case linkLost p => exact changesPins_of_level (t := setCampusPin p false s) hlow rfl rfl _
    case rackLinkLost p => exact changesPins_of_level (t := setRackPin p false s) hlow rfl rfl _
    case rackLinkGood p => exact changesPins_of_level (t := setRackPin p true s) hlow rfl rfl _
    all_goals exact changesPins_of_held hlow _

/-! ## What becomes of an event (R175) -/

theorem sameAs_iff {kind : EventKind} {source : EventSource} {e : Event} :
    Event.sameAs kind source e = true ↔ e.kind = kind ∧ e.source = source := by simp [Event.sameAs]

theorem merged_eq (kind : EventKind) (source : EventSource) (e : Event) :
    e.merged kind source = if e.kind = kind ∧ e.source = source then
      { e with count := if e.count < 255 then e.count + 1 else 255 } else e := by
  have hmin : min (e.count + 1) 255 = if e.count < 255 then e.count + 1 else 255 := by split <;> omega
  simp only [Event.merged, sameAs_iff, hmin]

/-- Settles O51: the four cases of `raiseEvent_cases`, each shut out by the conditions of the others. -/
theorem eventsAreTaken : Obligations.EventsAreTaken := fun kind source detail s => by
  have hmap : s.events.map (Event.merged kind source) = s.events.map fun e =>
      if e.kind = kind ∧ e.source = source then { e with count := if e.count < 255 then e.count + 1 else 255 } else e :=
    congrArg (List.map · _) (funext (merged_eq kind source))
  have hcap : Config.eventCapacity = 64 := rfl
  obtain ⟨hmask, heq⟩ | ⟨hmask, hstands, heq⟩ | ⟨hmask, hnew, hroom, heq⟩ | ⟨hmask, hnew, hfull, heq⟩ :=
    raiseEvent_cases kind source detail s
  · exact ⟨fun _ => heq, fun h => by simp [hmask] at h, fun h => by simp [hmask] at h, fun h => by simp [hmask] at h⟩
  · exact ⟨fun h => by simp [hmask] at h, fun _ _ => heq.trans (by rw [hmap]), fun _ h => absurd hstands h,
      fun _ h => absurd hstands h⟩
  · exact ⟨fun h => by simp [hmask] at h, fun _ ⟨e, he, h⟩ => absurd h (hnew e he), fun _ _ _ => heq, fun _ _ h => by omega⟩
  · exact ⟨fun h => by simp [hmask] at h, fun _ ⟨e, he, h⟩ => absurd h (hnew e he), fun _ _ h => by omega, fun _ _ _ => heq⟩

end Sys2Proof.Proofs
end

section
/-! SUPPORT. The management line (R161 to R168): a record that arrives, the bytes that bring it, and the end of a reply. -/

/-! One theorem is checked after another, as in the tests, which bounds the threads that the whole text takes. -/

set_option Elab.async false

namespace Sys2Proof.Proofs
open Sys2Proof Sys2Proof.Machine

variable {s t : State} {r : Record}

/-! ## A record that arrives (R163, R165, R166) -/

theorem recordFault_eq (kind : FaultKind) (tag : Option Byte) (s : State) :
    recordFault kind tag s = withFault kind (kind.code.setWidth 16) tag s := by
  simp only [recordFault, withFault, List.drop_one, Config.faultCapacity]

theorem exec_recordComplete (hreset : s.pins.resetLow = false) (r : Record) :
    exec (.recordComplete r) s = .next (completeRecord r s) := unlessHeld_released hreset _

theorem completeRecord_serving {x : Reply} (hreply : s.replyOwed = some x) (hbusy : s.busyOwed = none) :
    completeRecord r s = { counted s with busyOwed := some { kind := r.kind, tag := r.tag } } := by
  simp [completeRecord, recordArrives, State.lineState, hreply, hbusy, counted]

theorem completeRecord_overrun {m : BusyMark} (hbusy : s.busyOwed = some m) :
    completeRecord r s = withFault .overrun 4 (some r.tag) (counted s) := by
  have hfault : completeRecord r s = recordFault .overrun (some r.tag) (counted s) := by
    cases hreply : s.replyOwed <;> simp [completeRecord, recordArrives, State.lineState, hreply, hbusy, counted]
  rw [hfault, recordFault_eq]
  rfl

theorem completeRecord_idle (hreply : s.replyOwed = none) (hbusy : s.busyOwed = none) :
    completeRecord r s = oweReply r.kind r.tag (dealRecord r (counted s)) := recordArrives_idle _ _ _ s hreply hbusy

theorem isReset_iff {x : Reply} : x.isReset = true ↔ x.kind = 0x82 ∧ x.body = [0x00] := by
  simp only [Reply.isReset, Bool.and_eq_true, beq_iff_eq]
  rfl

theorem exec_replySent_reply {x : Reply} (hreset : s.pins.resetLow = false) (hreply : s.replyOwed = some x)
    (hx : x.kind ≠ 0x82 ∨ x.body ≠ [0x00]) : exec .replySent s = .next { s with replyOwed := none } := by
  have hother : ¬x.isReset = true := fun h => by
    obtain ⟨hkind, hbody⟩ := isReset_iff.mp h
    exact hx.elim (absurd hkind) (absurd hbody)
  refine (unlessHeld_released hreset _).trans ?_
  rw [hreply]
  exact if_neg hother

/-- Settles O35: each row of the table by the value of the two indications. -/
theorem oneReplyIsOwed : Obligations.OneReplyIsOwed := fun r s hreset => by
  refine ⟨fun x hreply hbusy => ⟨?_, exec_replySent_reply hreset hreply⟩, fun m hbusy => ?_, fun x m hreply hbusy hx => ?_,
    fun m hreply hbusy => ?_, fun hreply hbusy => ?_⟩
  · rw [exec_recordComplete hreset, completeRecord_serving hreply hbusy]
  · rw [exec_recordComplete hreset, completeRecord_overrun hbusy]
  · refine ⟨_, exec_replySent_reply hreset hreply hx, rfl, ?_⟩
    simp only [State.sending, hbusy]
    rfl
  · refine (unlessHeld_released hreset _).trans ?_
    rw [hreply, hbusy]
  · refine (unlessHeld_released hreset _).trans ?_
    rw [hreply, hbusy]

/-! ## A record that is refused (R165, R168) -/

theorem replyKind_eq (kind : Byte) : replyKind kind = if kind.toNat < 0x80 then kind + 0x80 else 0xFF := rfl

theorem recordCovered_eq (r : Record) :
    recordCovered r = toLE 2 (r.body.length + 2) ++ [r.kind, r.tag] ++ r.body := rfl

theorem ofCode_unknown {b : Byte} (h : ¬(1 ≤ b.toNat ∧ b.toNat ≤ 0x1A)) : RequestKind.ofCode b = none := by
  unfold RequestKind.ofCode
  split
  · rfl
  · rename_i hb
    have hpos : b.toNat ≠ 0 := fun h0 => hb (BitVec.eq_of_toNat_eq h0)
    have hlength : RequestKind.all.length = 26 := rfl
    exact List.getElem?_eq_none (by omega)

theorem code_of_ofCode : ∀ {b : Byte} {kind : RequestKind}, RequestKind.ofCode b = some kind → kind.code = b := by decide

theorem ofCode_known {b : Byte} (h : 1 ≤ b.toNat ∧ b.toNat ≤ 0x1A) : ∃ kind, RequestKind.ofCode b = some kind := by
  unfold RequestKind.ofCode
  have hlength : RequestKind.all.length = 26 := rfl
  rw [if_neg fun h0 => by simp [h0] at h]
  exact ⟨_, List.getElem?_eq_getElem (by omega)⟩

/-- A kind is not taken in TESTING, and in HALTED only three are (R168). -/
theorem not_takenIn {kind : RequestKind} {x : PartState}
    (h : x = .testing ∨ x = .halted ∧ kind.code ≠ 0x01 ∧ kind.code ≠ 0x02 ∧ kind.code ≠ 0x19) :
    kind.takenIn x = false := by
  obtain rfl | ⟨rfl, hidentify, hreset, hfaults⟩ := h
  · rfl
  · cases kind <;> simp_all [RequestKind.takenIn, RequestKind.code]

/-- Settles O36: the check, then the kind, then the part state, then the length. -/
theorem recordsAreRefused : Obligations.RecordsAreRefused := fun r s hreset hreply hbusy => by
  have hexec : exec (.recordComplete r) s = .next (oweReply r.kind r.tag (dealRecord r (counted s))) := by
    rw [exec_recordComplete hreset, completeRecord_idle hreply hbusy]
  have hrefuse : ∀ (status : Status) (u : State), status ≠ .ok → dealRecord r (counted s) = refuse status u →
      exec (.recordComplete r) s = .next (owingRefusal (replyKind r.kind) r.tag status.code u) :=
    fun status u hstatus hdeal => by rw [hexec, hdeal, oweReply_refuse _ _ _ _ hstatus]
  refine ⟨fun hbad => ?_, fun hgood hknown => ?_, fun hgood hknown hstate => ?_, fun hgood hstate kind hkind hlength => ?_⟩
  · refine hrefuse .badCheck _ (by decide) ((if_neg hbad).trans ?_)
    rw [recordFault_eq]
    rfl
  · refine hrefuse .unknownKind _ (by decide) ((if_pos hgood).trans ?_)
    rw [takeRecord, ofCode_unknown hknown]
    dsimp only
    rw [recordFault_eq]
    rfl
  · obtain ⟨kind, hkind⟩ := ofCode_known hknown
    refine hrefuse .notReady _ (by decide) ((if_pos hgood).trans ?_)
    rw [takeRecord, hkind]
    exact if_pos (not_takenIn (by rw [code_of_ofCode hkind]; exact hstate))
  · refine hrefuse .badLength _ (by decide) ((if_pos hgood).trans ?_)
    rw [takeRecord, hkind]
    refine (if_neg ?_).trans (if_pos hlength)
    simp [counted, hstate, RequestKind.takenIn]

/-! ## Bytes of the line (R161 to R164) -/

theorem exec_mgmtByteReceived (hreset : s.pins.resetLow = false) (b : Byte) (stopBit : Bool) :
    exec (.mgmtByteReceived b stopBit) s = .next (receiveByte b stopBit s) := unlessHeld_released hreset _

/-- The receiver of a state in RECORD. -/
def recording (got : Bytes) (s : State) : State := { s with receiver := .record got gapLoad }

theorem receiveByte_recorded {got : Bytes} {gap : Nat} (h : s.receiver = .record got gap) (b : Byte) :
    receiveByte b true s = recordByte (got ++ [b]) s := by simp [receiveByte, h]

theorem abandonRecord_eq (got : Bytes) (s : State) :
    abandonRecord got s = withFault .framing 0 got[3]? { s with receiver := .hunt } := by
  rw [abandonRecord, recordFault_eq]
  rfl

theorem recordByte_first {got : Bytes} (h : got.length < 2) (s : State) : recordByte got s = recording got s :=
  if_pos h

theorem recordByte_badLength {got : Bytes} (h : 2 ≤ got.length) (hbad : leAt got 0 2 < 2 ∨ 1026 < leAt got 0 2) (s : State) :
    recordByte got s = withFault .badLength 2 none { s with receiver := .hunt } := by
  rw [recordByte, if_neg (by omega), if_pos hbad, recordFault_eq]
  rfl

theorem recordByte_joins {got : Bytes} (h : 2 ≤ got.length) (hlow : 2 ≤ leAt got 0 2) (htop : leAt got 0 2 ≤ 1026)
    (hmore : got.length < leAt got 0 2 + 4) (s : State) : recordByte got s = recording got s := by
  rw [recordByte, if_neg (by omega), if_neg (by omega), if_pos hmore]
  rfl

theorem recordByte_completes {got : Bytes} (hlow : 2 ≤ leAt got 0 2) (htop : leAt got 0 2 ≤ 1026)
    (hall : got.length = leAt got 0 2 + 4) (s : State) : recordByte got s = completeRecord (recordOf got) s := by
  rw [recordByte, if_neg (by omega), if_neg (by omega), if_neg (by omega)]

theorem leAt_two (got : Bytes) : leAt got 0 2 = (byteAt got 0).toNat + 256 * (byteAt got 1).toNat := by
  match got with
  | [] => rfl
  | [b] => simp [leAt, slice, ofLE, byteAt]
  | b :: c :: rest => simp [leAt, slice, ofLE, byteAt]

theorem byteAt_append_left {got more : Bytes} {i : Nat} (h : i < got.length) : byteAt (got ++ more) i = byteAt got i := by
  rw [byteAt, byteAt, List.getD_append _ _ _ _ h]

theorem beAt_last {got : Bytes} (h : 1 ≤ got.length) (b : Byte) :
    beAt (got ++ [b]) (got.length - 1) 2 = 256 * (byteAt got (got.length - 1)).toNat + b.toNat := by
  obtain ⟨front, c, rfl⟩ : ∃ front c, got = front ++ [c] :=
    ⟨_, _, (List.dropLast_append_getLast (List.ne_nil_of_length_pos h)).symm⟩
  simp [beAt, slice, ofBE, byteAt]
  omega

/-- The record that a last check byte completes (R162). -/
theorem recordOf_last {got : Bytes} {n : Nat} (hlength : got.length = n + 3) (hn : 2 ≤ n) (b : Byte) :
    (recordOf (got ++ [b])).kind = byteAt got 2 ∧ (recordOf (got ++ [b])).tag = byteAt got 3
      ∧ (recordOf (got ++ [b])).body = (got.drop 4).take (n - 2)
      ∧ (recordOf (got ++ [b])).check = BitVec.ofNat 16 (256 * (byteAt got (n + 2)).toNat + b.toNat) := by
  refine ⟨byteAt_append_left (by omega), byteAt_append_left (by omega), ?_, ?_⟩
  · have hcount : (got ++ [b]).length - 6 = n - 2 := by rw [List.length_append, hlength]; simp
    rw [recordOf, hcount, List.drop_append_of_le_length (by omega),
      List.take_append_of_le_length (by rw [List.length_drop]; omega)]
  · have hindex : (got ++ [b]).length - 2 = got.length - 1 := by simp
    rw [recordOf, hindex, beAt_last (by omega), show got.length - 1 = n + 2 by omega]

/-- Settles O31: the receiver's cases in order; the last check byte by `recordOf_last`. -/
theorem receiverTakesBytes : Obligations.ReceiverTakesBytes := fun b stopBit s hreset => by
  refine ⟨fun hhunt hstop hb => ?_, fun hhunt hnot => ?_, fun got gap hrecord => ?_⟩
  · rw [exec_mgmtByteReceived hreset, receiveByte, hhunt]
    exact congrArg Host.Outcome.next (if_pos ⟨hstop, hb⟩)
  · rw [exec_mgmtByteReceived hreset, receiveByte, hhunt]
    refine congrArg Host.Outcome.next (if_neg fun ⟨hstop, hb⟩ => ?_)
    exact hnot.elim (fun hno => by simp [hstop] at hno) (absurd hb)
  have hbyte (hstop : stopBit = true) : exec (.mgmtByteReceived b stopBit) s = .next (recordByte (got ++ [b]) s) := by
    rw [exec_mgmtByteReceived hreset, hstop, receiveByte_recorded hrecord]
  have hlength : (got ++ [b]).length = got.length + 1 := by simp
  refine ⟨fun hstop => ?_, fun hgap => ?_, fun hstop hgot => ?_, fun hstop hgot hbad => ?_,
    fun hstop hgot hlow htop hmore => ?_, fun hstop hlow htop hall => ?_⟩
  · rw [exec_mgmtByteReceived hreset, receiveByte, hrecord, ← abandonRecord_eq]
    exact congrArg Host.Outcome.next (if_neg (by simp [hstop]))
  · have hremaining : s.gapRemaining = gap := by rw [State.gapRemaining, hrecord]
    refine (unlessHeld_released hreset _).trans ((if_pos (by rw [hremaining]; exact hgap)).trans ?_)
    rw [gapPulse, hrecord, ← abandonRecord_eq]
    exact congrArg Host.Outcome.next (if_pos hgap)
  · rw [hbyte hstop, recordByte_first (by omega)]
    rfl
  · rw [hbyte hstop, recordByte_badLength (by omega) (by rw [leAt_two]; exact hbad)]
  · rw [hbyte hstop, recordByte_joins (by omega) (by rw [leAt_two]; exact hlow) (by rw [leAt_two]; exact htop)
      (by rw [leAt_two, hlength]; exact hmore)]
    rfl
  · have hcomplete := recordByte_completes (got := got ++ [b]) (by rw [leAt_two]; exact hlow) (by rw [leAt_two]; exact htop)
      (by rw [leAt_two, hlength]; exact hall) s
    obtain ⟨hkind, htag, hbody, hcheck⟩ := recordOf_last (b := b) (show got.length = _ + 3 by omega) hlow
    exact ⟨_, hkind, htag, hbody, hcheck, by rw [hbyte hstop, hcomplete, exec_recordComplete hreset]⟩

/-! ## A whole record, byte by byte (R162) -/

theorem completeRecord_recording (r : Record) (got : Bytes) (s : State) :
    completeRecord r (recording got s) = completeRecord r s := rfl

theorem receiveAll_cons (b : Byte) (rest : Bytes) (s : State) (h : exec (.mgmtByteReceived b true) s = .next t) :
    receiveAll (b :: rest) s = receiveAll rest t := by simp only [receiveAll, List.foldl_cons, h]

theorem leAt_append {got more : Bytes} (h : 2 ≤ got.length) : leAt (got ++ more) 0 2 = leAt got 0 2 := by
  rw [leAt_two, leAt_two, byteAt_append_left (by omega), byteAt_append_left (by omega)]

/-- The bytes that are still to come complete the record that the bytes make together. -/
theorem receiveAll_recording (hreset : s.pins.resetLow = false) : ∀ (rest got : Bytes), rest ≠ [] →
    2 ≤ leAt (got ++ rest) 0 2 → leAt (got ++ rest) 0 2 ≤ 1026 → (got ++ rest).length = leAt (got ++ rest) 0 2 + 4 →
    receiveAll rest (recording got s) = .next (completeRecord (recordOf (got ++ rest)) s)
  | [], _, h, _, _, _ => absurd rfl h
  | b :: rest, got, _, hlow, htop, hlength => by
    have hbyte : exec (.mgmtByteReceived b true) (recording got s) = .next (recordByte (got ++ [b]) (recording got s)) := by
      rw [exec_mgmtByteReceived (by exact hreset), receiveByte_recorded rfl]
    have hsplit : got ++ b :: rest = got ++ [b] ++ rest := by simp
    rw [receiveAll_cons _ _ _ hbyte]
    by_cases hrest : rest = []
    · subst hrest
      rw [recordByte_completes hlow htop hlength, completeRecord_recording]
      rfl
    · have hmore : 0 < rest.length := List.length_pos_of_ne_nil hrest
      have hjoin : recordByte (got ++ [b]) (recording got s) = recording (got ++ [b]) s := by
        by_cases hfirst : (got ++ [b]).length < 2
        · exact recordByte_first hfirst _
        · rw [hsplit, leAt_append (by omega)] at hlow htop
          rw [hsplit, leAt_append (by omega), List.length_append] at hlength
          exact recordByte_joins (by omega) hlow htop (by omega) _
      rw [hjoin, hsplit]
      exact receiveAll_recording hreset rest (got ++ [b]) hrest (hsplit ▸ hlow) (hsplit ▸ htop) (hsplit ▸ hlength)

/-- The bytes of a record after its sync byte. -/
def recordBytes (r : Record) : Bytes := recordCovered r ++ toBE 2 r.check.toNat

theorem recordOnLine_eq (r : Record) : recordOnLine r = 0xC3 :: recordBytes r := rfl

theorem length_recordBytes (r : Record) : (recordBytes r).length = r.body.length + 2 + 4 := by
  simp [recordBytes, recordCovered]
  omega

theorem leAt_recordBytes (h : r.body.length ≤ 1024) : leAt (recordBytes r) 0 2 = r.body.length + 2 := by
  have hslice : slice (recordBytes r) 0 2 = toLE 2 (r.body.length + 2) := rfl
  rw [leAt, hslice, ofLE_toLE]
  omega

theorem recordOf_recordBytes (r : Record) : recordOf (recordBytes r) = r := by
  have hdrop : (recordBytes r).drop 4 = r.body ++ toBE 2 r.check.toNat := rfl
  have hbody : ((recordBytes r).drop 4).take ((recordBytes r).length - 6) = r.body := by
    rw [hdrop, length_recordBytes, show r.body.length + 2 + 4 - 6 = r.body.length by omega, List.take_left']
    rfl
  have hlast : slice (recordBytes r) ((recordBytes r).length - 2) 2 = toBE 2 r.check.toNat := by
    have hcovered : (recordBytes r).length - 2 = (recordCovered r).length := by simp [recordBytes]
    rw [slice, hcovered, recordBytes, List.drop_left, List.take_of_length_le (by simp)]
  have hcheck := beAt_of_slice r.check rfl hlast
  rw [recordOf, hbody, hcheck]
  rfl

/-- Settles O32: the sync byte begins the record, and the bytes after it complete it. -/
theorem bytesMakeTheRecord : Obligations.BytesMakeTheRecord := fun r s hreset hhunt hbody => by
  have hsync : exec (.mgmtByteReceived 0xC3 true) s = .next (recording [] s) := by
    rw [exec_mgmtByteReceived hreset, receiveByte, hhunt]
    exact congrArg Host.Outcome.next (if_pos ⟨rfl, rfl⟩)
  have hlength := leAt_recordBytes hbody
  have hne : recordBytes r ≠ [] := List.ne_nil_of_length_pos (by rw [length_recordBytes]; omega)
  rw [recordOnLine_eq, receiveAll_cons _ _ _ hsync, receiveAll_recording hreset (recordBytes r) [] hne
    (by rw [List.nil_append, hlength]; omega) (by rw [List.nil_append, hlength]; omega)
    (by rw [List.nil_append, hlength, length_recordBytes]), List.nil_append, recordOf_recordBytes,
    exec_recordComplete hreset]

end Sys2Proof.Proofs
end

section
/-! SUPPORT. The requests on ports, steering entries and associations that write one row: what their bodies say (R2, R34,
R107, R138), and how each is answered (R168). -/

/-! One theorem is checked after another, as in the tests, which bounds the threads that the whole text takes. -/

set_option Elab.async false

namespace Sys2Proof.Proofs
open Sys2Proof Sys2Proof.Machine

variable {s t : State} {tag b : Byte} {a : Anum} {p : PortNum} {i : EntryIdx}

/-! ## Codes of a body (R169) -/

theorem byte_eq_iff (b c : Byte) : b = c ↔ b.toNat = c.toNat := BitVec.toNat_eq

/-- Of an enumeration of three values each is coded by its place. -/
theorem threeCodes_eq_some_iff {α : Type} {x y z v : α} {b : Byte} :
    [x, y, z][b.toNat]? = some v ↔ b = 0 ∧ x = v ∨ b = 1 ∧ y = v ∨ b = 2 ∧ z = v := by
  rw [byte_eq_iff b 0, byte_eq_iff b 1, byte_eq_iff b 2]
  match b.toNat with
  | 0 => simp
  | 1 => simp
  | 2 => simp
  | n + 3 => simp

theorem linkDownPolicy_ofCode_iff {v : LinkDownPolicy} : LinkDownPolicy.ofCode b = some v ↔ b = v.code :=
  twoCodes_eq_some_iff.trans (by cases v <;> simp [LinkDownPolicy.code])

theorem inhibitAction_ofCode_iff {v : InhibitAction} : InhibitAction.ofCode b = some v ↔ b = v.code :=
  twoCodes_eq_some_iff.trans (by cases v <;> simp [InhibitAction.code])

theorem tagging_ofCode_iff {v : Tagging} : Tagging.ofCode b = some v ↔ b = v.code :=
  threeCodes_eq_some_iff.trans (by cases v <;> simp [Tagging.code])

theorem action_ofCode_iff {anum : Byte} {v : Action} : Action.ofCode b anum = some v ↔ CodesAction b anum v := by
  rw [Action.ofCode]
  cases v <;> simp only [CodesAction, byte_eq_iff b] <;> split <;> simp_all [inRange_eq_some_iff]

/-! ## TEST_CORRUPT (R100) -/

theorem corruptAction_none {action : Byte} (h : 2 < action.toNat) (x : Assoc) : corruptAction action x = none := by
  obtain ⟨n, hn⟩ := Nat.exists_eq_add_of_lt h
  simp [corruptAction, hn, show 2 + n + 1 = n + 3 by omega]

theorem corruptAction_some {action : Byte} (h : action.toNat ≤ 2) (x : Assoc) : ∃ y, corruptAction action x = some y := by
  have hcode : action.toNat = 0 ∨ action.toNat = 1 ∨ action.toNat = 2 := by omega
  rcases hcode with h | h | h <;> exact ⟨_, by simp only [corruptAction, h]; rfl⟩

theorem serveTestCorrupt_noAnum {action : Byte} (h : 64 ≤ b.toNat) : serveTestCorrupt b action s = refuse .badValue s := by
  rw [serveTestCorrupt, inRange_eq_none h]

theorem serveTestCorrupt_noAction {action : Byte} (ha : b.toNat = a.val) (h : 2 < action.toNat) :
    serveTestCorrupt b action s = refuse .badValue s := by
  simp only [serveTestCorrupt, inRange_eq_some_iff.mpr ha, corruptAction_none h]

theorem serveTestCorrupt_idle {action : Byte} (ha : b.toNat = a.val) (h : action.toNat ≤ 2)
    (hstate : (s.assoc a).state = .idle) : serveTestCorrupt b action s = refuse .state s := by
  obtain ⟨x, hx⟩ := corruptAction_some h (s.assoc a)
  simp only [serveTestCorrupt, inRange_eq_some_iff.mpr ha, hx, hstate, if_true]

theorem serveTestCorrupt_done {action : Byte} (ha : b.toNat = a.val) (hstate : (s.assoc a).state ≠ .idle)
    (f : Assoc → Assoc) (hf : corruptAction action (s.assoc a) = some (f (s.assoc a))) :
    serveTestCorrupt b action s
      = done [yesNo (f (s.assoc a)).corruptOne, yesNo (f (s.assoc a)).corruptAll] (s.updAssoc a f) := by
  simp only [serveTestCorrupt, inRange_eq_some_iff.mpr ha, hf, hstate, if_false]
  rfl

/-- Settles O46: one answer for each check and one for each action. -/
theorem testCorruptSetsTheFlags : Obligations.TestCorruptSetsTheFlags := by
  refine ⟨fun tag b action s htakes hb => ?_, fun tag b a s htakes ha => ⟨fun action h => ?_, fun action h hidle => ?_,
    fun hstate => ⟨?_, ?_, ?_⟩⟩⟩
  · exact requestArrives_refused (kind := .testCorrupt) htakes (by decide) (serveTestCorrupt_noAnum hb) (by decide)
  · exact requestArrives_refused (kind := .testCorrupt) htakes (by decide) (serveTestCorrupt_noAction ha h) (by decide)
  · exact requestArrives_refused (kind := .testCorrupt) htakes (by decide) (serveTestCorrupt_idle ha h hidle) (by decide)
  · exact requestArrives_done (kind := .testCorrupt) htakes (by decide)
      (serveTestCorrupt_done (s := counted s) ha hstate (fun x => { x with corruptOne := true }) rfl)
  · exact requestArrives_done (kind := .testCorrupt) htakes (by decide)
      (serveTestCorrupt_done (s := counted s) ha hstate (fun x => { x with corruptAll := true }) rfl)
  · exact requestArrives_done (kind := .testCorrupt) htakes (by decide)
      (serveTestCorrupt_done (s := counted s) ha hstate (fun x => { x with corruptOne := false, corruptAll := false }) rfl)

/-! ## PORT_SWITCH (R138) -/

theorem mode_ne_off (h : (s.port p).mode = .protect) : (s.port p).mode ≠ .off := by simp [h]

theorem servePortSwitch_noPort {first last : Byte} (h : 4 ≤ b.toNat) :
    servePortSwitch b first last s = refuse .badValue s := by
  rw [servePortSwitch, inRange_eq_none h]

theorem servePortSwitch_active {first last : Byte} (hp : b.toNat = p.val) (h : (s.port p).mode = .protect) :
    servePortSwitch b first last s = refuse .portActive s := by
  simp only [servePortSwitch, inRange_eq_some_iff.mpr hp, ne_eq, mode_ne_off h, not_false_eq_true, if_true]

theorem servePortSwitch_off {first last : Byte} (hp : b.toNat = p.val) (h : (s.port p).mode = .off) :
    servePortSwitch b first last s = if clampStep last < clampStep first then refuse .badValue s
      else done [BitVec.ofNat 8 (clampStep first), BitVec.ofNat 8 (clampStep last)]
        (s.updPort p fun x => { x with firstStep := clampStep first, lastStep := clampStep last }) := by
  simp only [servePortSwitch, inRange_eq_some_iff.mpr hp, ne_eq, h, not_true_eq_false, if_false]

/-! ## PORT_SET (R2) -/

theorem classesOf_eq_some_iff {v : Vector Byte 8} {w : Vector ClassNum 8} :
    classesOf v = some w ↔ ∀ q : Prio, (row v q).toNat = (row w q).val := by
  have hall : (v.toList.all fun b => decide (b.toNat < 4)) = true ↔ ∀ q : Prio, (row v q).toNat < 4 := by
    simp only [List.all_eq_true, decide_eq_true_eq, Vector.mem_toList_iff, Vector.mem_iff_getElem, row]
    exact ⟨fun h q => h _ ⟨q.val, q.isLt, rfl⟩, fun h b ⟨i, hi, hb⟩ => hb ▸ h ⟨i, hi⟩⟩
  rw [classesOf]
  split
  case isTrue h =>
    have hlt := hall.mp h
    rw [Option.some.injEq]
    refine ⟨fun hw q => ?_, fun hw => ?_⟩
    · rw [← hw, row_ofFn]
      exact (Nat.mod_eq_of_lt (hlt q)).symm
    · apply Vector.ext
      intro n hn
      rw [Vector.getElem_ofFn]
      apply Fin.ext
      have := hw ⟨n, hn⟩
      simp only [row] at this
      simp only [row, Fin.ofNat, this]
      exact Nat.mod_eq_of_lt (w[n]).isLt
  case isFalse h =>
    simp only [reduceCtorEq, false_iff]
    intro hw
    exact h (hall.mpr fun q => by rw [hw q]; exact (row w q).isLt)

theorem defaultActionOk_iff {v : Action} : defaultActionOk s p v = true ↔
    (v = .pass → s.straps.clear = true) ∧ ∀ a, v = .protect a → (s.assoc a).state = .idle ∨ (s.assoc a).port = p := by
  cases v <;> simp [defaultActionOk]

/-- The fields of a PORT_SET body pass checks 3 to 7 of R2 with these values. -/
def PortSetValid (s : State) (p : PortNum) (b : PortSetBody) (classMap : Vector ClassNum 8) (untagged : ClassNum)
    (action : Action) (policy : LinkDownPolicy) (inhibit : InhibitAction) : Prop :=
  b.portAddress.getLsbD 40 = false ∧ b.peerAddress.getLsbD 40 = false ∧ 0x0600 ≤ b.clpType.toNat
    ∧ b.clpType ≠ 0x8100 ∧ b.clpType ≠ 0x8808 ∧ (∀ q : Prio, (row b.classes q).toNat = (row classMap q).val)
    ∧ b.untaggedClass.toNat = untagged.val ∧ b.settle ≠ 0 ∧ b.linkDownPolicy = policy.code
    ∧ b.inhibitAction = inhibit.code ∧ CodesAction b.action b.actionAnum action
    ∧ (action = .pass → s.straps.clear = true)
    ∧ ∀ a, action = .protect a → (s.assoc a).state = .idle ∨ (s.assoc a).port = p

/-- The settings that a PORT_SET body writes with these values (R2). -/
def settingsWith (b : PortSetBody) (classMap : Vector ClassNum 8) (untagged : ClassNum) (action : Action)
    (policy : LinkDownPolicy) (inhibit : InhibitAction) : PortSettings :=
  { portAddress := b.portAddress, peerAddress := b.peerAddress, frameCeiling := max 64 (min b.frameCeiling.toNat 9216)
    clpType := b.clpType, classMap := classMap, untaggedClass := untagged, defaultAction := action
    settle := b.settle.toNat, linkDownPolicy := policy, inhibitAction := inhibit }

theorem addressesOk_iff {b : PortSetBody} :
    (individual b.portAddress && individual b.peerAddress && clpTypeOk b.clpType) = true ↔
      b.portAddress.getLsbD 40 = false ∧ b.peerAddress.getLsbD 40 = false ∧ 0x0600 ≤ b.clpType.toNat
        ∧ b.clpType ≠ 0x8100 ∧ b.clpType ≠ 0x8808 := by
  simp [individual, clpTypeOk, and_assoc]

theorem settingsOf_eq_some_iff {b : PortSetBody} {x : PortSettings} : settingsOf s p b = some x ↔
    ∃ classMap untagged action policy inhibit, PortSetValid s p b classMap untagged action policy inhibit
      ∧ settingsWith b classMap untagged action policy inhibit = x := by
  simp only [settingsOf, Option.bind_eq_bind, Option.bind_eq_some_iff, Option.guard_eq_some', Option.pure_def,
    Option.some.injEq, Option.filter_eq_some_iff, classesOf_eq_some_iff, inRange_eq_some_iff, linkDownPolicy_ofCode_iff,
    inhibitAction_ofCode_iff, action_ofCode_iff, defaultActionOk_iff, addressesOk_iff, bne_iff_ne]
  constructor
  · rintro ⟨_, ⟨hport, hpeer, hmin, hvlan, hmac⟩, classMap, hclasses, untagged, huntagged, _, hsettle, policy, hpolicy,
      inhibit, hinhibit, action, ⟨haction, hpass, hprotect⟩, h⟩
    exact ⟨classMap, untagged, action, policy, inhibit, ⟨hport, hpeer, hmin, hvlan, hmac, hclasses, huntagged, hsettle,
      hpolicy, hinhibit, haction, hpass, hprotect⟩, h⟩
  · rintro ⟨classMap, untagged, action, policy, inhibit, ⟨hport, hpeer, hmin, hvlan, hmac, hclasses, huntagged, hsettle,
      hpolicy, hinhibit, haction, hpass, hprotect⟩, h⟩
    exact ⟨(), ⟨hport, hpeer, hmin, hvlan, hmac⟩, classMap, hclasses, untagged, huntagged, (), hsettle, policy, hpolicy,
      inhibit, hinhibit, action, ⟨haction, hpass, hprotect⟩, h⟩

theorem settingsOf_eq_none {b : PortSetBody}
    (h : ∀ classMap untagged action policy inhibit, ¬PortSetValid s p b classMap untagged action policy inhibit) :
    settingsOf s p b = none := by
  refine Option.eq_none_iff_forall_not_mem.mpr fun x hx => ?_
  obtain ⟨classMap, untagged, action, policy, inhibit, hvalid, -⟩ := settingsOf_eq_some_iff.mp hx
  exact h _ _ _ _ _ hvalid

section PortSet

variable {b : PortSetBody}

theorem servePortSet_noPort (h : 4 ≤ b.port.toNat) : servePortSet b s = refuse .badValue s := by
  rw [servePortSet, inRange_eq_none h]

theorem servePortSet_active (hp : b.port.toNat = p.val) (h : (s.port p).mode = .protect) :
    servePortSet b s = refuse .portActive s := by
  simp only [servePortSet, inRange_eq_some_iff.mpr hp, ne_eq, mode_ne_off h, not_false_eq_true, if_true]

theorem servePortSet_bad (hp : b.port.toNat = p.val) (h : (s.port p).mode = .off) (hbad : settingsOf s p b = none) :
    servePortSet b s = refuse .badValue s := by
  simp only [servePortSet, inRange_eq_some_iff.mpr hp, ne_eq, h, not_true_eq_false, if_false, hbad]

theorem servePortSet_done {x : PortSettings} (hp : b.port.toNat = p.val) (h : (s.port p).mode = .off)
    (hx : settingsOf s p b = some x) :
    servePortSet b s = done (toLE 2 x.frameCeiling) (s.updPort p fun y => { y with settings := x }) := by
  simp only [servePortSet, inRange_eq_some_iff.mpr hp, ne_eq, h, not_true_eq_false, if_false, hx]

theorem length_writePortSet_inRange : RequestKind.portSet.bodyRange.1 ≤ (writePortSet b).length
    ∧ (writePortSet b).length ≤ RequestKind.portSet.bodyRange.2 := by
  rw [length_writePortSet]
  decide

end PortSet

/-- Settles O39: one answer for each check of the two requests, and the row that is written. -/
theorem portSetAndPortSwitch : Obligations.PortSetAndPortSwitch := by
  refine ⟨fun tag b s htakes => ⟨fun hb => ?noPort, fun p hp => ⟨fun h => ?active, fun h hbad => ?bad,
      fun classMap untagged action policy inhibit h hvalid => ?good⟩⟩,
    fun tag b first last s htakes => ⟨fun hb => ?switchNoPort, fun p hp => ⟨fun h => ?switchActive, fun h hlt => ?switchBad,
      fun h hle => ?switchGood⟩⟩⟩
  case noPort =>
    exact requestArrives_refused (kind := .portSet) htakes length_writePortSet_inRange (servePortSet_noPort hb) (by decide)
  case active =>
    exact requestArrives_refused (kind := .portSet) htakes length_writePortSet_inRange (servePortSet_active hp h) (by decide)
  case bad =>
    exact requestArrives_refused (kind := .portSet) htakes length_writePortSet_inRange
      (servePortSet_bad hp h (settingsOf_eq_none hbad)) (by decide)
  case good =>
    have hx : settingsOf (counted s) p b = some (settingsWith b classMap untagged action policy inhibit) :=
      settingsOf_eq_some_iff.mpr ⟨classMap, untagged, action, policy, inhibit, hvalid, rfl⟩
    exact requestArrives_done (kind := .portSet) htakes length_writePortSet_inRange
      (servePortSet_done (s := counted s) hp h hx)
  case switchNoPort =>
    exact requestArrives_refused (kind := .portSwitch) htakes (by decide) (servePortSwitch_noPort hb) (by decide)
  case switchActive =>
    exact requestArrives_refused (kind := .portSwitch) htakes (by decide) (servePortSwitch_active hp h) (by decide)
  case switchBad =>
    have hserve := servePortSwitch_off (s := counted s) (first := first) (last := last) hp h
    exact requestArrives_refused (kind := .portSwitch) htakes (by decide) (hserve.trans (if_pos hlt)) (by decide)
  case switchGood =>
    have hserve := servePortSwitch_off (s := counted s) (first := first) (last := last) hp h
    exact requestArrives_done (kind := .portSwitch) htakes (by decide) (hserve.trans (if_neg hle.not_gt))

/-! ## PORT_FLOW (R107) -/

/-- A PORT_FLOW body passes checks 3 to 5 of R107. -/
def PortFlowValid (b : PortFlowBody) : Prop :=
  (b.pauseEnable = 0 ∨ b.pauseEnable = 1)
    ∧ (row b.ceiling 0).toNat + (row b.ceiling 1).toNat + (row b.ceiling 2).toNat + (row b.ceiling 3).toNat ≤ 2048
    ∧ ∀ k : ClassNum, 0 < (row b.lower k).toNat ∧ (row b.lower k).toNat < (row b.upper k).toNat
      ∧ (row b.upper k).toNat ≤ (row b.ceiling k).toNat ∧ (row b.ceiling k).toNat ≤ 2048

/-- The flow settings that a PORT_FLOW body writes (R107). -/
def flowWith (b : PortFlowBody) : FlowSettings :=
  { pauseEnable := b.pauseEnable == 0
    ceiling := Vector.ofFn fun k => (row b.ceiling k).toNat
    upper := Vector.ofFn fun k => (row b.upper k).toNat
    lower := Vector.ofFn fun k => (row b.lower k).toNat
    quanta := if b.quanta = 0 then 1 else b.quanta.toNat }

section PortFlow

variable {b : PortFlowBody}

theorem pauseEnableOfCode_eq_some_iff {c : Byte} {on : Bool} :
    pauseEnableOfCode c = some on ↔ (c = 0 ∨ c = 1) ∧ (c == 0) = on := by
  refine twoCodes_eq_some_iff.trans ⟨?_, ?_⟩
  · rintro (⟨rfl, rfl⟩ | ⟨rfl, rfl⟩) <;> decide
  · rintro ⟨rfl | rfl, rfl⟩ <;> decide

theorem ceilings_sum : (classesDown.map fun k => (row b.ceiling k).toNat).sum
    = (row b.ceiling 0).toNat + (row b.ceiling 1).toNat + (row b.ceiling 2).toNat + (row b.ceiling 3).toNat := by
  simp only [classesDown, List.map_cons, List.map_nil, List.sum_cons, List.sum_nil]
  omega

theorem thresholdsOk_all : classesDown.all (thresholdsOk b) = true ↔
    ∀ k : ClassNum, 0 < (row b.lower k).toNat ∧ (row b.lower k).toNat < (row b.upper k).toNat
      ∧ (row b.upper k).toNat ≤ (row b.ceiling k).toNat ∧ (row b.ceiling k).toNat ≤ 2048 := by
  have hmem (k : ClassNum) : k ∈ classesDown := by revert k; decide
  simp only [List.all_eq_true, thresholdsOk, decide_eq_true_eq]
  exact ⟨fun h k => h k (hmem k), fun h k _ => h k⟩

theorem quanta_eq : max 1 b.quanta.toNat = if b.quanta = 0 then 1 else b.quanta.toNat := by
  split
  · simp [*]
  · next h =>
    have : b.quanta.toNat ≠ 0 := fun h0 => h (BitVec.eq_of_toNat_eq h0)
    omega

theorem flowOf_eq_some_iff {x : FlowSettings} : flowOf b = some x ↔ PortFlowValid b ∧ flowWith b = x := by
  simp only [flowOf, Option.bind_eq_bind, Option.bind_eq_some_iff, Option.guard_eq_some', Option.pure_def,
    Option.some.injEq, pauseEnableOfCode_eq_some_iff, thresholdsOk_all, decide_eq_true_eq, ceilings_sum, quanta_eq]
  constructor
  · rintro ⟨_, ⟨hcode, rfl⟩, _, hall, _, hsum, h⟩
    exact ⟨⟨hcode, hsum, hall⟩, h⟩
  · rintro ⟨⟨hcode, hsum, hall⟩, h⟩
    exact ⟨_, ⟨hcode, rfl⟩, (), hall, (), hsum, h⟩

theorem cellBytes_eq (v : Vector (BitVec 16) 4) :
    cellBytes (Vector.ofFn fun k => (row v k).toNat) = v.toList.flatMap fun x => toLE 2 x.toNat := by
  rw [vector4_eq v]
  simp [cellBytes, row]

theorem flowBytes_flowWith (h : PortFlowValid b) : flowBytes (flowWith b)
    = [b.pauseEnable] ++ (b.ceiling.toList.flatMap fun x => toLE 2 x.toNat)
      ++ (b.upper.toList.flatMap fun x => toLE 2 x.toNat) ++ (b.lower.toList.flatMap fun x => toLE 2 x.toNat)
      ++ toLE 2 (flowWith b).quanta := by
  have hcode : pauseEnableCode (b.pauseEnable == 0) = b.pauseEnable := by
    obtain ⟨h | h, -⟩ := h <;> rw [h] <;> decide
  simp only [flowBytes, flowWith, cellBytes_eq, hcode]

theorem servePortFlow_noPort (h : 4 ≤ b.port.toNat) : servePortFlow b s = refuse .badValue s := by
  rw [servePortFlow, inRange_eq_none h]

theorem servePortFlow_active (hp : b.port.toNat = p.val) (h : (s.port p).mode = .protect) :
    servePortFlow b s = refuse .portActive s := by
  simp only [servePortFlow, inRange_eq_some_iff.mpr hp, ne_eq, mode_ne_off h, not_false_eq_true, if_true]

theorem servePortFlow_bad (hp : b.port.toNat = p.val) (h : (s.port p).mode = .off) (hbad : ¬PortFlowValid b) :
    servePortFlow b s = refuse .badValue s := by
  have hnone : flowOf b = none :=
    Option.eq_none_iff_forall_not_mem.mpr fun x hx => hbad (flowOf_eq_some_iff.mp hx).1
  simp only [servePortFlow, inRange_eq_some_iff.mpr hp, ne_eq, h, not_true_eq_false, if_false, hnone]

theorem servePortFlow_done (hp : b.port.toNat = p.val) (h : (s.port p).mode = .off) (hvalid : PortFlowValid b) :
    servePortFlow b s = done (flowBytes (flowWith b)) (s.updPort p fun x => { x with flow := flowWith b }) := by
  simp only [servePortFlow, inRange_eq_some_iff.mpr hp, ne_eq, h, not_true_eq_false, if_false,
    flowOf_eq_some_iff.mpr ⟨hvalid, rfl⟩]

theorem length_writePortFlow_inRange : RequestKind.portFlow.bodyRange.1 ≤ (writePortFlow b).length
    ∧ (writePortFlow b).length ≤ RequestKind.portFlow.bodyRange.2 := by
  rw [length_writePortFlow]
  decide

end PortFlow

/-- Settles O41: one answer for each check, and the flow settings written and reported. -/
theorem portFlowReplacesTheSettings : Obligations.PortFlowReplacesTheSettings := by
  intro tag b s
  refine ⟨fun h => ?notReady, fun htakes hb => ?noPort, fun p htakes hp => ⟨fun h => ?active, fun h hbad => ?bad,
    fun h hvalid => ?good⟩⟩
  case notReady =>
    refine requestArrives_notReady (kind := .portFlow) h fun x hx => ?_
    cases x
    case testing => rfl
    case running => exact absurd rfl hx
    case halted => rfl
  case noPort =>
    exact requestArrives_refused (kind := .portFlow) htakes length_writePortFlow_inRange (servePortFlow_noPort hb) (by decide)
  case active =>
    exact requestArrives_refused (kind := .portFlow) htakes length_writePortFlow_inRange (servePortFlow_active hp h)
      (by decide)
  case bad =>
    exact requestArrives_refused (kind := .portFlow) htakes length_writePortFlow_inRange (servePortFlow_bad hp h hbad)
      (by decide)
  case good =>
    have hvalid : PortFlowValid b := hvalid
    have hserve := servePortFlow_done (s := counted s) hp h hvalid
    rw [flowBytes_flowWith hvalid] at hserve
    exact requestArrives_done (kind := .portFlow) htakes length_writePortFlow_inRange hserve

/-! ## STEER_SET, STEER_LOCK, STEER_CLEAR (R34, R36, R37) -/

/-- A STEER_SET body passes checks 3 to 6 of R34 with these values. -/
def SteerSetValid (s : State) (b : SteerSetBody) (tagging : Tagging) (action : Action) (override : Option ClassNum) :
    Prop :=
  b.tagging = tagging.code ∧ b.ports.toNat < 16
    ∧ b.vlanValue.toNat < 4096 ∧ b.vlanMask.toNat < 4096 ∧ b.prioValue.toNat < 8 ∧ b.prioMask.toNat < 8
    ∧ (tagging = .untagged → b.vlanMask = 0 ∧ b.prioMask = 0)
    ∧ CodesAction b.action b.actionAnum action ∧ (action = .pass → s.straps.clear = true)
    ∧ b.classOverride = optionByte override

/-- The entry that a STEER_SET body writes with these values (R24, R34). -/
def steerWith (b : SteerSetBody) (tagging : Tagging) (action : Action) (override : Option ClassNum) : SteerEntry :=
  { valid := true, locked := false, ports := b.ports.setWidth 4, tagging := tagging,
    vlanValue := b.vlanValue.setWidth 12, vlanMask := b.vlanMask.setWidth 12, prioValue := b.prioValue.setWidth 3,
    prioMask := b.prioMask.setWidth 3, addressValue := b.addressValue, addressMask := b.addressMask,
    typeValue := b.typeValue, typeMask := b.typeMask, action := action, classOverride := override, hits := 0 }

section SteerSet

variable {b : SteerSetBody}

theorem overrideOf_eq_some_iff {c : Byte} {v : Option ClassNum} : overrideOf c = some v ↔ c = optionByte v := by
  rw [overrideOf]
  cases v with
  | none => simp [optionByte]
  | some k =>
    have hcode : c = BitVec.ofNat 8 k.val ↔ c.toNat = k.val := by
      rw [byte_eq_iff, BitVec.toNat_ofNat, Nat.mod_eq_of_lt (by omega)]
    simp only [optionByte, hcode]
    split
    case isTrue h =>
      have : c.toNat = 255 := by rw [h]; rfl
      simp only [Option.some.injEq, reduceCtorEq, false_iff]
      omega
    case isFalse => simp [inRange_eq_some_iff]

theorem steerActionOk_iff {v : Action} : steerActionOk s v = true ↔ (v = .pass → s.straps.clear = true) := by
  cases v <;> simp [steerActionOk]

theorem boundsOk_iff : (decide (b.ports.toNat < 16) && pairOk b.vlanValue.toNat b.vlanMask.toNat 0xFFF
      && pairOk b.prioValue.toNat b.prioMask.toNat 7) = true ↔
    b.ports.toNat < 16 ∧ b.vlanValue.toNat < 4096 ∧ b.vlanMask.toNat < 4096 ∧ b.prioValue.toNat < 8
      ∧ b.prioMask.toNat < 8 := by
  simp only [pairOk, Bool.and_eq_true, decide_eq_true_eq]
  omega

theorem untaggedOk_iff {tagging : Tagging} :
    (tagging != .untagged || (b.vlanMask == 0 && b.prioMask == 0)) = true ↔
      (tagging = .untagged → b.vlanMask = 0 ∧ b.prioMask = 0) := by
  simp only [Bool.or_eq_true, bne_iff_ne, Bool.and_eq_true, beq_iff_eq]
  tauto

theorem steerEntryOf_eq_some_iff {e : SteerEntry} : steerEntryOf s b = some e ↔
    ∃ tagging action override, SteerSetValid s b tagging action override ∧ steerWith b tagging action override = e := by
  simp only [steerEntryOf, Option.bind_eq_bind, Option.bind_eq_some_iff, Option.guard_eq_some', Option.pure_def,
    Option.some.injEq, Option.filter_eq_some_iff, tagging_ofCode_iff, action_ofCode_iff, steerActionOk_iff, boundsOk_iff,
    untaggedOk_iff, overrideOf_eq_some_iff]
  constructor
  · rintro ⟨tagging, htagging, _, ⟨hports, hvlan, hvlanMask, hprio, hprioMask⟩, _, huntagged, action, ⟨haction, hpass⟩,
      override, hoverride, h⟩
    exact ⟨tagging, action, override, ⟨htagging, hports, hvlan, hvlanMask, hprio, hprioMask, huntagged, haction, hpass,
      hoverride⟩, h⟩
  · rintro ⟨tagging, action, override, ⟨htagging, hports, hvlan, hvlanMask, hprio, hprioMask, huntagged, haction, hpass,
      hoverride⟩, h⟩
    exact ⟨tagging, htagging, (), ⟨hports, hvlan, hvlanMask, hprio, hprioMask⟩, (), huntagged, action, ⟨haction, hpass⟩,
      override, hoverride, h⟩

theorem serveSteerSet_noEntry (h : 128 ≤ b.index.toNat) : serveSteerSet b s = refuse .badValue s := by
  rw [serveSteerSet, inRange_eq_none h]

theorem serveSteerSet_locked (hi : b.index.toNat = i.val) (h : (s.entry i).locked = true) :
    serveSteerSet b s = refuse .locked s := by
  simp only [serveSteerSet, inRange_eq_some_iff.mpr hi, h, if_true]

theorem serveSteerSet_bad (hi : b.index.toNat = i.val) (h : (s.entry i).locked = false)
    (hbad : ∀ tagging action override, ¬SteerSetValid s b tagging action override) :
    serveSteerSet b s = refuse .badValue s := by
  have hnone : steerEntryOf s b = none := Option.eq_none_iff_forall_not_mem.mpr fun x hx => by
    obtain ⟨_, _, _, hvalid, -⟩ := steerEntryOf_eq_some_iff.mp hx
    exact hbad _ _ _ hvalid
  simp only [serveSteerSet, inRange_eq_some_iff.mpr hi, h, Bool.false_eq_true, if_false, hnone]

theorem serveSteerSet_done {tagging : Tagging} {action : Action} {override : Option ClassNum}
    (hi : b.index.toNat = i.val) (h : (s.entry i).locked = false) (hvalid : SteerSetValid s b tagging action override) :
    serveSteerSet b s = done [] (s.updEntry i fun _ => steerWith b tagging action override) := by
  simp only [serveSteerSet, inRange_eq_some_iff.mpr hi, h, Bool.false_eq_true, if_false,
    steerEntryOf_eq_some_iff.mpr ⟨tagging, action, override, hvalid, rfl⟩]

theorem length_writeSteerSet_inRange : RequestKind.steerSet.bodyRange.1 ≤ (writeSteerSet b).length
    ∧ (writeSteerSet b).length ≤ RequestKind.steerSet.bodyRange.2 := by
  rw [length_writeSteerSet]
  decide

end SteerSet

theorem serveSteerLock_noEntry (h : 128 ≤ b.toNat) : serveSteerLock b s = refuse .badValue s := by
  rw [serveSteerLock, inRange_eq_none h]

theorem serveSteerLock_entry (hi : b.toNat = i.val) : serveSteerLock b s
    = if (s.entry i).valid = false then refuse .state s else done [] (s.updEntry i fun e => { e with locked := true }) := by
  simp only [serveSteerLock, inRange_eq_some_iff.mpr hi]

theorem serveSteerClear_noEntry (h : 128 ≤ b.toNat) : serveSteerClear b s = refuse .badValue s := by
  rw [serveSteerClear, inRange_eq_none h]

theorem serveSteerClear_entry (hi : b.toNat = i.val) : serveSteerClear b s
    = if (s.entry i).locked then refuse .locked s else done [] (s.updEntry i fun _ => SteerEntry.reset) := by
  simp only [serveSteerClear, inRange_eq_some_iff.mpr hi]

/-- Settles O42: one answer for each check of the three requests, and the entry that is written. -/
theorem steeringRequests : Obligations.SteeringRequests := by
  intro tag s htakes
  refine ⟨fun b hb => ?noEntry, fun b hb => ⟨?lockNoEntry, ?clearNoEntry⟩, fun i => ⟨fun b hi => ⟨fun h => ?locked,
    fun h hbad => ?bad, fun tagging action override h hvalid => ?good⟩, fun b hi => ⟨fun h => ?lock, fun h => ?lockInvalid,
    fun h => ?clear, fun h => ?clearLocked⟩⟩⟩
  case noEntry =>
    exact requestArrives_refused (kind := .steerSet) htakes length_writeSteerSet_inRange (serveSteerSet_noEntry hb)
      (by decide)
  case lockNoEntry =>
    exact requestArrives_refused (kind := .steerLock) htakes (by decide) (serveSteerLock_noEntry hb) (by decide)
  case clearNoEntry =>
    exact requestArrives_refused (kind := .steerClear) htakes (by decide) (serveSteerClear_noEntry hb) (by decide)
  case locked =>
    exact requestArrives_refused (kind := .steerSet) htakes length_writeSteerSet_inRange (serveSteerSet_locked hi h)
      (by decide)
  case bad =>
    exact requestArrives_refused (kind := .steerSet) htakes length_writeSteerSet_inRange (serveSteerSet_bad hi h hbad)
      (by decide)
  case good =>
    exact requestArrives_done (kind := .steerSet) htakes length_writeSteerSet_inRange
      (serveSteerSet_done (s := counted s) hi h hvalid)
  case lock =>
    exact requestArrives_done (kind := .steerLock) htakes (by decide)
      ((serveSteerLock_entry (s := counted s) hi).trans (if_neg (ne_false_of_eq_true h)))
  case lockInvalid =>
    exact requestArrives_refused (kind := .steerLock) htakes (by decide) ((serveSteerLock_entry hi).trans (if_pos h))
      (by decide)
  case clear =>
    exact requestArrives_done (kind := .steerClear) htakes (by decide)
      ((serveSteerClear_entry (s := counted s) hi).trans (if_neg (ne_true_of_eq_false h)))
  case clearLocked =>
    exact requestArrives_refused (kind := .steerClear) htakes (by decide) ((serveSteerClear_entry hi).trans (if_pos h))
      (by decide)

end Sys2Proof.Proofs
end

section
/-! SUPPORT. The requests that report (R3, R35, R50, R75, R177, R178, R181, R186), and the transport key (R68). -/

/-! One theorem is checked after another, as in the tests, which bounds the threads that the whole text takes. -/

set_option Elab.async false

namespace Sys2Proof.Proofs
open Sys2Proof Sys2Proof.Machine

variable {s t : State} {tag b : Byte} {a : Anum} {p : PortNum} {i : EntryIdx} {k : SlotNum}

/-! ## Requests that are taken in RUNNING and in HALTED (R168, R185) -/

theorem requestArrives_open {kind : RequestKind} {serve : State → Served} {fields : Bytes}
    (hreset : s.pins.resetLow = false) (hreply : s.replyOwed = none) (hbusy : s.busyOwed = none)
    (htaken : kind.takenIn s.partState = true) (hlen : kind.bodyRange.1 = 0) (hserve : serve (counted s) = done fields t) :
    requestArrives kind tag 0 serve s = .next (owingOk (replyKind kind.code) tag fields t) := by
  have htake : takeRequest kind 0 serve (counted s) = done fields t := by
    rw [takeRequest, if_neg (ne_false_of_eq_true (show kind.takenIn (counted s).partState = true from htaken)),
      if_neg (by omega), hserve]
  rw [requestArrives, unlessHeld_released hreset, recordArrives_idle _ _ _ _ hreply hbusy, htake, oweReply_done]

/-! ## Sets in one byte (R169) -/

theorem foldr_bits (v : List Bool) : v.foldr (fun b n => (if b then 1 else 0) + 2 * n) 0
    = ((List.range v.length).map fun i => if v.getD i false then 2 ^ i else 0).sum := by
  induction v with
  | nil => rfl
  | cons b v ih =>
    have hterm (i : Nat) : (if (b :: v).getD (i + 1) false then 2 ^ (i + 1) else 0)
        = 2 * if v.getD i false then 2 ^ i else 0 := by
      rw [List.getD_cons_succ, mul_ite, Nat.mul_zero, Nat.pow_succ']
    rw [List.foldr_cons, ih, List.length_cons, List.range_succ_eq_map, List.map_cons, List.sum_cons, List.map_map,
      ← List.sum_map_mul_left]
    simp only [Function.comp_def, Nat.succ_eq_add_one, hterm]
    rfl

theorem setByte_eq (v : List Bool) : setByte v
    = BitVec.ofNat 8 ((List.range v.length).map fun i => if v.getD i false then 2 ^ i else 0).sum := by
  rw [setByte, foldr_bits]

theorem sum_filter_map {α : Type} (c : α → Bool) (f : α → Nat) (xs : List α) :
    ((xs.filter c).map f).sum = (xs.map fun x => if c x then f x else 0).sum := by
  induction xs with
  | nil => rfl
  | cons x xs ih => cases h : c x <;> simp [h, ih]

theorem setByte_lanes (s : State) : setByte s.lanesInService
    = BitVec.ofNat 8 ((allLanes.filter fun l => s.lane l != .outOfService).map fun l => 2 ^ l.val).sum := by
  rw [sum_filter_map, setByte_eq]
  simp [State.lanesInService, allLanes, List.range_succ]

/-! ## IDENTIFY and RESET (R186) -/

theorem takenIn_of_open (hstate : s.partState = .running ∨ s.partState = .halted) :
    RequestKind.identify.takenIn s.partState = true ∧ RequestKind.reset.takenIn s.partState = true
      ∧ RequestKind.faultsRead.takenIn s.partState = true := by
  rcases hstate with h | h <;> rw [h] <;> decide

theorem identifyBytes_eq (hstate : s.partState = .running ∨ s.partState = .halted) : identifyBytes s
    = [0x46, 0x40, 0x04, 0x01, BitVec.ofNat 8 s.straps.rate.val, yesNo s.straps.clear,
        if s.partState = .running then 0x01 else 0x02]
      ++ [BitVec.ofNat 8 ((allLanes.filter fun l => s.lane l != .outOfService).map fun l => 2 ^ l.val).sum] := by
  rw [identifyBytes, setByte_lanes]
  rcases hstate with h | h <;> rw [h] <;> rfl

/-! ## PORT_GET, STEER_GET, ASSOC_GET, SLOT_GET (R3, R35, R50, R75) -/

theorem serveGet_noNumber :
    (4 ≤ b.toNat → servePortGet b s = refuse .badValue s) ∧ (128 ≤ b.toNat → serveSteerGet b s = refuse .badValue s)
      ∧ (64 ≤ b.toNat → serveAssocGet b s = refuse .badValue s)
      ∧ (128 ≤ b.toNat → serveSlotGet b s = refuse .badValue s) := by
  refine ⟨fun h => ?_, fun h => ?_, fun h => ?_, fun h => ?_⟩
  · rw [servePortGet, inRange_eq_none h]
  · rw [serveSteerGet, inRange_eq_none h]
  · rw [serveAssocGet, inRange_eq_none h]
  · rw [serveSlotGet, inRange_eq_none h]

theorem classBytes_eq (v : Vector ClassNum 8) : allPrios.map (fun q => BitVec.ofNat 8 (row v q).val)
    = v.toList.map fun k => BitVec.ofNat 8 k.val := by
  apply List.ext_getElem
  · simp [allPrios]
  · intro n hn _
    have hn : n < 8 := by simpa [allPrios] using hn
    interval_cases n <;> simp [allPrios, row]

theorem servePortGet_done (hp : b.toNat = p.val) : servePortGet b s = done
    (toBE 6 (s.port p).settings.portAddress.toNat ++ toBE 6 (s.port p).settings.peerAddress.toNat
      ++ toLE 2 (s.port p).settings.frameCeiling ++ toLE 2 (s.port p).settings.clpType.toNat
      ++ ((s.port p).settings.classMap.toList.map fun k => BitVec.ofNat 8 k.val)
      ++ [BitVec.ofNat 8 (s.port p).settings.untaggedClass.val] ++ (s.port p).settings.defaultAction.bytes
      ++ [BitVec.ofNat 8 (s.port p).settings.settle, (s.port p).settings.linkDownPolicy.code,
          (s.port p).settings.inhibitAction.code, (s.port p).mode.code, (s.port p).link.code,
          yesNo (row s.hwFaults.buffers p)]) s := by
  simp only [servePortGet, inRange_eq_some_iff.mpr hp, settingsBytes, classBytes_eq, List.append_assoc, List.cons_append,
    List.nil_append]

theorem serveSteerGet_done (hi : b.toNat = i.val) : serveSteerGet b s = done (steerBytes (s.entry i)) s := by
  simp only [serveSteerGet, inRange_eq_some_iff.mpr hi]

theorem serveAssocGet_done (ha : b.toNat = a.val) : serveAssocGet b s = done (assocBytes (s.assoc a)) s := by
  simp only [serveAssocGet, inRange_eq_some_iff.mpr ha]

theorem serveSlotGet_done (hk : b.toNat = k.val) : serveSlotGet b s = done (slotBytes s k) s := by
  simp only [serveSlotGet, inRange_eq_some_iff.mpr hk]

theorem noticeStatus_code (x : NoticeStatus) : x.code = if x = .queued then 0 else 1 := by
  cases x <;> rfl

/-- The bytes of ASSOC_GET, field by field (R50). -/
theorem assocBytes_eq (x : Assoc) : assocBytes x =
    [x.state.code, BitVec.ofNat 8 x.port.val, x.protection.code, x.vlan.code]
      ++ toBE 4 x.label.toNat ++ [x.firstEpoch, x.currentEpoch, optionByte x.current, optionByte x.next]
      ++ toLE 5 x.nextPn ++ [if Config.pnMax < x.nextPn then 1 else 0] ++ toLE 5 x.switchMark ++ toLE 5 x.stopMark
      ++ [x.triggerPolicy.code, x.confirmPolicy.code] ++ toLE 2 x.lifetimeReload ++ [x.lifetimeScale.code]
      ++ toLE 2 x.lifetimeRemaining ++ [yesNo x.switchPending, yesNo x.switchDue]
      ++ [match x.pendingKind with | some kind => kind.code | none => 0xFF]
      ++ [yesNo x.corruptOne, yesNo x.corruptAll] ++ toLE 5 x.floorCurrent ++ toLE 5 x.floorNext
      ++ (match x.attempt with
          | some y => [1, BitVec.ofNat 8 y.number, BitVec.ofNat 8 y.step, BitVec.ofNat 8 y.pulses,
              if y.status = .queued then 0 else 1]
          | none => [0, 0, 0, 0, 0]) := by
  have hattempt : attemptBytes x.attempt = match x.attempt with
      | some y => [1, BitVec.ofNat 8 y.number, BitVec.ofNat 8 y.step, BitVec.ofNat 8 y.pulses,
          if y.status = .queued then 0 else 1]
      | none => [0, 0, 0, 0, 0] := by
    cases x.attempt with
    | none => rfl
    | some y => simp only [attemptBytes, noticeStatus_code]
  have hspent : yesNo (decide (Config.pnMax < x.nextPn)) = if Config.pnMax < x.nextPn then 1 else 0 := by
    simp [yesNo]
  have hpending : pendingKindByte x.pendingKind = match x.pendingKind with | some kind => kind.code | none => 0xFF := by
    cases x.pendingKind <;> rfl
  rw [assocBytes, hattempt, nextPnBytes, hspent, hpending]
  simp only [List.append_assoc, List.cons_append, List.nil_append]

theorem length_attemptBytes (x : Option Attempt) : (attemptBytes x).length = 5 := by
  cases x <;> rfl

theorem length_assocBytes (x : Assoc) : (assocBytes x).length = 55 := by
  simp [assocBytes, nextPnBytes, length_attemptBytes]

/-- Settles O38: each report in the order of the table, with no other change. -/
theorem reportsChangeNothing : Obligations.ReportsChangeNothing := by
  refine ⟨fun tag s hreset hreply hbusy hstate => ?_, fun tag b s htakes => ?_⟩
  · obtain ⟨hidentify, hresetKind, -⟩ := takenIn_of_open hstate
    refine ⟨?_, requestArrives_open (kind := .reset) hreset hreply hbusy hresetKind rfl rfl⟩
    have hbytes := identifyBytes_eq (s := counted s) hstate
    exact requestArrives_open (kind := .identify) hreset hreply hbusy hidentify rfl (congrArg (done · (counted s)) hbytes)
  · obtain ⟨hport, hsteer, hassoc, hslot⟩ := serveGet_noNumber (s := counted s) (b := b)
    refine ⟨fun h => ?_, fun h => ?_, fun h => ?_, fun h => ?_, fun p hp => ?_, fun i hi => ?_, fun a ha => ?_,
      fun k hk => ?_⟩
    · exact requestArrives_refused (kind := .portGet) htakes (by decide) (hport h) (by decide)
    · exact requestArrives_refused (kind := .steerGet) htakes (by decide) (hsteer h) (by decide)
    · exact requestArrives_refused (kind := .assocGet) htakes (by decide) (hassoc h) (by decide)
    · exact requestArrives_refused (kind := .slotGet) htakes (by decide) (hslot h) (by decide)
    · exact requestArrives_done (kind := .portGet) htakes (by decide) (servePortGet_done (s := counted s) hp)
    · exact requestArrives_done (kind := .steerGet) htakes (by decide) (serveSteerGet_done (s := counted s) hi)
    · have hbytes := assocBytes_eq (s.assoc a)
      have hserve := serveAssocGet_done (s := counted s) ha
      exact ⟨hbytes ▸ length_assocBytes _,
        requestArrives_done (kind := .assocGet) htakes (by decide) (hserve.trans (congrArg (done · (counted s)) hbytes))⟩
    · exact requestArrives_done (kind := .slotGet) htakes (by decide) (serveSlotGet_done (s := counted s) hk)

/-! ## EVENTS_FETCH and FAULTS_READ (R177, R178) -/

theorem serveEventsFetch_refused {count write : Byte} {mask : BitVec 32} (h : 1 < write.toNat) :
    serveEventsFetch count write mask s = refuse .badValue s := if_pos h

theorem serveEventsFetch_done {count write : Byte} {mask : BitVec 32} (h : write.toNat ≤ 1) :
    serveEventsFetch count write mask s = done
      ([BitVec.ofNat 8 (min count.toNat 32), yesNo s.eventsLost]
        ++ toLE 4 (if write = 1 then mask.setWidth 21 else s.eventMask).toNat
        ++ [BitVec.ofNat 8 (s.events.take (min count.toNat 32)).length]
        ++ (s.events.take (min count.toNat 32)).flatMap eventBytes)
      { s with
        events := s.events.drop (min count.toNat 32), eventsLost := false
        eventMask := if write = 1 then mask.setWidth 21 else s.eventMask } := if_neg h.not_gt

/-- Settles O52: the events taken and the faults read, byte by byte, and what they leave. -/
theorem eventsAndFaultsAreRead : Obligations.EventsAndFaultsAreRead := by
  refine fun tag s => ⟨fun count write mask htakes => ⟨fun h => ?_, fun h => ?_⟩, fun hreset hreply hbusy hstate => ?_⟩
  · exact requestArrives_refused (kind := .eventsFetch) htakes (by decide) (serveEventsFetch_refused h) (by decide)
  · exact requestArrives_done (kind := .eventsFetch) htakes (by decide) (serveEventsFetch_done (s := counted s) h)
  · obtain ⟨-, -, hfaults⟩ := takenIn_of_open hstate
    refine requestArrives_open (kind := .faultsRead) hreset hreply hbusy hfaults rfl ?_
    simp only [serveFaultsRead, hwFaultBytes, setByte_eq]
    rfl

/-! ## COUNTERS_READ (R181) -/

theorem block_ofCode_none (h : 2 < b.toNat) : CounterBlock.ofCode b = none :=
  List.getElem?_eq_none h

section Counters

variable {first count clear : Byte} {block : CounterBlock}

/-- How many records a request returns (R181 step 3). -/
def countersUsed (block : CounterBlock) (first count : Byte) : Nat :=
  min (min count.toNat block.most) (block.size - first.toNat)

theorem serveCountersRead_noBlock (h : 2 < b.toNat) : serveCountersRead b first count clear s = refuse .badValue s := by
  rw [serveCountersRead, block_ofCode_none h]

theorem serveCountersRead_badClear (h : 1 < clear.toNat) :
    serveCountersRead b first count clear s = refuse .badValue s := by
  rw [serveCountersRead]
  cases CounterBlock.ofCode b with
  | none => rfl
  | some x => exact if_pos h

theorem serveCountersRead_badFirst (hb : CounterBlock.ofCode b = some block) (h : block.size ≤ first.toNat) :
    serveCountersRead b first count clear s = refuse .badValue s := by
  simp only [serveCountersRead, hb, h, if_true, ite_self]

theorem serveCountersRead_done (hb : CounterBlock.ofCode b = some block) (hclear : clear.toNat ≤ 1)
    (h : first.toNat < block.size) : serveCountersRead b first count clear s = done
      ([block.code, first, BitVec.ofNat 8 (countersUsed block first count), clear]
        ++ counterBytes (counterSnapshot block first.toNat (countersUsed block first count) s))
      (if clear = 1 then clearCounters block first.toNat (countersUsed block first count) s else s) := by
  simp only [serveCountersRead, hb, hclear.not_gt, h.not_ge, if_false, countersUsed]

theorem exec_countersRead_refused (htakes : TakesRequests s)
    (hserve : serveCountersRead b first count clear (counted s) = refuse .badValue (counted s)) :
    exec (.countersRead tag b first count clear) s = .next (owingRefusal 0x9A tag 0x04 (counted s)) :=
  requestArrives_refused (kind := .countersRead) htakes (by decide) hserve (by decide)

theorem exec_countersRead_done (htakes : TakesRequests s) (hb : CounterBlock.ofCode b = some block)
    (hclear : clear.toNat ≤ 1) (h : first.toNat < block.size) :
    exec (.countersRead tag b first count clear) s = .next (owingOk 0x9A tag
      ([block.code, first, BitVec.ofNat 8 (countersUsed block first count), clear]
        ++ counterBytes (counterSnapshot block first.toNat (countersUsed block first count) s))
      (if clear = 1 then clearCounters block first.toNat (countersUsed block first count) (counted s) else counted s)) := by
  have hserve := serveCountersRead_done (s := counted s) (count := count) hb hclear h
  rw [show counterSnapshot block first.toNat (countersUsed block first count) (counted s)
    = counterSnapshot block first.toNat (countersUsed block first count) s by cases block <;> rfl] at hserve
  exact requestArrives_done (kind := .countersRead) htakes (by decide) hserve

end Counters

theorem counterBytes_port (first used : Nat) (s : State) : counterBytes (counterSnapshot .port first used s)
    = (((List.finRange 4).filter fun p => inCounterRange first used p.val).flatMap
        fun p => (s.port p).counters.toList).flatMap (toLE 6) := by
  rw [counterBytes, counterSnapshot, show allPorts = List.finRange 4 by decide]

theorem counterBytes_assoc (first used : Nat) (s : State) : counterBytes (counterSnapshot .assoc first used s)
    = (((List.finRange 64).filter fun a => inCounterRange first used a.val).flatMap
        fun a => (s.assoc a).counters.toList).flatMap (toLE 6) := by
  rw [counterBytes, counterSnapshot, allAnums]

theorem counterBytes_steer (first used : Nat) (s : State) : counterBytes (counterSnapshot .steer first used s)
    = (((List.finRange 128).filter fun i => inCounterRange first used i.val).map
        fun i => (s.entry i).hits).flatMap (toLE 6) := by
  rw [counterBytes, counterSnapshot, allEntries]

theorem replyOwed_counters (block : Byte) (first used clear : Byte) (bytes : Bytes) (t : State) :
    (owingOk 0x9A tag ([block, first, used, clear] ++ bytes) t).replyOwed
      = some { kind := 0x9A, tag := tag, body := [0x00, block, first, used, clear] ++ bytes } := rfl

theorem clearCounters_port (first used : Nat) (s : State) : clearCounters .port first used s
    = { s with ports := mapRange first used (fun x => { x with counters := Vector.replicate 32 0 }) s.ports } := by
  rw [clearCounters]

theorem clearCounters_assoc (first used : Nat) (s : State) : clearCounters .assoc first used s
    = { s with assocs := mapRange first used (fun x => { x with counters := Vector.replicate 8 0 }) s.assocs } := by
  rw [clearCounters]

theorem clearCounters_steer (first used : Nat) (s : State) : clearCounters .steer first used s
    = { s with steering := mapRange first used (fun x => { x with hits := 0 }) s.steering } := by
  rw [clearCounters]

theorem clearCounters_tables (block : CounterBlock) (first used : Nat) (s : State) : ∃ ports assocs steering,
    clearCounters block first used s = { s with ports := ports, assocs := assocs, steering := steering } := by
  cases block
  case port => exact ⟨_, s.assocs, s.steering, rfl⟩
  case assoc => exact ⟨s.ports, _, s.steering, rfl⟩
  case steer => exact ⟨s.ports, s.assocs, _, rfl⟩

/-- But for the tables of counters and the reply, the state is the counted one. -/
theorem owingOk_counters_tables (c : Prop) [Decidable c] (fields : Bytes) (block : CounterBlock) (first used : Nat)
    (s : State) :
    { owingOk 0x9A tag fields (if c then clearCounters block first used (counted s) else counted s) with
      ports := s.ports, assocs := s.assocs, steering := s.steering, replyOwed := s.replyOwed } = counted s := by
  obtain ⟨ports, assocs, steering, h⟩ := clearCounters_tables block first used (counted s)
  rw [h]
  split <;> rfl

/-! With the table that was cleared left open, what the reply leaves is read off by projection. -/

theorem owingOk_withPorts (fields : Bytes) (s : State) (v : Vector Port 4) :
    let t := owingOk 0x9A tag fields { counted s with ports := v }
    t.assocs = s.assocs ∧ t.steering = s.steering ∧ ∀ p, t.port p = row v p := ⟨rfl, rfl, fun _ => rfl⟩

theorem owingOk_withAssocs (fields : Bytes) (s : State) (v : Vector Assoc 64) :
    let t := owingOk 0x9A tag fields { counted s with assocs := v }
    t.ports = s.ports ∧ t.steering = s.steering ∧ ∀ a, t.assoc a = row v a := ⟨rfl, rfl, fun _ => rfl⟩

theorem owingOk_withSteering (fields : Bytes) (s : State) (v : Vector SteerEntry 128) :
    let t := owingOk 0x9A tag fields { counted s with steering := v }
    t.ports = s.ports ∧ t.assocs = s.assocs ∧ ∀ i, t.entry i = row v i := ⟨rfl, rfl, fun _ => rfl⟩

/-- Settles O53: the range is clamped, reported, and cleared if the request says so. -/
theorem countersAreRead : Obligations.CountersAreRead := by
  intro tag first count clear s htakes
  refine ⟨fun block h => exec_countersRead_refused htakes (serveCountersRead_noBlock h),
    fun h block => exec_countersRead_refused htakes (serveCountersRead_badClear h),
    fun h => exec_countersRead_refused htakes (serveCountersRead_badFirst (block := .port) rfl h),
    fun h => exec_countersRead_refused htakes (serveCountersRead_badFirst (block := .assoc) rfl h),
    fun h => exec_countersRead_refused htakes (serveCountersRead_badFirst (block := .steer) rfl h),
    fun hclear h => ?port, fun hclear h => ?assoc, fun hclear h => ?steer⟩
  case port =>
    have hused : countersUsed .port first count = min count.toNat (4 - first.toNat) := by
      simp only [countersUsed, CounterBlock.most, CounterBlock.size]
      omega
    have hstep := exec_countersRead_done (tag := tag) (b := 0) (count := count) (block := .port) htakes rfl hclear h
    rw [hused, counterBytes_port] at hstep
    refine ⟨_, hstep, owingOk_counters_tables .., replyOwed_counters .., ?_⟩
    by_cases hone : clear = 1 <;> simp only [hone, clearCounters_port, if_true, if_false, true_and, false_and]
    · obtain ⟨hfst, hsnd, hrows⟩ := owingOk_withPorts _ s (mapRange _ _ _ (counted s).ports)
      exact ⟨hfst, hsnd, fun p => (hrows p).trans (row_mapRange ..)⟩
    · exact ⟨rfl, rfl, fun p => rfl⟩
  case assoc =>
    have hused : countersUsed .assoc first count = min (min count.toNat 21) (64 - first.toNat) := rfl
    have hstep := exec_countersRead_done (tag := tag) (b := 1) (count := count) (block := .assoc) htakes rfl hclear h
    rw [hused, counterBytes_assoc] at hstep
    refine ⟨_, hstep, owingOk_counters_tables .., replyOwed_counters .., ?_⟩
    by_cases hone : clear = 1 <;> simp only [hone, clearCounters_assoc, if_true, if_false, true_and, false_and]
    · obtain ⟨hfst, hsnd, hrows⟩ := owingOk_withAssocs _ s (mapRange _ _ _ (counted s).assocs)
      exact ⟨hfst, hsnd, fun a => (hrows a).trans (row_mapRange ..)⟩
    · exact ⟨rfl, rfl, fun a => rfl⟩
  case steer =>
    have hused : countersUsed .steer first count = min count.toNat (128 - first.toNat) := by
      simp only [countersUsed, CounterBlock.most, CounterBlock.size]
      omega
    have hstep := exec_countersRead_done (tag := tag) (b := 2) (count := count) (block := .steer) htakes rfl hclear h
    rw [hused, counterBytes_steer] at hstep
    refine ⟨_, hstep, owingOk_counters_tables .., replyOwed_counters .., ?_⟩
    by_cases hone : clear = 1 <;> simp only [hone, clearCounters_steer, if_true, if_false, true_and, false_and]
    · obtain ⟨hfst, hsnd, hrows⟩ := owingOk_withSteering _ s (mapRange _ _ _ (counted s).steering)
      exact ⟨hfst, hsnd, fun i => (hrows i).trans (row_mapRange ..)⟩
    · exact ⟨rfl, rfl, fun i => rfl⟩

/-! ## TRANSPORT_KEY (R68) -/

theorem drop_toLE (w : Nat) : ∀ m n : Nat, (toLE (m + w) n).drop m = toLE w (n / 256 ^ m)
  | 0, n => by simp
  | m + 1, n => by
    rw [Nat.add_right_comm, toLE, List.drop_succ_cons, drop_toLE w m, Nat.div_div_eq_div_mul, Nat.pow_succ']

theorem toNat_checkValueOf (key : Bytes) : (checkValueOf key).toNat = (Config.blockCipher key zeroBlock).toNat / 2 ^ 104 := by
  rw [checkValueOf, BitVec.toNat_setWidth, BitVec.toNat_ushiftRight, Nat.shiftRight_eq_div_pow]
  have := (Config.blockCipher key zeroBlock).isLt
  omega

/-- The check value is the first three bytes of the cipher's block (R68, R71). -/
theorem toBE_checkValueOf (key : Bytes) :
    toBE 3 (checkValueOf key).toNat = (toBE 16 (Config.blockCipher key zeroBlock).toNat).take 3 := by
  rw [toNat_checkValueOf, toBE, toBE, List.take_reverse, length_toLE, drop_toLE 3 13]
  norm_num

theorem keySizeOf_code (n : Nat) : (keySizeOf n).code = if n = 32 then 1 else 0 := by
  rw [keySizeOf]
  split <;> rfl

theorem serveTransportKey_present {key : Bytes} (h : s.transportKey ≠ none) : serveTransportKey key s = refuse .locked s :=
  if_pos h

theorem serveTransportKey_badLength {key : Bytes} (h : s.transportKey = none) (h16 : key.length ≠ 16)
    (h32 : key.length ≠ 32) : serveTransportKey key s = refuse .badLength s := by
  rw [serveTransportKey, if_neg (not_not_intro h), if_pos ⟨h16, h32⟩]

theorem serveTransportKey_done {key : Bytes} (h : s.transportKey = none) (hlen : key.length = 16 ∨ key.length = 32) :
    serveTransportKey key s = done ([if key.length = 32 then 1 else 0]
      ++ (toBE 16 (Config.blockCipher key zeroBlock).toNat).take 3) { s with transportKey := some key } := by
  rw [serveTransportKey, if_neg (not_not_intro h), if_neg (by omega), keySizeOf_code, toBE_checkValueOf]

/-- Settles O48: the checks in order, then the key with its size and check value. -/
theorem transportKeyIsInstalledOnce : Obligations.TransportKeyIsInstalledOnce := by
  intro tag key s hbody
  have hrange : RequestKind.transportKey.bodyRange.1 ≤ key.length ∧ key.length ≤ RequestKind.transportKey.bodyRange.2 :=
    ⟨Nat.zero_le _, hbody⟩
  refine ⟨fun h => ?_, fun htakes h => ?_, fun htakes h h16 h32 => ?_, fun htakes h hlen => ?_⟩
  · refine requestArrives_notReady (kind := .transportKey) h fun x hx => ?_
    cases x
    case testing => rfl
    case running => exact absurd rfl hx
    case halted => rfl
  · exact requestArrives_refused (kind := .transportKey) htakes hrange (serveTransportKey_present h) (by decide)
  · exact requestArrives_refused (kind := .transportKey) htakes hrange (serveTransportKey_badLength h h16 h32) (by decide)
  · exact requestArrives_done (kind := .transportKey) htakes hrange (serveTransportKey_done (s := counted s) h hlen)

end Sys2Proof.Proofs
end

section
/-! SUPPORT. What a trigger does, row by row of the table of R130, from the state in which it reaches its association to the
state after the step that brought it. -/

/-! One theorem is checked after another, as in the tests, which bounds the threads that the whole text takes. -/

set_option Elab.async false

namespace Sys2Proof.Proofs
open Sys2Proof Sys2Proof.Machine

variable {s t u : State} {a b : Anum} {k : SlotNum} {p : PortNum} {kind : TriggerKind} {detail : BitVec 16}

/-! ## Rows and events of equal states -/

theorem updAssoc_congr {f g : Assoc → Assoc} (h : f (s.assoc a) = g (s.assoc a)) : s.updAssoc a f = s.updAssoc a g := by
  have h : f (row s.assocs a) = g (row s.assocs a) := h
  rw [State.updAssoc, State.updAssoc, updRow, updRow, h]

theorem updPort_congr {f g : Port → Port} (h : f (s.port p) = g (s.port p)) : s.updPort p f = s.updPort p g := by
  have h : f (row s.ports p) = g (row s.ports p) := h
  rw [State.updPort, State.updPort, updRow, updRow, h]

theorem updAssoc_self {f : Assoc → Assoc} (h : f (s.assoc a) = s.assoc a) : s.updAssoc a f = s := by
  rw [State.updAssoc, updRow_self _ _ h]

/-- An event joins equal lists in the same way (R175). -/
theorem events_raiseEvent_congr (hevents : t.events = s.events) (hmask : t.eventMask = s.eventMask) (kind : EventKind)
    (source : EventSource) (detail : BitVec 16) :
    (raiseEvent kind source detail t).events = (raiseEvent kind source detail s).events := by
  rw [raiseEvent, raiseEvent, hevents, hmask]
  split
  · exact hevents
  · split
    · rfl
    · split <;> rfl

theorem eventMask_raiseEvent (kind : EventKind) (source : EventSource) (detail : BitVec 16) (s : State) :
    (raiseEvent kind source detail s).eventMask = s.eventMask := by
  obtain ⟨-, h⟩ | ⟨-, -, h⟩ | ⟨-, -, -, h⟩ | ⟨-, -, -, h⟩ := raiseEvent_cases kind source detail s <;> rw [h]

theorem inhibited_iff : s.inhibited = true ↔ s.inhibit = .asserted := by
  rw [State.inhibited, beq_iff_eq]

theorem inhibited_of_released (h : s.inhibit = .released) : s.inhibited = false := by
  rw [State.inhibited, h]
  rfl

/-! ## The rows of the table (R130) -/

/-- The states of an association in which a trigger acts (R130). -/
def Triggerable (x : Assoc) : Prop :=
  (x.state = .running ∨ x.state = .exhausted ∨ x.state = .suspended) ∧ x.attempt = none

theorem handTrigger_ignored (h : ¬Triggerable (s.assoc a)) : handTrigger a kind s = s := if_neg h

theorem handTrigger_acts (h : Triggerable (s.assoc a)) : handTrigger a kind s = match (s.assoc a).triggerPolicy with
    | .auto =>
      if s.canStart a then beginSwitch a s
      else if s.nextReady a ∨ (s.assoc a).switchPending = true then setPending a kind s
      else raiseEvent .keyWanted (.assoc a) (kind.code.setWidth 16) (setPending a kind s)
    | .manual =>
      if (s.assoc a).switchDue then s
      else raiseEvent .switchDue (.assoc a) (kind.code.setWidth 16)
        (s.updAssoc a fun x => { x with switchDue := true }) := if_pos h

theorem handTrigger_manual (h : Triggerable (s.assoc a)) (hmanual : (s.assoc a).triggerPolicy = .manual) :
    handTrigger a kind s = if (s.assoc a).switchDue then s
      else raiseEvent .switchDue (.assoc a) (kind.code.setWidth 16) (s.updAssoc a fun x => { x with switchDue := true }) := by
  rw [handTrigger_acts h, hmanual]

theorem triggerable_of_canStart (h : s.canStart a = true) : Triggerable (s.assoc a) := by
  obtain ⟨hstate, hattempt, -⟩ := canStart_iff.mp h
  exact ⟨hstate.elim .inl (.inr ∘ .inl), hattempt⟩

theorem handTrigger_starts (hauto : (s.assoc a).triggerPolicy = .auto)
    (hstart : SwitchCanStart s a (s.port (s.assoc a).port).mode s.inhibit) : handTrigger a kind s = beginSwitch a s := by
  have hstart := canStart_iff.mpr hstart
  simp only [handTrigger_acts (triggerable_of_canStart hstart), hauto, hstart, if_true]

section Waits

variable (h : Triggerable (s.assoc a)) (hauto : (s.assoc a).triggerPolicy = .auto)
  (hstart : ¬SwitchCanStart s a (s.port (s.assoc a).port).mode s.inhibit)
include h hauto hstart

theorem handTrigger_waits : handTrigger a kind s
    = if s.nextReady a ∨ (s.assoc a).switchPending = true then setPending a kind s
      else raiseEvent .keyWanted (.assoc a) (kind.code.setWidth 16) (setPending a kind s) := by
  simp only [handTrigger_acts h, hauto, mt canStart_iff.mp hstart, Bool.false_eq_true, if_false]

theorem handTrigger_pending (hpending : (s.assoc a).switchPending = true) : handTrigger a kind s = s := by
  rw [handTrigger_waits h hauto hstart, if_pos (.inr hpending)]
  exact updAssoc_self (if_pos hpending)

theorem handTrigger_sets (hpending : (s.assoc a).switchPending = false) : handTrigger a kind s
    = if s.nextReady a then s.updAssoc a fun x => { x with switchPending := true, pendingKind := some kind }
      else raiseEvent .keyWanted (.assoc a) (kind.code.setWidth 16)
        (s.updAssoc a fun x => { x with switchPending := true, pendingKind := some kind }) := by
  have hset : setPending a kind s = s.updAssoc a fun x => { x with switchPending := true, pendingKind := some kind } :=
    updAssoc_congr (if_neg (ne_true_of_eq_false hpending))
  simp only [handTrigger_waits h hauto hstart, hset, hpending, Bool.false_eq_true, or_false]

end Waits

/-! ## The outcome of a trigger, as the statements put it -/

theorem sans_updAssoc_ne (f : Assoc → Assoc) (h : b ≠ a) : ((s.updAssoc a f).assoc b).sans = (s.assoc b).sans := by
  rw [State.assoc_updAssoc_ne _ _ h.symm]

theorem controlQueue_raiseEvent (kind : EventKind) (source : EventSource) (detail : BitVec 16) (s : State) (p : PortNum) :
    ((raiseEvent kind source detail s).port p).controlQueue = (s.port p).controlQueue := by
  rw [State.port_raiseEvent]

theorem slots_raiseEvent (kind : EventKind) (source : EventSource) (detail : BitVec 16) (s : State) :
    (raiseEvent kind source detail s).slots = s.slots := by
  obtain ⟨-, h⟩ | ⟨-, -, h⟩ | ⟨-, -, -, h⟩ | ⟨-, -, -, h⟩ := raiseEvent_cases kind source detail s <;> rw [h]

/-- A switch that begins, as the statements put it (R133, R136, R137). -/
theorem beginSwitch_begun (a : Anum) (s : State) : SwitchBegun a s (beginSwitch a s) := by
  refine ⟨fun hconfirmed => ?_, fun k hunilateral hk hcurrent => ?_⟩
  · rw [beginSwitch_confirmed hconfirmed]
    refine ⟨?_, fun b hb => sans_updAssoc_ne _ hb, fun q => ?_, rfl, rfl⟩
    · rw [State.assoc_updPort, State.assoc_updAssoc_self]
    · rw [State.port_updPort]
      by_cases hq : q = (s.assoc a).port
      · rw [if_pos hq.symm, if_pos hq, hq]
        rfl
      · rw [if_neg (Ne.symm hq), if_neg hq]
        rfl
  · rw [beginSwitch_unilateral hunilateral]
    exact cutOver_unflagged hk hcurrent

/-- A trigger acts by the table of R130. -/
theorem handTrigger_outcome (kind : TriggerKind) (a : Anum) (s : State) :
    TriggerOutcome kind (kind.code.setWidth 16) a s (handTrigger a kind s) := by
  refine ⟨fun h => ?ignored, fun h hmanual => ?manual, fun h hauto hstart => ?starts,
    fun h hauto hstart hpending => ?pending, fun h hauto hstart hpending => ?sets⟩
  case ignored =>
    rw [handTrigger_ignored h]
    exact ⟨rfl, fun _ _ => rfl, rfl, rfl, fun _ => rfl⟩
  case manual =>
    have hstep := handTrigger_manual (kind := kind) h hmanual
    by_cases hdue : (s.assoc a).switchDue = true
    · rw [hstep.trans (if_pos hdue)]
      exact ⟨by rw [← hdue], fun _ _ => rfl, rfl, by rw [if_pos hdue], fun _ => rfl⟩
    · rw [hstep.trans (if_neg hdue)]
      refine ⟨by rw [State.assoc_raiseEvent, State.assoc_updAssoc_self], fun b hb => ?_, slots_raiseEvent .., ?_,
        fun q => controlQueue_raiseEvent ..⟩
      · rw [State.assoc_raiseEvent]
        exact sans_updAssoc_ne _ hb
      · rw [if_neg hdue]
        refine events_raiseEvent_congr ?_ ?_ _ _ _ <;> rfl
  case starts =>
    rw [handTrigger_starts hauto hstart]
    exact beginSwitch_begun a s
  case pending =>
    rw [handTrigger_pending h hauto hstart hpending]
    exact ⟨rfl, fun _ _ => rfl, rfl, rfl, fun _ => rfl⟩
  case sets =>
    have hstep := handTrigger_sets (kind := kind) h hauto hstart hpending
    by_cases hready : s.nextReady a = true
    · rw [hstep.trans (if_pos hready)]
      exact ⟨by rw [State.assoc_updAssoc_self], fun b hb => sans_updAssoc_ne _ hb, rfl, by rw [if_pos hready]; rfl,
        fun _ => rfl⟩
    · rw [hstep.trans (if_neg hready)]
      refine ⟨by rw [State.assoc_raiseEvent, State.assoc_updAssoc_self], fun b hb => ?_, slots_raiseEvent .., ?_,
        fun q => controlQueue_raiseEvent ..⟩
      · rw [State.assoc_raiseEvent]
        exact sans_updAssoc_ne _ hb
      · rw [if_neg hready]
        refine events_raiseEvent_congr ?_ ?_ _ _ _ <;> rfl

/-! ## What follows a switch or a trigger in the same step -/

/-- What grants and tidied sequences leave as it was, of all that the outcome of a trigger speaks of: associations but for
corrupt-one, slots, events and control queues. -/
structure SwitchStands (t u : State) : Prop where
  sans : ∀ b, (u.assoc b).sans = (t.assoc b).sans
  slots : u.slots = t.slots
  events : u.events = t.events
  controlQueue : ∀ p, (u.port p).controlQueue = (t.port p).controlQueue

theorem SwitchStands.refl (s : State) : SwitchStands s s := ⟨fun _ => rfl, rfl, rfl, fun _ => rfl⟩

theorem SwitchStands.trans (h : SwitchStands s t) (g : SwitchStands t u) : SwitchStands s u :=
  ⟨fun b => (g.sans b).trans (h.sans b), g.slots.trans h.slots, g.events.trans h.events,
    fun p => (g.controlQueue p).trans (h.controlQueue p)⟩

theorem SwitchStands.slot (h : SwitchStands t u) (k : SlotNum) : u.slot k = t.slot k := by
  rw [State.slot, State.slot, h.slots]

theorem SwitchStands.listed (h : SwitchStands t u) {kind : EventKind} {source : EventSource} (hlisted : Listed kind source t) :
    Listed kind source u := by
  rw [Listed, h.events]
  exact hlisted

theorem cutOver_stands (h : CutOver a k s t) (g : SwitchStands t u) : CutOver a k s u := by
  obtain ⟨hrecord, hothers, hnext, hcurrent, hslots, hdone, hqueue⟩ := h
  exact ⟨(g.sans a).trans hrecord, fun b hb => (g.sans b).trans (hothers b hb), (g.slot k).trans hnext,
    fun j hj => ⟨(g.slot j).trans (hcurrent j hj).1, fun hcount hopen => g.listed ((hcurrent j hj).2 hcount hopen)⟩,
    fun j hjk hj => (g.slot j).trans (hslots j hjk hj), fun hopen => g.listed (hdone hopen),
    fun p => (g.controlQueue p).trans (hqueue p)⟩

theorem switchBegun_stands (h : SwitchBegun a s t) (g : SwitchStands t u) : SwitchBegun a s u := by
  obtain ⟨hconfirmed, hunilateral⟩ := h
  refine ⟨fun hpolicy => ?_, fun k hpolicy hk hcurrent => cutOver_stands (hunilateral k hpolicy hk hcurrent) g⟩
  obtain ⟨hrecord, hothers, hqueue, hslots, hevents⟩ := hconfirmed hpolicy
  exact ⟨(g.sans a).trans hrecord, fun b hb => (g.sans b).trans (hothers b hb), fun p => (g.controlQueue p).trans (hqueue p),
    g.slots.trans hslots, g.events.trans hevents⟩

theorem triggerOutcome_stands (h : TriggerOutcome kind detail a s t) (g : SwitchStands t u) :
    TriggerOutcome kind detail a s u := by
  have only {y : Assoc} {v : State} (hv : (t.assoc a).sans = y.sans ∧ (∀ b, b ≠ a → (t.assoc b).sans = (s.assoc b).sans)
      ∧ t.slots = s.slots ∧ t.events = v.events ∧ ∀ p, (t.port p).controlQueue = (s.port p).controlQueue) :
      (u.assoc a).sans = y.sans ∧ (∀ b, b ≠ a → (u.assoc b).sans = (s.assoc b).sans) ∧ u.slots = s.slots
        ∧ u.events = v.events ∧ ∀ p, (u.port p).controlQueue = (s.port p).controlQueue := by
    obtain ⟨hrecord, hothers, hslots, hevents, hqueue⟩ := hv
    exact ⟨(g.sans a).trans hrecord, fun b hb => (g.sans b).trans (hothers b hb), g.slots.trans hslots,
      g.events.trans hevents, fun p => (g.controlQueue p).trans (hqueue p)⟩
  obtain ⟨hignored, hmanual, hstarts, hpending, hsets⟩ := h
  exact ⟨fun h => only (hignored h), fun h hpolicy => only (hmanual h hpolicy),
    fun h hauto hstart => switchBegun_stands (hstarts h hauto hstart) g,
    fun h hauto hstart hset => only (hpending h hauto hstart hset),
    fun h hauto hstart hclear => only (hsets h hauto hstart hclear)⟩

/-! ## States from which a trigger has the same outcome -/

/-- Two states that agree in all that a switch reads: associations, slots, events, the inhibit state, and of each port its mode,
first step and control queue. -/
structure SwitchAlike (s t : State) : Prop where
  assocs : t.assocs = s.assocs
  slots : t.slots = s.slots
  events : t.events = s.events
  eventMask : t.eventMask = s.eventMask
  inhibit : t.inhibit = s.inhibit
  mode : ∀ p, (t.port p).mode = (s.port p).mode
  firstStep : ∀ p, (t.port p).firstStep = (s.port p).firstStep
  controlQueue : ∀ p, (t.port p).controlQueue = (s.port p).controlQueue

theorem SwitchAlike.assoc (h : SwitchAlike s t) (a : Anum) : t.assoc a = s.assoc a := by
  rw [State.assoc, State.assoc, h.assocs]

theorem SwitchAlike.slot (h : SwitchAlike s t) (k : SlotNum) : t.slot k = s.slot k := by
  rw [State.slot, State.slot, h.slots]

theorem SwitchAlike.nextReady (h : SwitchAlike s t) (a : Anum) : t.nextReady a = s.nextReady a := by
  rw [State.nextReady, State.nextReady, h.assoc]
  cases (s.assoc a).next with
  | none => rfl
  | some k => simp only [h.slot]

theorem SwitchAlike.eventsOpen (h : SwitchAlike s t) : EventsOpen t ↔ EventsOpen s := by
  rw [EventsOpen, EventsOpen, h.eventMask, h.events]

theorem SwitchAlike.canStart (h : SwitchAlike s t) (mode : PortMode) (inhibit : InhibitState) :
    SwitchCanStart t a mode inhibit ↔ SwitchCanStart s a mode inhibit := by
  rw [SwitchCanStart, SwitchCanStart, h.assoc, h.nextReady]

theorem cutOver_alike (h : CutOver a k t u) (g : SwitchAlike s t) : CutOver a k s u := by
  simpa only [CutOver, g.assoc, g.slot, g.eventsOpen, g.controlQueue] using h

theorem switchBegun_alike (h : SwitchBegun a t u) (g : SwitchAlike s t) : SwitchBegun a s u := by
  obtain ⟨hconfirmed, hunilateral⟩ := h
  rw [g.assoc] at hconfirmed hunilateral
  refine ⟨fun hpolicy => ?_, fun k hpolicy hk hcurrent => cutOver_alike (hunilateral k hpolicy hk hcurrent) g⟩
  simpa only [g.assoc, g.firstStep, g.controlQueue, g.slots, g.events] using hconfirmed hpolicy

theorem triggerOutcome_alike (h : TriggerOutcome kind detail a t u) (g : SwitchAlike s t) :
    TriggerOutcome kind detail a s u := by
  obtain ⟨hignored, hmanual, hstarts, hpending, hsets⟩ := h
  simp only [g.assoc, g.canStart, g.mode, g.inhibit, g.nextReady, g.controlQueue, g.slots, g.events]
    at hignored hmanual hstarts hpending hsets
  refine ⟨hignored, fun h hpolicy => ?_, fun h hauto hstart => switchBegun_alike (hstarts h hauto hstart) g, hpending,
    fun h hauto hstart hclear => ?_⟩
  · have hevents : (if (s.assoc a).switchDue = true then t else raiseEvent .switchDue (.assoc a) detail t).events
        = (if (s.assoc a).switchDue = true then s else raiseEvent .switchDue (.assoc a) detail s).events := by
      split
      · exact g.events
      · exact events_raiseEvent_congr g.events g.eventMask ..
    obtain ⟨hrecord, hothers, hslots, hlist, hqueue⟩ := hmanual h hpolicy
    exact ⟨hrecord, hothers, hslots, hlist.trans hevents, hqueue⟩
  · have hevents : (if s.nextReady a = true then t else raiseEvent .keyWanted (.assoc a) detail t).events
        = (if s.nextReady a = true then s else raiseEvent .keyWanted (.assoc a) detail s).events := by
      split
      · exact g.events
      · exact events_raiseEvent_congr g.events g.eventMask ..
    obtain ⟨hrecord, hothers, hslots, hlist, hqueue⟩ := hsets h hauto hstart hclear
    exact ⟨hrecord, hothers, hslots, hlist.trans hevents, hqueue⟩

end Sys2Proof.Proofs
end

section
/-! SUPPORT. The commands that hand one trigger or end one exchange (R127, R144, R155, R159), the quantum (R106), and
ASSOC_CLEAR (R49). -/

/-! One theorem is checked after another, as in the tests, which bounds the threads that the whole text takes. -/

set_option Elab.async false

namespace Sys2Proof.Proofs
open Sys2Proof Sys2Proof.Machine

variable {s t u : State} {a b : Anum} {k : SlotNum} {p q : PortNum} {detail : BitVec 16} {tag c : Byte}

/-! ## What an event leaves -/

/-- An event touches the event list and the lost flag alone (R175). -/
theorem raiseEvent_lists (kind : EventKind) (source : EventSource) (detail : BitVec 16) (s : State) :
    ∃ events lost, raiseEvent kind source detail s = { s with events := events, eventsLost := lost } := by
  obtain ⟨-, h⟩ | ⟨-, -, h⟩ | ⟨-, -, -, h⟩ | ⟨-, -, -, h⟩ := raiseEvent_cases kind source detail s <;> exact ⟨_, _, h⟩

/-- The oldest event stays when one of another kind is raised. -/
theorem head_raiseEvent {kind : EventKind} {source : EventSource} {e : Event} (h : s.events.head? = some e)
    (hkind : e.kind ≠ kind) : (raiseEvent kind source detail s).events.head? = some e := by
  obtain ⟨-, h'⟩ | ⟨-, -, h'⟩ | ⟨-, -, -, h'⟩ | ⟨-, -, -, h'⟩ := raiseEvent_cases kind source detail s <;> rw [h']
  · exact h
  · have hsame : Event.sameAs kind source e = false := by simp [Event.sameAs, hkind]
    simp only [List.head?_map, h, Option.map_some, Event.merged, hsame, Bool.false_eq_true, if_false]
  · simp only [List.head?_append, h, Option.some_or]
  · exact h

/-! ## The end of an exchange (R155, R156) -/

theorem afterExchange_eq (x : AssocState) : x.afterExchange = if x = .switching then .running else x := by
  cases x <;> rfl

/-- The record of an association that has given up its exchange (R155). -/
def gaveUp (x : Assoc) : Assoc :=
  { x with
    attempt := none
    state := if x.state = .switching then .running else x.state
    counters := updRow x.counters AssocCounter.giveUps.index (addCount · 1) }

theorem giveUp_eq (a : Anum) (kind : EventKind) (detail : BitVec 16) (s : State) : giveUp a kind detail s
    = raiseEvent kind (.assoc a) detail ((leaveControlQueue a s).updAssoc a gaveUp) := by
  rw [giveUp]
  simp only [bumpAssoc, updAssoc_updAssoc, afterExchange_eq]
  rfl

theorem assoc_giveUp_self (a : Anum) (kind : EventKind) (detail : BitVec 16) (s : State) :
    (giveUp a kind detail s).assoc a = gaveUp (s.assoc a) := by
  rw [giveUp_eq, State.assoc_raiseEvent, State.assoc_updAssoc_self]
  rfl

theorem assoc_giveUp_ne (kind : EventKind) (detail : BitVec 16) (s : State) (h : b ≠ a) :
    (giveUp a kind detail s).assoc b = s.assoc b := by
  rw [giveUp_eq, State.assoc_raiseEvent, State.assoc_updAssoc_ne _ _ h.symm]
  rfl

theorem ports_giveUp (a : Anum) (kind : EventKind) (detail : BitVec 16) (s : State) :
    (giveUp a kind detail s).ports = (s.updPort (s.assoc a).port fun y =>
      { y with controlQueue := y.controlQueue.filter (· != a) }).ports := by
  obtain ⟨events, lost, h⟩ := raiseEvent_lists kind (.assoc a) detail ((leaveControlQueue a s).updAssoc a gaveUp)
  rw [giveUp_eq, h]
  rfl

theorem slots_giveUp (a : Anum) (kind : EventKind) (detail : BitVec 16) (s : State) :
    (giveUp a kind detail s).slots = s.slots := by
  rw [giveUp_eq, slots_raiseEvent]
  rfl

theorem events_giveUp (a : Anum) (kind : EventKind) (detail : BitVec 16) (s : State) :
    (giveUp a kind detail s).events = (raiseEvent kind (.assoc a) detail s).events := by
  rw [giveUp_eq]
  refine events_raiseEvent_congr ?_ ?_ _ _ _ <;> rfl

theorem giveUp_rest (a : Anum) (kind : EventKind) (detail : BitVec 16) (s : State) :
    { giveUp a kind detail s with ports := s.ports, assocs := s.assocs, events := s.events, eventsLost := s.eventsLost }
      = s := by
  obtain ⟨events, lost, h⟩ := raiseEvent_lists kind (.assoc a) detail ((leaveControlQueue a s).updAssoc a gaveUp)
  rw [giveUp_eq, h]
  rfl

/-- The next attempt begins, and its notice is queued (R144). -/
def nextAttempt (a : Anum) (x : Attempt) (s : State) : State :=
  (s.updAssoc a fun y => { y with attempt := some x.following }).updPort (s.assoc a).port fun y =>
    { y with controlQueue := y.controlQueue ++ [a] }

theorem endAttempt_next {x : Attempt} (hx : (s.assoc a).attempt = some x)
    (h : x.step < (s.port (s.assoc a).port).lastStep) : endAttempt a s = nextAttempt a x s := by
  simp only [endAttempt, hx, h, if_true, joinControlQueue, State.assoc_updAssoc_self]
  rfl

theorem endAttempt_giveUp {x : Attempt} (hx : (s.assoc a).attempt = some x)
    (h : (s.port (s.assoc a).port).lastStep ≤ x.step) : endAttempt a s = giveUp a .switchFailed 0 s := by
  simp only [endAttempt, hx, h.not_gt, if_false]
  rfl

theorem attemptPulse_ends {x : Attempt} (hx : (s.assoc a).attempt = some x) (hissued : x.status = .issued)
    (h : x.pulses ≤ 1) : attemptPulse s a = endAttempt a s := by
  simp only [attemptPulse, hx, hissued, h, if_true]

theorem exec_attemptTimeout {x : Attempt} (hreset : s.pins.resetLow = false) (hx : (s.assoc a).attempt = some x)
    (hissued : x.status = .issued) (h : x.pulses ≤ 1) : exec (.attemptTimeout a) s = .next (endAttempt a s) := by
  have hdue : ((s.assoc a).attempt.any fun t => decide (t.pulses ≤ 1)) = true := by simp [hx, h]
  rw [← attemptPulse_ends hx hissued h]
  exact (unlessHeld_released hreset _).trans (if_pos hdue)

/-- Settles O12: below the last step the next attempt, at it the give-up. -/
theorem attemptTimesOut : Obligations.AttemptTimesOut := by
  intro a x s hreset hx hissued hpulses
  rw [exec_attemptTimeout hreset hx hissued hpulses]
  refine ⟨fun h => ?_, fun h => ?_⟩
  · rw [endAttempt_next hx h]
    rfl
  · rw [endAttempt_giveUp hx h]
    exact ⟨_, rfl, assoc_giveUp_self .., fun b hb => assoc_giveUp_ne _ _ _ hb, ports_giveUp .., events_giveUp ..,
      giveUp_rest ..⟩

/-! ## LIFETIME_EXPIRY (R127) -/

/-- The lifetime of an association has run out. -/
def expiredState (a : Anum) (s : State) : State := s.updAssoc a fun y => { y with lifetimeRemaining := 0 }

theorem assoc_expiredState : (expiredState a s).assoc a = { s.assoc a with lifetimeRemaining := 0 } :=
  State.assoc_updAssoc_self ..

theorem nextReady_expiredState : (expiredState a s).nextReady a = s.nextReady a := by
  rw [State.nextReady, State.nextReady, assoc_expiredState]
  rfl

theorem switchCanStart_expiredState (mode : PortMode) (inhibit : InhibitState) :
    SwitchCanStart (expiredState a s) a mode inhibit ↔ SwitchCanStart s a mode inhibit := by
  rw [SwitchCanStart, SwitchCanStart, assoc_expiredState, nextReady_expiredState]

theorem triggerable_expiredState : Triggerable ((expiredState a s).assoc a) ↔ Triggerable (s.assoc a) := by
  rw [assoc_expiredState]
  rfl

theorem lifetimePulse_ends {scale : LifetimeScale} (hscale : (s.assoc a).lifetimeScale = scale)
    (hservice : (s.assoc a).state.inService = true) (hreload : 0 < (s.assoc a).lifetimeReload)
    (h : (s.assoc a).lifetimeRemaining ≤ 1) : lifetimePulse scale s a = handTrigger a .expiry (expiredState a s) := by
  have hcount : (s.updAssoc a fun y => { y with lifetimeRemaining := y.lifetimeRemaining - 1 }) = expiredState a s :=
    updAssoc_congr (by rw [Nat.sub_eq_zero_of_le h])
  simp only [lifetimePulse, hscale, hservice, hreload, h, hcount, and_self, if_true]

theorem exec_lifetimeExpiry (hreset : s.pins.resetLow = false) (hservice : (s.assoc a).state.inService = true)
    (hreload : 0 < (s.assoc a).lifetimeReload) (h : (s.assoc a).lifetimeRemaining ≤ 1) :
    exec (.lifetimeExpiry a) s = .next (handTrigger a .expiry (expiredState a s)) := by
  rw [← lifetimePulse_ends rfl hservice hreload h]
  exact (unlessHeld_released hreset _).trans (if_pos h)

theorem triggerable_of_inService {x : Assoc} (hservice : x.state.inService = true) (hattempt : x.attempt = none)
    (hswitching : x.state ≠ .switching) : Triggerable x := by
  refine ⟨?_, hattempt⟩
  cases hx : x.state <;> simp_all [AssocState.inService]

theorem nextReady_of_canStart {mode : PortMode} {inhibit : InhibitState} (h : SwitchCanStart s a mode inhibit) :
    s.nextReady a = true := by
  obtain ⟨-, -, hready, -⟩ := h
  exact hready

/-- Settles O11: the row of the table that the association stands in. -/
theorem expiryTriggerFollowsTheTable : Obligations.ExpiryTriggerFollowsTheTable := by
  intro a s x s1 hreset hservice hreload hremaining
  rw [exec_lifetimeExpiry hreset hservice hreload hremaining]
  have hs1 : expiredState a s = s1 := rfl
  have hx : (expiredState a s).assoc a = { s.assoc a with lifetimeRemaining := 0 } := assoc_expiredState
  have htrigger (hattempt : x.attempt = none) (hswitching : x.state ≠ .switching) :
      Triggerable ((expiredState a s).assoc a) :=
    triggerable_expiredState.mpr (triggerable_of_inService hservice hattempt hswitching)
  have hauto' (hauto : x.triggerPolicy = .auto) : ((expiredState a s).assoc a).triggerPolicy = .auto := by rw [hx]; exact hauto
  have hstart' : SwitchCanStart (expiredState a s) a ((expiredState a s).port ((expiredState a s).assoc a).port).mode
      (expiredState a s).inhibit ↔ SwitchCanStart s a (s.port x.port).mode s.inhibit := by
    rw [hx]
    exact switchCanStart_expiredState ..
  have hready' : (expiredState a s).nextReady a = s.nextReady a := nextReady_expiredState
  refine ⟨fun h => ?inExchange, fun h hswitching hmanual hdue => ?due, fun h hswitching hmanual hdue => ?notDue,
    fun h hswitching hauto hstart hpending => ?pending, fun h hswitching hauto hstart hpending hready => ?waits,
    fun h hswitching hauto hpending hready => ?keyWanted, fun hauto hconfirmed hstart => ?confirmed,
    fun k hauto hunilateral hstart hk hcurrent => ?unilateral⟩
  case inExchange =>
    exact congrArg Host.Outcome.next (handTrigger_ignored fun htrig => h (triggerable_expiredState.mp htrig).2)
  case due =>
    have hdue' : ((expiredState a s).assoc a).switchDue = true := by rw [hx]; exact hdue
    rw [handTrigger_manual (htrigger h hswitching) (by rw [hx]; exact hmanual), if_pos hdue', hs1]
  case notDue =>
    have hdue' : ((expiredState a s).assoc a).switchDue = false := by rw [hx]; exact hdue
    rw [handTrigger_manual (htrigger h hswitching) (by rw [hx]; exact hmanual), if_neg (ne_true_of_eq_false hdue')]
    rfl
  case pending =>
    rw [handTrigger_pending (htrigger h hswitching) (hauto' hauto) (mt hstart'.mp hstart) (by rw [hx]; exact hpending), hs1]
  case waits =>
    rw [handTrigger_sets (htrigger h hswitching) (hauto' hauto) (mt hstart'.mp hstart) (by rw [hx]; exact hpending),
      if_pos (hready'.trans hready)]
    rfl
  case keyWanted =>
    have hblocked : ¬SwitchCanStart s a (s.port x.port).mode s.inhibit := fun hstart =>
      ne_true_of_eq_false hready (nextReady_of_canStart hstart)
    rw [handTrigger_sets (htrigger h hswitching) (hauto' hauto) (mt hstart'.mp hblocked) (by rw [hx]; exact hpending),
      if_neg (ne_true_of_eq_false (hready'.trans hready))]
    rfl
  case confirmed =>
    rw [handTrigger_starts (hauto' hauto) (hstart'.mpr hstart), beginSwitch_confirmed (by rw [hx]; exact hconfirmed), hx]
    refine ⟨_, rfl, ?_, ?_, rfl, fun b hb => ?_, fun p hp => ?_⟩
    · rw [State.assoc_updPort, State.assoc_updAssoc_self, hx]
      rfl
    · rw [State.port_updPort_self]
      rfl
    · rw [State.assoc_updPort, State.assoc_updAssoc_ne _ _ hb.symm]
      exact State.assoc_updAssoc_ne _ _ hb.symm
    · rw [State.port_updPort_ne _ _ hp.symm]
      rfl
  case unilateral =>
    rw [handTrigger_starts (hauto' hauto) (hstart'.mpr hstart), beginSwitch_unilateral (by rw [hx]; exact hunilateral)]
    have hk' : ((expiredState a s).assoc a).next = some k := by rw [hx]; exact hk
    have hnext : (((expiredState a s).updAssoc a Assoc.unflagged).assoc a).next = some k := by
      rw [State.assoc_updAssoc_self]
      exact hk'
    refine ⟨_, rfl, cutOver_unflagged hk' (hx ▸ hcurrent), fun b => ?_, fun p => ?_⟩
    · rw [corruptOne_cutOver hnext, expiredState, updAssoc_updAssoc, State.assoc_updAssoc]
      split
      · next h => rw [← h]; rfl
      · rfl
    · obtain ⟨inbox, counters, h⟩ := port_cutOver hnext p
      rw [h]
      exact ⟨rfl, rfl⟩

/-! ## The quantum (R106, R112, R118, R122) -/

theorem mem_classesDown (k : ClassNum) : k ∈ classesDown := by
  revert k
  decide

theorem priosOf_nonempty {x : Port} {k : ClassNum} :
    (!(x.priosOf k).isEmpty) = true ↔ ∃ q, row x.settings.classMap q = k := by
  have hmem (q : Prio) : q ∈ allPrios := by
    revert q
    decide
  simp only [Bool.not_eq_true', List.isEmpty_eq_false_iff_exists_mem, Port.priosOf, List.mem_filter, hmem, true_and,
    beq_iff_eq]

theorem pauseOwed_quantum {x : Port} : x.quantum.pauseOwed = true ↔
    x.pauseOwed = true ∨ ∃ k, row x.holding k = true ∧ row x.refresh k + 1 = max 1 (x.flow.quanta / 2)
      ∧ ∃ q, row x.settings.classMap q = k := by
  have hdue (k : ClassNum) : (x.refreshDue k && !(x.priosOf k).isEmpty) = true ↔
      row x.holding k = true ∧ row x.refresh k + 1 = max 1 (x.flow.quanta / 2) ∧ ∃ q, row x.settings.classMap q = k := by
    rw [Bool.and_eq_true, priosOf_nonempty, Port.refreshDue, Bool.and_eq_true, beq_iff_eq, and_assoc]
    rfl
  simp only [Port.quantum, Bool.or_eq_true, List.any_eq_true, mem_classesDown, true_and, hdue]

theorem exec_pauseRefreshDue {k : ClassNum} (hreset : s.pins.resetLow = false)
    (hholding : row (s.port p).holding k = true)
    (hrefresh : row (s.port p).refresh k + 1 = max 1 ((s.port p).flow.quanta / 2))
    (hprio : ∃ q, row (s.port p).settings.classMap q = k) : exec (.pauseRefreshDue p k) s
      = .next (s.updPort p fun x =>
        { x with refresh := setRow x.refresh k (max 1 (x.flow.quanta / 2)), pauseOwed := true }) := by
  have hdue : (s.port p).refreshDue k = true := by
    rw [Port.refreshDue, hholding, Bool.true_and, beq_iff_eq]
    exact hrefresh
  refine (unlessHeld_released hreset _).trans ((if_pos hdue).trans (congrArg _ (updPort_congr ?_)))
  simp only [priosOf_nonempty.mpr hprio, Bool.or_true]
  rfl

theorem exec_campusPauseEnd {q : Prio} (hreset : s.pins.resetLow = false) (h : row (s.port p).campusPause q = 1) :
    exec (.campusPauseEnd p q) s = .next (s.updPort p fun x => { x with campusPause := setRow x.campusPause q 0 }) :=
  (unlessHeld_released hreset _).trans (if_pos h)

theorem exec_rackPauseEnd {q : Prio} (hreset : s.pins.resetLow = false) (h : row (s.port p).rackPause q = 1) :
    exec (.rackPauseEnd p q) s = .next (s.updPort p fun x => { x with rackPause := setRow x.rackPause q 0 }) :=
  (unlessHeld_released hreset _).trans (if_pos h)

/-- What a quantum does to one port, its five fields written out (R112, R118, R122). -/
theorem quantum_fields (x : Port) : (∀ q, row x.quantum.campusPause q = row x.campusPause q - 1)
    ∧ (∀ q, row x.quantum.rackPause q = row x.rackPause q - 1)
    ∧ (∀ k, row x.quantum.refresh k = x.refreshAfter k)
    ∧ { x.quantum with
        campusPause := x.campusPause, rackPause := x.rackPause, refresh := x.refresh, pauseOwed := x.pauseOwed } = x :=
  ⟨row_mapRows x.campusPause (· - 1), row_mapRows x.rackPause (· - 1), row_ofFn x.refreshAfter, rfl⟩

theorem withPorts_ports (s : State) (v : Vector Port 4) : { ({ s with ports := v } : State) with ports := s.ports } = s := rfl

theorem port_mapPorts (s : State) (f : Port → Port) (p : PortNum) :
    ({ s with ports := mapRows s.ports f } : State).port p = f (s.port p) := row_mapRows ..

/-- Settles O13: what a quantum does to each port, and what the commands for one count do. -/
theorem quantumTicks : Obligations.QuantumTicks := by
  refine ⟨fun s hreset => ⟨_, unlessHeld_released hreset _, withPorts_ports .., fun p => ?_⟩, fun p k q s hreset => ⟨?_, ?_, ?_⟩⟩
  · intro x interval
    rw [port_mapPorts]
    obtain ⟨hcampus, hrack, hrefresh, hrest⟩ := quantum_fields x
    exact ⟨hcampus, hrack, hrefresh, pauseOwed_quantum, hrest⟩
  · exact exec_pauseRefreshDue hreset
  · exact exec_campusPauseEnd hreset
  · exact exec_rackPauseEnd hreset

/-! ## SWITCH_NOW (R159) -/

section SwitchNow

variable (ha : c.toNat = a.val)

theorem serveSwitchNow_noAnum (h : 64 ≤ c.toNat) : serveSwitchNow c s = refuse .badValue s := by
  rw [serveSwitchNow, inRange_eq_none h]

include ha

theorem serveSwitchNow_state
    (h : ¬(((s.assoc a).state = .running ∨ (s.assoc a).state = .exhausted) ∧ (s.assoc a).attempt = none)) :
    serveSwitchNow c s = refuse .state s := by
  simp only [serveSwitchNow, inRange_eq_some_iff.mpr ha]
  by_cases hstate : (s.assoc a).state ≠ .running ∧ (s.assoc a).state ≠ .exhausted
  · exact if_pos hstate
  · rw [if_neg hstate, if_pos]
    intro hattempt
    exact h ⟨by tauto, hattempt⟩

variable (hstate : (s.assoc a).state = .running ∨ (s.assoc a).state = .exhausted) (hattempt : (s.assoc a).attempt = none)
include hstate hattempt

theorem serveSwitchNow_begins : serveSwitchNow c s = if s.nextReady a = false then refuse .noKey s
    else if (s.assoc a).confirmPolicy = .confirmed ∧ switchBlocked s a = true then refuse .state s
    else done (switchNowBytes ((beginSwitch a s).assoc a)) (beginSwitch a s) := by
  have hstate : ¬((s.assoc a).state ≠ .running ∧ (s.assoc a).state ≠ .exhausted) := by tauto
  simp only [serveSwitchNow, inRange_eq_some_iff.mpr ha, if_neg hstate, ne_eq, hattempt, not_true_eq_false, if_false]

end SwitchNow

theorem switchBlocked_iff : switchBlocked s a = true ↔ (s.port (s.assoc a).port).mode = .off ∨ s.inhibit = .asserted := by
  rw [switchBlocked, Bool.or_eq_true, beq_iff_eq, inhibited_iff]

/-- Settles O47: the checks in order, then the exchange or the cut-over. -/
theorem switchNowBeginsTheSwitch : Obligations.SwitchNowBeginsTheSwitch := by
  refine ⟨fun tag b s htakes hb => ?_, fun tag b a s htakes ha => ⟨fun h => ?state, fun h hready => ?noKey,
    fun h hready hblocked => ?blocked, fun h hready hblocked hconfirmed => ?confirmed,
    fun k h hk hready hunilateral hcurrent => ?unilateral⟩⟩
  · exact requestArrives_refused (kind := .switchNow) htakes (by decide) (serveSwitchNow_noAnum hb) (by decide)
  case state =>
    exact requestArrives_refused (kind := .switchNow) htakes (by decide) (serveSwitchNow_state ha h) (by decide)
  case noKey =>
    have hserve := serveSwitchNow_begins (s := counted s) ha h.1 h.2
    exact requestArrives_refused (kind := .switchNow) htakes (by decide) (hserve.trans (if_pos hready)) (by decide)
  case blocked =>
    have hserve := serveSwitchNow_begins (s := counted s) ha h.1 h.2
    have hblocked : (s.assoc a).confirmPolicy = .confirmed ∧ switchBlocked (counted s) a = true :=
      ⟨hblocked.1, switchBlocked_iff.mpr hblocked.2⟩
    exact requestArrives_refused (kind := .switchNow) htakes (by decide)
      (hserve.trans ((if_neg (ne_false_of_eq_true hready)).trans (if_pos hblocked))) (by decide)
  case confirmed =>
    have hserve := serveSwitchNow_begins (s := counted s) ha h.1 h.2
    have hopen : ¬((s.assoc a).confirmPolicy = .confirmed ∧ switchBlocked (counted s) a = true) := fun hb =>
      hblocked ⟨hb.1, switchBlocked_iff.mp hb.2⟩
    have hserve := hserve.trans ((if_neg (ne_false_of_eq_true hready)).trans (if_neg hopen))
    rw [beginSwitch_confirmed (s := counted s) hconfirmed] at hserve
    have hbytes : switchNowBytes ((((counted s).updAssoc a (Assoc.announced
        ((counted s).port ((counted s).assoc a).port).firstStep)).updPort ((counted s).assoc a).port fun y =>
          { y with controlQueue := y.controlQueue ++ [a] }).assoc a)
        = [0, 1, BitVec.ofNat 8 (s.port (s.assoc a).port).firstStep] := by
      have hpolicy : ((counted s).assoc a).confirmPolicy = .confirmed := hconfirmed
      rw [State.assoc_updPort, State.assoc_updAssoc_self]
      simp only [switchNowBytes, Assoc.announced, hpolicy]
      rfl
    rw [hbytes] at hserve
    exact requestArrives_done (kind := .switchNow) htakes (by decide) hserve
  case unilateral =>
    have hserve := serveSwitchNow_begins (s := counted s) ha h.1 h.2
    have hready : ¬(counted s).nextReady a = false := by
      have : (counted s).nextReady a = ((s.slot k).state == .ready) := by
        rw [State.nextReady, show ((counted s).assoc a).next = some k from hk]
        rfl
      rw [this, hready]
      decide
    have hopen : ¬((s.assoc a).confirmPolicy = .confirmed ∧ switchBlocked (counted s) a = true) := fun hb => by
      simp [hunilateral] at hb
    have hserve := hserve.trans ((if_neg hready).trans (if_neg hopen))
    have hx : ((counted s).updAssoc a Assoc.unflagged).assoc a = (s.assoc a).unflagged := State.assoc_updAssoc_self ..
    have hnext : (((counted s).updAssoc a Assoc.unflagged).assoc a).next = some k := by rw [hx]; exact hk
    obtain ⟨-, -, hslot, hcurrents, hslots, hdone, -⟩ := cutOver_unflagged (s := counted s) hk hcurrent
    have hrecord := assoc_cutOver_self hnext
    rw [beginSwitch_unilateral (s := counted s) hunilateral] at hserve
    have hbytes : switchNowBytes ((cutOver a ((counted s).updAssoc a Assoc.unflagged)).assoc a)
        = [1, (s.slot k).epoch, 0] := by
      have hpolicy : ((counted s).assoc a).confirmPolicy = .unilateral := hunilateral
      rw [hrecord, hx]
      simp only [switchNowBytes, Assoc.withSwitchDone, Assoc.switched, Assoc.unflagged, hunilateral]
      rfl
    rw [hbytes] at hserve
    refine ⟨_, requestArrives_done (kind := .switchNow) htakes (by decide) hserve, rfl, hrecord.trans (by rw [hx]; rfl),
      fun b hb => (assoc_cutOver_ne hnext hb).trans (State.assoc_updAssoc_ne _ _ hb.symm), hslot, hcurrents, hslots, hdone⟩

end Sys2Proof.Proofs
end

section
/-! SUPPORT. ASSOC_CLEAR (R49), and what the end of an exchange leaves. -/

/-! One theorem is checked after another, as in the tests, which bounds the threads that the whole text takes. -/

set_option Elab.async false

namespace Sys2Proof.Proofs
open Sys2Proof Sys2Proof.Machine

variable {s t u : State} {a b : Anum} {k j : SlotNum} {p q : PortNum} {cause : AbortCause} {c : Byte}

/-! ## An event that is new -/

/-- An event of a new kind and source joins the tail of a list that has room (R175). -/
theorem events_raiseEvent_of_enabled {kind : EventKind} {source : EventSource} {detail : BitVec 16}
    (hbit : s.eventMask.getLsbD kind.code = true) (hnew : ∀ e ∈ s.events, ¬(e.kind = kind ∧ e.source = source))
    (hroom : s.events.length < 64) : (raiseEvent kind source detail s).events
      = s.events ++ [{ kind := kind, source := source, count := 1, detail := detail }] := by
  obtain ⟨-, -, hjoins, -⟩ := eventsAreTaken kind source detail s
  rw [hjoins hbit (fun ⟨e, he, h⟩ => hnew e he h) hroom]

theorem events_raiseEvent_new {kind : EventKind} {source : EventSource} {detail : BitVec 16}
    (hmask : s.eventMask = BitVec.allOnes 21) (hnew : ∀ e ∈ s.events, ¬(e.kind = kind ∧ e.source = source))
    (hroom : s.events.length < 64) : (raiseEvent kind source detail s).events
      = s.events ++ [{ kind := kind, source := source, count := 1, detail := detail }] :=
  events_raiseEvent_of_enabled (by rw [hmask]; cases kind <;> rfl) hnew hroom

/-! ## What an abandoned exchange leaves (R156) -/

/-- An abandoned exchange touches ports, associations and the event list alone. -/
theorem abandonExchange_lists (cause : AbortCause) (s : State) (a : Anum) : ∃ assocs ports events lost,
    abandonExchange cause s a = { s with assocs := assocs, ports := ports, events := events, eventsLost := lost } := by
  by_cases h : (s.assoc a).attempt = none
  · rw [abandonExchange_none h]
    exact ⟨_, _, _, _, rfl⟩
  · obtain ⟨events, lost, hraise⟩ := raiseEvent_lists .switchAborted (.assoc a) cause.code (endExchange a s)
    rw [abandonExchange_eq h, hraise]
    exact ⟨_, _, _, _, rfl⟩

theorem assoc_abandonExchange_ne (h : b ≠ a) : (abandonExchange cause s a).assoc b = s.assoc b := by
  by_cases hattempt : (s.assoc a).attempt = none
  · rw [abandonExchange_none hattempt]
  · rw [abandonExchange_eq hattempt, State.assoc_raiseEvent, endExchange, State.assoc_updAssoc_ne _ _ h.symm]
    rfl

theorem assoc_abandonExchange_self : (abandonExchange cause s a).assoc a
    = if (s.assoc a).attempt = none then s.assoc a else exchangeEnded (s.assoc a) := by
  split_ifs with hattempt
  · rw [abandonExchange_none hattempt]
  · rw [abandonExchange_eq hattempt, State.assoc_raiseEvent, endExchange, State.assoc_updAssoc_self]
    rfl

theorem counters_abandonExchange : ((abandonExchange cause s a).assoc b).counters = (s.assoc b).counters := by
  by_cases h : b = a
  · subst h
    rw [assoc_abandonExchange_self]
    split_ifs <;> rfl
  · rw [assoc_abandonExchange_ne h]

/-- Of a port an abandoned exchange touches the control queue alone. -/
theorem port_abandonExchange (cause : AbortCause) (s : State) (a : Anum) (p : PortNum) :
    (abandonExchange cause s a).port p = { s.port p with
      controlQueue := if p = (s.assoc a).port ∧ (s.assoc a).attempt ≠ none then
        (s.port p).controlQueue.filter (· != a) else (s.port p).controlQueue } := by
  by_cases h : (s.assoc a).attempt = none
  · rw [abandonExchange_none h, if_neg fun hp => hp.2 h]
  · rw [abandonExchange_eq h, State.port_raiseEvent, endExchange]
    show (s.updPort _ _).port p = _
    rw [State.port_updPort]
    by_cases hp : p = (s.assoc a).port
    · rw [if_pos hp.symm, if_pos ⟨hp, h⟩, hp]
    · rw [if_neg (Ne.symm hp), if_neg fun h => hp h.1]

/-- An association whose exchange is abandoned waits in no control queue (R140, R156). -/
theorem not_mem_controlQueue_abandonExchange (hs : Coherent s) (a : Anum) (p : PortNum) :
    a ∉ ((abandonExchange cause s a).port p).controlQueue := by
  have hfit := fits_of_coherent hs a
  obtain ⟨-, hswitching, -⟩ := hfit.ok
  refine List.count_eq_zero.mp ?_
  show (view (abandonExchange cause s a) a).places p = 0
  rw [view_abandonExchange hswitching hfit.unplaced]
  rfl

theorem eventMask_abandonExchange : (abandonExchange cause s a).eventMask = s.eventMask := by
  obtain ⟨_, _, _, _, h⟩ := abandonExchange_lists cause s a
  rw [h]

theorem length_events_abandonExchange : (abandonExchange cause s a).events.length ≤ s.events.length + 1 := by
  by_cases h : (s.assoc a).attempt = none
  · rw [abandonExchange_none h]
    exact Nat.le_succ _
  · rw [abandonExchange_eq h]
    exact length_events_raiseEvent

/-- The abort is the first event of a list that was empty (R156, R174). -/
theorem head_abandonExchange (hattempt : (s.assoc a).attempt ≠ none) (hevents : s.events = [])
    (hmask : s.eventMask = BitVec.allOnes 21) : (abandonExchange cause s a).events.head?
      = some { kind := .switchAborted, source := .assoc a, count := 1, detail := cause.code } := by
  have hnil : (endExchange a s).events = [] := hevents
  rw [abandonExchange_eq hattempt, events_raiseEvent_new (s := endExchange a s) hmask (by simp [hnil]) (by simp [hnil]), hnil]
  rfl

/-! ## ASSOC_CLEAR (R49) -/

theorem nextEmptied_slotFrame (o : Option SlotNum) (s : State) : SlotFrame s (nextEmptied o s) := by
  cases o with
  | none => exact .refl s
  | some k => exact ⟨_, _, _, _, _, rfl⟩

theorem events_nextEmptied (o : Option SlotNum) (s : State) : (nextEmptied o s).events = s.events := by
  cases o <;> rfl

theorem slot_nextEmptied_ne {o : Option SlotNum} (s : State) (h : o ≠ some k) : (nextEmptied o s).slot k = s.slot k := by
  cases o with
  | none => rfl
  | some j => exact slot_emptySlot_ne s fun hj => h (congrArg some hj)

theorem head_outgoingLeaves {o : Option SlotNum} {e : Event} (h : s.events.head? = some e) (hkind : e.kind ≠ .keyRetired) :
    (outgoingLeaves o s).events.head? = some e := by
  cases o with
  | none => exact h
  | some j =>
    obtain ⟨-, hj⟩ | ⟨-, hj⟩ := leaveService_cases j s <;> rw [outgoingLeaves, hj]
    · exact head_raiseEvent h hkind
    · exact h

/-- What ASSOC_CLEAR reaches before it withdraws verifications. -/
def cleanedUp (a : Anum) (s : State) : State :=
  nextEmptied (s.assoc a).next (outgoingLeaves (s.assoc a).current (abandonExchange .clear s a))

theorem clearAssoc_eq_cleanedUp (a : Anum) (s : State) :
    clearAssoc a s = withdrawVerifies a ((cleanedUp a s).updAssoc a Assoc.cleared) := clearAssoc_eq a s

theorem cleanedUp_slotFrame (a : Anum) (s : State) : SlotFrame (abandonExchange .clear s a) (cleanedUp a s) :=
  (outgoingLeaves_slotFrame ..).trans (nextEmptied_slotFrame ..)

theorem assoc_cleanedUp (a b : Anum) (s : State) : (cleanedUp a s).assoc b = (abandonExchange .clear s a).assoc b := by
  obtain ⟨_, _, _, _, _, h⟩ := cleanedUp_slotFrame a s
  rw [h]
  rfl

theorem port_cleanedUp (a : Anum) (s : State) (p : PortNum) : (cleanedUp a s).port p = (abandonExchange .clear s a).port p := by
  obtain ⟨_, _, _, _, _, h⟩ := cleanedUp_slotFrame a s
  rw [h]
  rfl

theorem slot_clearAssoc (a : Anum) (s : State) (k : SlotNum) : (clearAssoc a s).slot k = (cleanedUp a s).slot k := by
  rw [clearAssoc_eq_cleanedUp, slot_withdrawVerifies]
  rfl

theorem events_clearAssoc (a : Anum) (s : State) : (clearAssoc a s).events = (cleanedUp a s).events := by
  rw [clearAssoc_eq_cleanedUp, events_withdrawVerifies]
  rfl

theorem assoc_clearAssoc_self : (clearAssoc a s).assoc a = (s.assoc a).cleared := by
  rw [clearAssoc_eq_cleanedUp, assoc_withdrawVerifies, State.assoc_updAssoc_self, assoc_cleanedUp, Assoc.cleared,
    counters_abandonExchange]
  rfl

theorem assoc_clearAssoc_ne (h : b ≠ a) : (clearAssoc a s).assoc b = s.assoc b := by
  rw [clearAssoc_eq_cleanedUp, assoc_withdrawVerifies, State.assoc_updAssoc_ne _ _ h.symm, assoc_cleanedUp,
    assoc_abandonExchange_ne h]

theorem port_clearAssoc (a : Anum) (s : State) (p : PortNum) : ∃ inbox counters,
    (clearAssoc a s).port p = { (abandonExchange .clear s a).port p with inbox := inbox, counters := counters } := by
  obtain ⟨hport, -⟩ := withdrawVerifies_verifyFrame a ((cleanedUp a s).updAssoc a Assoc.cleared)
  obtain ⟨inbox, counters, h⟩ := hport p
  refine ⟨inbox, counters, ?_⟩
  rw [clearAssoc_eq_cleanedUp, h, State.port_updAssoc, port_cleanedUp]

theorem clearAssoc_rest (a : Anum) (s : State) :
    (clearAssoc a s).steering = s.steering ∧ (clearAssoc a s).transportKey = s.transportKey
      ∧ (clearAssoc a s).expansionFifo = (cleanedUp a s).expansionFifo := by
  obtain ⟨-, _, _, _, hverify⟩ := withdrawVerifies_verifyFrame a ((cleanedUp a s).updAssoc a Assoc.cleared)
  obtain ⟨_, _, _, _, hexchange⟩ := abandonExchange_lists .clear s a
  obtain ⟨_, _, _, _, _, hslots⟩ := cleanedUp_slotFrame a s
  rw [clearAssoc_eq_cleanedUp, hverify]
  refine ⟨?_, ?_, rfl⟩
  · show (cleanedUp a s).steering = _
    rw [hslots, hexchange]
  · show (cleanedUp a s).transportKey = _
    rw [hslots, hexchange]

section Slots

variable (hs : Coherent s)
include hs

theorem slot_cleanedUp_current (hj : (s.assoc a).current = some j) : (cleanedUp a s).slot j = (s.slot j).outgoing := by
  rw [cleanedUp, slot_nextEmptied_ne _ (next_ne_of_current hs hj), hj, slot_outgoingLeaves_self, slot_abandonExchange]

omit hs in
theorem listed_cleanedUp_current (hj : (s.assoc a).current = some j) (hcount : (s.slot j).inFlight = 0)
    (hopen : EventsOpen s) : Listed .keyRetired (.slot j) (cleanedUp a s) := by
  obtain ⟨hmask, hroom⟩ := hopen
  have hlisted : Listed .keyRetired (.slot j) (outgoingLeaves (some j) (abandonExchange .clear s a)) :=
    listed_outgoingLeaves (by rw [slot_abandonExchange]; exact hcount) (eventMask_abandonExchange.trans hmask)
      (by have := length_events_abandonExchange (cause := .clear) (s := s) (a := a); omega)
  rwa [Listed, cleanedUp, events_nextEmptied, hj]

omit hs in
theorem slot_cleanedUp_next (hk : (s.assoc a).next = some k) : (cleanedUp a s).slot k = Slot.empty := by
  rw [cleanedUp, hk]
  exact State.slot_updSlot_self ..

omit hs in
theorem not_mem_fifo_cleanedUp (hk : (s.assoc a).next = some k) : k ∉ (cleanedUp a s).expansionFifo := by
  rw [cleanedUp, hk]
  simp [nextEmptied, emptySlot, dropExpansion]

omit hs in
theorem slot_cleanedUp_ne (hcurrent : (s.assoc a).current ≠ some k) (hnext : (s.assoc a).next ≠ some k) :
    (cleanedUp a s).slot k = s.slot k := by
  rw [cleanedUp, slot_nextEmptied_ne _ hnext, slot_outgoingLeaves_ne _ hcurrent, slot_abandonExchange]

end Slots

theorem head_clearAssoc (hattempt : (s.assoc a).attempt ≠ none) (hevents : s.events = [])
    (hmask : s.eventMask = BitVec.allOnes 21) : (clearAssoc a s).events.head?
      = some { kind := .switchAborted, source := .assoc a, count := 1, detail := 2 } := by
  rw [events_clearAssoc, cleanedUp, events_nextEmptied]
  exact head_outgoingLeaves (head_abandonExchange hattempt hevents hmask) nofun

theorem serveAssocClear_noAnum (h : 64 ≤ c.toNat) : serveAssocClear c s = refuse .badValue s := by
  rw [serveAssocClear, inRange_eq_none h]

theorem serveAssocClear_done (ha : c.toNat = a.val) :
    serveAssocClear c s = done [] (if (s.assoc a).state = .idle then s else clearAssoc a s) := by
  simp only [serveAssocClear, inRange_eq_some_iff.mpr ha]
  split_ifs <;> rfl

/-- Settles O45: the parts of `clearAssoc` in turn. -/
theorem assocClearEmptiesTheRecord : Obligations.AssocClearEmptiesTheRecord := by
  refine ⟨fun tag c s htakes hc => ?_, fun tag c a s htakes ha => ⟨fun hidle => ?_, fun hstate hs => ?_⟩⟩
  · exact requestArrives_refused (kind := .assocClear) htakes (by decide) (serveAssocClear_noAnum hc) (by decide)
  · exact requestArrives_done (kind := .assocClear) htakes (by decide)
      ((serveAssocClear_done (s := counted s) ha).trans (congrArg _ (if_pos hidle)))
  · have hexec : exec (.assocClear tag c) s = .next (owingOk 0x90 tag [] (clearAssoc a (counted s))) :=
      requestArrives_done (kind := .assocClear) htakes (by decide)
        ((serveAssocClear_done (s := counted s) ha).trans (congrArg _ (if_neg hstate)))
    have hport (p : PortNum) := port_clearAssoc a (counted s) p
    have hcounted : Coherent (counted s) := hs
    obtain ⟨hsteering, htransport, hfifo⟩ := clearAssoc_rest a (counted s)
    refine ⟨_, hexec, rfl, assoc_clearAssoc_self, fun b hb => assoc_clearAssoc_ne hb, ?_, fun j hj => ⟨?_, fun hcount hopen => ?_⟩,
      fun k hk => ⟨?_, ?_⟩, fun k hcurrent hnext => ?_, fun hattempt hevents hmask => ?_, fun p => ?_, hsteering, htransport⟩
    · obtain ⟨_, _, h⟩ := hport (s.assoc a).port
      show a ∉ ((clearAssoc a (counted s)).port _).controlQueue
      rw [h]
      exact not_mem_controlQueue_abandonExchange hcounted a _
    · exact (slot_clearAssoc ..).trans (slot_cleanedUp_current hcounted hj)
    · show ∃ e ∈ (clearAssoc a (counted s)).events, _
      rw [events_clearAssoc]
      exact listed_cleanedUp_current hj hcount hopen
    · exact (slot_clearAssoc ..).trans (slot_cleanedUp_next hk)
    · show k ∉ (clearAssoc a (counted s)).expansionFifo
      rw [hfifo]
      exact not_mem_fifo_cleanedUp hk
    · exact (slot_clearAssoc ..).trans (slot_cleanedUp_ne hcurrent hnext)
    · exact head_clearAssoc (s := counted s) hattempt hevents hmask
    · obtain ⟨_, _, h⟩ := hport p
      rw [port_abandonExchange] at h
      show ((clearAssoc a (counted s)).port p).sequence = _ ∧ ((clearAssoc a (counted s)).port p).queues = _
      rw [h]
      exact ⟨rfl, rfl⟩

end Sys2Proof.Proofs
end

section
/-! SUPPORT. What the arbiter's grants and the PASS entries that become DONE leave as it was, and what they move (R91, R95). -/

/-! One theorem is checked after another, as in the tests, which bounds the threads that the whole text takes. -/

set_option Elab.async false

namespace Sys2Proof.Proofs
open Sys2Proof Sys2Proof.Machine

variable {s t u : State} {a : Anum} {k : SlotNum} {p q : PortNum} {l m : LaneNum} {mark inhibited : Bool}

/-! ## Entries of a sequence -/

/-- What a sequence's entries hold, whatever their status (R93). -/
def matter (x : Port) : List (EntryBody × Bytes) := x.sequence.map fun e => (e.body, e.frame)

theorem matter_finishPasses (inhibited : Bool) : ∀ es : List Entry,
    (finishPasses inhibited es).map (fun e => (e.body, e.frame)) = es.map fun e => (e.body, e.frame)
  | [] => rfl
  | e :: es => by
    unfold finishPasses
    split_ifs
    · exact congrArg (_ :: ·) (matter_finishPasses inhibited es)
    · rfl
    · exact congrArg (_ :: ·) (matter_finishPasses inhibited es)

theorem matter_grantOldest (l : LaneNum) (mark : Bool) : ∀ es : List Entry,
    (grantOldest l mark es).map (fun e => (e.body, e.frame)) = es.map fun e => (e.body, e.frame)
  | [] => rfl
  | e :: es => by
    unfold grantOldest
    split_ifs
    · rfl
    · exact congrArg (_ :: ·) (matter_grantOldest l mark es)

theorem mem_finishPasses {e : Entry} (hstatus : e.status ≠ .waitingLane) : ∀ {es : List Entry}, e ∈ es →
    e ∈ finishPasses inhibited es
  | g :: es, h => by
    rw [List.mem_cons] at h
    unfold finishPasses
    split_ifs with hg
    · obtain rfl | h := h
      · exact absurd hg hstatus
      · exact List.mem_cons_of_mem _ (mem_finishPasses hstatus h)
    · exact List.mem_cons.mpr h
    · exact List.mem_cons.mpr (h.imp_right (mem_finishPasses hstatus))

theorem mem_grantOldest {e : Entry} (hstatus : e.status ≠ .waitingLane) : ∀ {es : List Entry}, e ∈ es →
    e ∈ grantOldest l mark es
  | g :: es, h => by
    rw [List.mem_cons] at h
    unfold grantOldest
    split_ifs with hg
    · obtain rfl | h := h
      · exact absurd hg hstatus
      · exact List.mem_cons_of_mem _ h
    · exact List.mem_cons.mpr (h.imp_right (mem_grantOldest hstatus))

/-! ## Grants -/

/-- What grants keep: associations but for corrupt-one, ports but for the status of waiting entries, busy lanes, and the work
that waited, which still waits or has a lane (R91, R95, R99). -/
structure Grants (s t : State) : Prop where
  sans : ∀ b, (t.assoc b).sans = (s.assoc b).sans
  port : ∀ p, ∃ seq, t.port p = { s.port p with sequence := seq }
  matter : ∀ p, matter (t.port p) = matter (s.port p)
  stays : ∀ p, ∀ e ∈ (s.port p).sequence, e.status ≠ .waitingLane → e ∈ (t.port p).sequence
  busy : ∀ l op, s.lane l = .busy op → t.lane l = .busy op
  verifies : ∀ r ∈ s.verifyQueue, r ∈ t.verifyQueue ∨ ∃ l copy, t.lane l = .busy (.verify r copy false)
  expands : ∀ k ∈ s.expansionFifo, k ∈ t.expansionFifo ∨ ∃ l, t.lane l = .busy (.expand k (s.slot k).key true)
  frame : GrantFrame s t

theorem Grants.refl (s : State) : Grants s s :=
  ⟨fun _ => rfl, fun _ => ⟨_, rfl⟩, fun _ => rfl, fun _ _ h _ => h, fun _ _ h => h, fun _ h => .inl h, fun _ h => .inl h,
    .refl s⟩

theorem slots_of_grantFrame (h : GrantFrame s t) : t.slots = s.slots := by
  obtain ⟨_, _, _, _, _, _, rfl⟩ := h
  rfl

theorem Grants.slots (h : Grants s t) : t.slots = s.slots := slots_of_grantFrame h.frame

theorem Grants.slot (h : Grants s t) (k : SlotNum) : t.slot k = s.slot k := by rw [State.slot, State.slot, h.slots]

theorem Grants.trans (h : Grants s t) (g : Grants t u) : Grants s u where
  sans b := (g.sans b).trans (h.sans b)
  port p := by
    obtain ⟨_, ht⟩ := h.port p
    obtain ⟨seq, hu⟩ := g.port p
    exact ⟨seq, by rw [hu, ht]⟩
  matter p := (g.matter p).trans (h.matter p)
  stays p e he hstatus := g.stays p e (h.stays p e he hstatus) hstatus
  busy l op hl := g.busy l op (h.busy l op hl)
  verifies r hr := by
    obtain hr | ⟨l, copy, hl⟩ := h.verifies r hr
    · exact g.verifies r hr
    · exact .inr ⟨l, copy, g.busy _ _ hl⟩
  expands k hk := by
    obtain hk | ⟨l, hl⟩ := h.expands k hk
    · rw [← h.slot]
      exact g.expands k hk
    · exact .inr ⟨l, g.busy _ _ hl⟩
  frame := h.frame.trans g.frame

/-- What grants keep of all that the outcome of a trigger speaks of. -/
theorem Grants.stands (h : Grants s t) : SwitchStands s t := by
  refine ⟨h.sans, h.slots, ?_, fun p => ?_⟩
  · obtain ⟨_, _, _, _, _, _, rfl⟩ := h.frame
    rfl
  · obtain ⟨_, hp⟩ := h.port p
    rw [hp]

/-- A sequence whose waiting entries alone change. -/
theorem updSequence_grants (p : PortNum) (f : List Entry → List Entry)
    (hmatter : ∀ es, (f es).map (fun e => (e.body, e.frame)) = es.map fun e => (e.body, e.frame))
    (hstays : ∀ es, ∀ e ∈ es, e.status ≠ .waitingLane → e ∈ f es) (s : State) :
    Grants s (s.updPort p fun x => { x with sequence := f x.sequence }) where
  sans _ := rfl
  port q := by
    rw [State.port_updPort]
    split_ifs with h
    · subst h
      exact ⟨_, rfl⟩
    · exact ⟨_, rfl⟩
  matter q := by
    rw [State.port_updPort]
    split_ifs with h
    exacts [h ▸ hmatter _, rfl]
  stays q e he hstatus := by
    rw [State.port_updPort]
    split_ifs with h
    exacts [hstays _ e (h ▸ he) hstatus, he]
  busy _ _ h := h
  verifies _ h := .inl h
  expands _ h := .inl h
  frame := ⟨_, _, _, _, _, _, rfl⟩

/-- An idle lane takes work. -/
theorem setLane_grants (hidle : s.lane l = .idle) (x : Lane) : Grants s (s.setLane l x) where
  sans _ := rfl
  port _ := ⟨_, rfl⟩
  matter _ := rfl
  stays _ _ h _ := h
  busy m op h := by
    rw [State.lane_setLane, if_neg]
    · exact h
    · rintro rfl
      rw [hidle] at h
      cases h
  verifies _ h := .inl h
  expands _ h := .inl h
  frame := ⟨_, _, _, _, _, _, rfl⟩

theorem settlePasses_grants (p : PortNum) (s : State) : Grants s (settlePasses p s) :=
  updSequence_grants p _ (matter_finishPasses _) (fun _ _ he hstatus => mem_finishPasses hstatus he) s

theorem spendCorrupt_grants (body : EntryBody) (s : State) : Grants s (spendCorrupt body s).2 := by
  cases body with
  | data a k pn m v label =>
    refine ⟨fun b => ?_, fun _ => ⟨_, rfl⟩, fun _ => rfl, fun _ _ h _ => h, fun _ _ h => h, fun _ h => .inl h, fun _ h => .inl h,
      ⟨_, _, _, _, _, _, rfl⟩⟩
    show ((s.updAssoc a _).assoc b).sans = _
    rw [State.assoc_updAssoc]
    split_ifs with h
    · subst h
      rfl
    · rfl
  | notice a k pn => exact .refl s
  | pass => exact .refl s

theorem slot?_of_not_pass {e : Entry} (h : e.isPass = false) : ∃ k, e.slot? = some k := by
  rw [Entry.isPass] at h
  unfold Entry.slot?
  cases hbody : e.body with
  | data a k pn m v label => exact ⟨k, rfl⟩
  | notice a k pn => exact ⟨k, rfl⟩
  | pass => simp [hbody] at h

/-- A TRANSFORM granted, with its parts named (R91 step 3, R95, R99). -/
theorem grantTransform_eq {e : Entry} (hfind : (s.port p).sequence.find? (·.status == .waitingLane) = some e)
    (hk : e.slot? = some k) : grantTransform l p s = settlePasses p
      { (((spendCorrupt e.body s).2.updPort p fun x =>
          { x with sequence := grantOldest l (spendCorrupt e.body s).1 x.sequence }).setLane l
        (.busy (.transform p (keyCopy s k) (s.port p).settings.clpType))) with roundRobin := p + 1 } := by
  simp only [grantTransform, hfind, hk]

theorem roundRobin_grants (i : PortNum) (s : State) : Grants s { s with roundRobin := i } :=
  ⟨fun _ => rfl, fun _ => ⟨_, rfl⟩, fun _ => rfl, fun _ _ h _ => h, fun _ _ h => h, fun _ h => .inl h, fun _ h => .inl h,
    ⟨_, _, _, _, _, _, rfl⟩⟩

theorem grantTransform_grants (hidle : s.lane l = .idle) (hport : portEligible s p = true) :
    Grants s (grantTransform l p s) := by
  obtain ⟨e, hfind, hpass, -⟩ := portEligible_cases hport
  obtain ⟨k, hk⟩ := slot?_of_not_pass hpass
  rw [grantTransform_eq hfind hk]
  have hlane : ((spendCorrupt e.body s).2.updPort p fun x =>
      { x with sequence := grantOldest l (spendCorrupt e.body s).1 x.sequence }).lane l = .idle := by
    obtain ⟨assocs, hspend⟩ := spendCorrupt_frame e.body s
    rw [hspend]
    exact hidle
  exact ((spendCorrupt_grants e.body s).trans
    (updSequence_grants p _ (matter_grantOldest l _) (fun _ _ he hstatus => mem_grantOldest hstatus he) _)).trans
    ((setLane_grants hlane _).trans ((roundRobin_grants (p + 1) _).trans (settlePasses_grants p _)))

theorem grantOne_grants (h : grantOne s = some t) : Grants s t := by
  unfold grantOne at h
  split at h
  · cases h
  · next l hl =>
    have hidle := idle_of_idleLane hl
    split at h
    · next r rest hqueue =>
      cases h
      have g := setLane_grants hidle (.busy (.verify r (keyCopy s r.slot) false))
      refine { g with verifies := fun r' hr' => ?_, frame := ⟨_, _, _, _, _, _, rfl⟩ }
      rw [hqueue, List.mem_cons] at hr'
      obtain rfl | hr' := hr'
      · exact .inr ⟨l, _, State.lane_setLane_self ..⟩
      · exact .inl hr'
    · split at h
      · next k rest hqueue _ =>
        cases h
        have g := setLane_grants hidle (.busy (.expand k (s.slot k).key true))
        refine { g with expands := fun k' hk' => ?_, frame := ⟨_, _, _, _, _, _, rfl⟩ }
        rw [hqueue, List.mem_cons] at hk'
        obtain rfl | hk' := hk'
        · exact .inr ⟨l, State.lane_setLane_self ..⟩
        · exact .inl hk'
      · obtain ⟨p, hp, rfl⟩ := Option.map_eq_some_iff.mp h
        exact grantTransform_grants hidle (List.find?_some hp)

theorem grantUpTo_grants : ∀ (n : Nat) (s : State), Grants s (grantUpTo n s)
  | 0, s => .refl s
  | n + 1, s => by
    unfold grantUpTo
    split
    · next t h => exact (grantOne_grants h).trans (grantUpTo_grants n t)
    · exact .refl s

theorem arbitrate_grants (s : State) : Grants s (arbitrate s) := grantUpTo_grants ..

/-! ## A port that sends -/

/-- A port with its link UP and inhibit released discards no head of an unmarked sequence (R98). -/
structure Sends (s : State) (p : PortNum) : Prop where
  link : (s.port p).link = .up
  inhibit : s.inhibit = .released
  unmarked : Unmarked (s.port p)

theorem unmarked_finishPasses {es : List Entry} (h : ∀ e ∈ es, e.inhibitDiscard = false) :
    ∀ e ∈ finishPasses false es, e.inhibitDiscard = false := by
  induction es with
  | nil => exact h
  | cons e es ih =>
    rw [List.forall_mem_cons] at h
    obtain ⟨he, hes⟩ := h
    unfold finishPasses
    split_ifs
    · exact List.forall_mem_cons.mpr ⟨by simp [Entry.finish, he], ih hes⟩
    · exact List.forall_mem_cons.mpr ⟨he, hes⟩
    · exact List.forall_mem_cons.mpr ⟨he, ih hes⟩

theorem headDiscard_sends (h : Sends s p) : headDiscard s p = none := by
  obtain ⟨hlink, hinhibit, hunmarked⟩ := h
  simp only [headDiscard, hlink, inhibited_of_released hinhibit]
  split
  · rfl
  · next e es hseq =>
    have he : e.inhibitDiscard = false := hunmarked e (hseq ▸ List.mem_cons_self)
    simp [he]

theorem discardHeads_sends (h : Sends s p) : discardHeads p s = s := by
  unfold discardHeads
  cases (s.port p).sequence.length with
  | zero => rfl
  | succ n => rw [discardHeadsUpTo, headDiscard_sends h]

theorem sends_settlePasses (h : Sends s p) : Sends (settlePasses p s) p := by
  obtain ⟨hlink, hinhibit, hunmarked⟩ := h
  have hfalse : s.inhibited = false := inhibited_of_released hinhibit
  refine ⟨?_, hinhibit, ?_⟩ <;> rw [settlePasses, State.port_updPort_self]
  · exact hlink
  · rw [hfalse]
    exact unmarked_finishPasses hunmarked

theorem tidySequence_sends (h : Sends s p) : tidySequence p s = settlePasses p s :=
  discardHeads_sends (sends_settlePasses h)

theorem tidySequence_grants (h : Sends s p) : Grants s (tidySequence p s) := by
  rw [tidySequence_sends h]
  exact settlePasses_grants p s

end Sys2Proof.Proofs
end

section
/-! SUPPORT. Frames received on the C-side: pause frames, the return FIFO and the reply inbox (R117 to R123, R145). -/

/-! One theorem is checked after another, as in the tests, which bounds the threads that the whole text takes. -/

set_option Elab.async false

namespace Sys2Proof.Proofs
open Sys2Proof Sys2Proof.Machine

variable {s t : State} {a : Anum} {k : SlotNum} {p : PortNum} {f : Bytes}

/-! ## A frame on the C-side (R4, R17, R119) -/

theorem exec_csideFrame_linkDown (hreset : s.pins.resetLow = false) (hlink : (s.port p).link ≠ .up) :
    exec (.csideFrameReceived p f) s = .next s :=
  (unlessHeld_released hreset _).trans (if_pos hlink)

theorem exec_csideFrame_off (hreset : s.pins.resetLow = false) (hlink : (s.port p).link = .up)
    (hmode : (s.port p).mode = .off) : exec (.csideFrameReceived p f) s = .next (bumpPort p .portOffDrops 1 s) :=
  (unlessHeld_released hreset _).trans ((if_neg (not_not_intro hlink)).trans (if_pos hmode))

theorem exec_csideFrame (hreset : s.pins.resetLow = false) (hlink : (s.port p).link = .up)
    (hmode : (s.port p).mode = .protect) : exec (.csideFrameReceived p f) s = .next (receiveCampus p f s) :=
  (unlessHeld_released hreset _).trans ((if_neg (not_not_intro hlink)).trans (if_neg (mode_ne_off hmode)))

theorem receiveCampus_bad (h : fcsGood f = false ∨ f.length < 64 ∨ 9248 < f.length) :
    receiveCampus p f s = bumpPort p .returnFcsDrops 1 s := if_pos h

/-- A frame that the C-side receiver delivers whole (R119). -/
structure Delivered (f : Bytes) : Prop where
  fcs : fcsGood f = true
  long : 64 ≤ f.length
  short : f.length ≤ 9248

theorem receiveCampus_delivered (h : Delivered f) : receiveCampus p f s
    = if isMacControl f then applyCampusPause p f s
      else if isControl (s.port p) f then arbitrate (captureControl p f s) else enqueueReturn p f s := by
  obtain ⟨hfcs, hlong, hshort⟩ := h
  exact if_neg fun h => h.elim (fun h => ne_true_of_eq_false h hfcs) fun h => h.elim hlong.not_gt hshort.not_gt

theorem applyCampusPause_plain (h : be16At f 14 = 0x0001) : applyCampusPause p f s = bumpPort p .campusPauseReceived 1
    (s.updPort p fun y => { y with campusPause := Vector.replicate 8 (be16At f 16).toNat }) := by
  have htimes : pauseTimes f (s.port p).campusPause = some (Vector.replicate 8 (plainPauseTime f)) := if_pos h
  simp only [applyCampusPause, htimes]
  rfl

theorem applyCampusPause_priority (h : be16At f 14 = 0x0101) : applyCampusPause p f s = bumpPort p .campusPauseReceived 1
    (s.updPort p fun y => { y with
      campusPause := Vector.ofFn fun q : Fin 8 =>
        if (be16At f 16).getLsbD q.val then (be16At f (18 + 2 * q.val)).toNat else row y.campusPause q }) := by
  have hplain : macOpcode f ≠ 0x0001 := fun hplain => by
    rw [macOpcode, h] at hplain
    exact absurd hplain (by decide)
  have htimes : pauseTimes f (s.port p).campusPause = some (Vector.ofFn fun q : Fin 8 =>
      if prioPauseNames f q then prioPauseTime f q else row (s.port p).campusPause q) := (if_neg hplain).trans (if_pos h)
  simp only [applyCampusPause, htimes]
  exact congrArg _ (updPort_congr rfl)

theorem applyCampusPause_other (hplain : be16At f 14 ≠ 0x0001) (hpriority : be16At f 14 ≠ 0x0101) :
    applyCampusPause p f s = s := by
  have htimes : pauseTimes f (s.port p).campusPause = none := (if_neg hplain).trans (if_neg hpriority)
  simp only [applyCampusPause, htimes]

theorem enqueueReturn_fits (h : ((s.port p).returnFifo.map cellsOf).sum + cellsOf f ≤ 512) :
    enqueueReturn p f s = s.updPort p fun y => { y with returnFifo := y.returnFifo ++ [f] } :=
  if_pos (show cellsOf f ≤ 512 - ((s.port p).returnFifo.map cellsOf).sum by omega)

theorem cellsOf_pos (h : 64 ≤ f.length) : 0 < cellsOf f := Nat.div_pos (by omega) (by decide)

theorem enqueueReturn_full (hcells : 0 < cellsOf f) (h : 512 < ((s.port p).returnFifo.map cellsOf).sum + cellsOf f) :
    enqueueReturn p f s = raiseEvent .returnDrop (.port p) 0 (bumpPort p .returnDrops 1 s) :=
  if_neg (show ¬cellsOf f ≤ 512 - ((s.port p).returnFifo.map cellsOf).sum by omega)

/-- Settles O19: the branches of `receiveCampus`. -/
theorem campusFrameSteps : Obligations.CampusFrameSteps := by
  intro p f s hreset x
  refine ⟨exec_csideFrame_linkDown hreset, exec_csideFrame_off hreset, fun hlink hmode hbad => ?_,
    fun hlink hmode hfcs hlong hshort => ⟨fun htagged htype => ⟨fun h => ?_, fun h => ?_, fun hplain hpriority => ?_⟩,
      fun hmac hcontrol => ⟨fun h => ?_, fun h => ?_⟩⟩⟩
  case refine_1 => rw [exec_csideFrame hreset hlink hmode, receiveCampus_bad hbad]
  all_goals rw [exec_csideFrame hreset hlink hmode, receiveCampus_delivered ⟨hfcs, hlong, hshort⟩]
  · rw [if_pos (isMacControl_of_type htagged htype), applyCampusPause_plain h]
  · rw [if_pos (isMacControl_of_type htagged htype), applyCampusPause_priority h]
  · rw [if_pos (isMacControl_of_type htagged htype), applyCampusPause_other hplain hpriority]
  · rw [if_neg (ne_true_of_eq_false hmac), if_neg (ne_true_of_eq_false hcontrol), enqueueReturn_fits h]
  · rw [if_neg (ne_true_of_eq_false hmac), if_neg (ne_true_of_eq_false hcontrol), enqueueReturn_full (cellsOf_pos hlong) h]

/-! ## Control frames (R123, R145) -/

/-- A control frame stands in the reply inbox of a port, and is counted (R123). -/
def withCaptured (p : PortNum) (f : Bytes) (s : State) : State :=
  bumpPort p .controlCaptured 1 (s.updPort p fun x =>
    { x with inbox := x.inbox ++ [{ place := freePlace (s.port p).inbox, frame := f }] })

theorem captureControl_room (h : (s.port p).inbox.length < 4) :
    captureControl p f s = checkCaptured p (freePlace (s.port p).inbox) f (withCaptured p f s) := if_pos h

theorem captureControl_full (h : 4 ≤ (s.port p).inbox.length) :
    captureControl p f s = raiseEvent .inboxDrop (.port p) 0 (bumpPort p .inboxDrops 1 s) := if_neg h.not_gt

theorem port_withCaptured : (withCaptured p f s).port p = { (bumpPort p .controlCaptured 1 s).port p with
    inbox := (s.port p).inbox ++ [{ place := freePlace (s.port p).inbox, frame := f }] } := by
  simp only [withCaptured, bumpPort, State.port_updPort_self]

/-- A captured frame that fails a check leaves the inbox as it was (R145). -/
theorem port_failCaptured_withCaptured (h : (s.port p).inbox.length < 4) (c : PortCounter) :
    (failCaptured p (freePlace (s.port p).inbox) c (withCaptured p f s)).port p
      = (bumpPort p c 1 (bumpPort p .controlCaptured 1 s)).port p := by
  have hfree := freePlace_free h
  have hfilter : ((s.port p).inbox ++ [({ place := freePlace (s.port p).inbox, frame := f } : Captured)]).filter
      (fun c => c.place != freePlace (s.port p).inbox) = (s.port p).inbox := by
    rw [List.filter_append, List.filter_eq_self.mpr]
    · simp
    · intro c hc
      refine bne_iff_ne.mpr fun heq => hfree ?_
      rw [← heq]
      exact List.mem_map_of_mem hc
  simp only [failCaptured, leaveInbox, bumpPort, State.port_updPort_self, withCaptured, hfilter]

theorem captureWellFormed_iff (x : Port) (f : Bytes) : captureWellFormed x f = true ↔
    frameSA f = x.settings.peerAddress ∧ (ctlSubtype f = 0x02 ∨ ctlSubtype f = 0x03)
      ∧ ctlBodyAnum f = ctlTagAnum f ∧ ctlBodyLabel f = ctlTagLabel f
      ∧ (ctlSubtype f = 0x02 → (ctlResult f).toNat ≤ 2 ∧ ctlAnnounced f = ctlTagEpoch f)
      ∧ (ctlSubtype f = 0x03 → ctlResult f = 0) := by
  have h2 : subtypeReply = 0x02#8 := rfl
  have h3 : subtypeRequest = 0x03#8 := rfl
  simp only [captureWellFormed, h2, h3, Bool.and_eq_true, Bool.or_eq_true, beq_iff_eq, and_assoc]
  refine and_congr_right fun _ => and_congr_right fun hsub => and_congr_right fun _ => and_congr_right fun _ => ?_
  obtain hsub | hsub := hsub <;> simp [hsub]

theorem captureAssoc_eq_some_iff : captureAssoc s p f = some a ↔ a.val = (ctlTagAnum f).toNat ∧ (s.assoc a).state ≠ .idle
    ∧ (s.assoc a).port = p ∧ (s.assoc a).label = ctlTagLabel f := by
  simp only [captureAssoc, Option.filter_eq_some_iff, inRange_eq_some_iff, Bool.and_eq_true, bne_iff_ne, beq_iff_eq, and_assoc]
  exact and_congr_left fun _ => eq_comm

theorem captureAssoc_eq_none (h : ∀ a : Anum, a.val = (ctlTagAnum f).toNat →
    ¬((s.assoc a).state ≠ .idle ∧ (s.assoc a).port = p ∧ (s.assoc a).label = ctlTagLabel f)) : captureAssoc s p f = none := by
  rw [Option.eq_none_iff_forall_ne_some]
  intro a ha
  obtain ⟨hval, hrest⟩ := captureAssoc_eq_some_iff.mp ha
  exact h a hval hrest

theorem captureSlot_reply (h : ctlSubtype f = 0x02) : captureSlot s a f = some k ↔
    (s.assoc a).attempt ≠ none ∧ (s.assoc a).next = some k ∧ (s.slot k).epoch = ctlTagEpoch f := by
  have hrole : captureRole f = .next := if_pos h
  simp only [captureSlot, hrole]
  cases hattempt : (s.assoc a).attempt with
  | none => simp
  | some t => simp [Option.filter_eq_some_iff]

theorem captureSlot_request (h : ctlSubtype f = 0x03) : captureSlot s a f = some k ↔
    (s.assoc a).current = some k ∧ (s.assoc a).currentEpoch = ctlTagEpoch f := by
  have hrole : captureRole f = .current := if_neg (by rw [h]; decide)
  simp only [captureSlot, hrole, beq_iff_eq]
  split_ifs with hepoch
  · exact ⟨fun hk => ⟨hk, hepoch⟩, fun hk => hk.1⟩
  · exact ⟨nofun, fun hk => absurd hk.2 hepoch⟩

theorem checkCaptured_foreign {place : Fin 4} (h : captureWellFormed (s.port p) f = false) :
    checkCaptured p place f s = failCaptured p place .foreignControl s := if_pos h

section Checks

variable {place : Fin 4} (hgood : captureWellFormed (s.port p) f = true)
include hgood

theorem checkCaptured_unknown (h : captureAssoc s p f = none) :
    checkCaptured p place f s = failCaptured p place .unknownChannel s := by
  simp only [checkCaptured, hgood, h, Bool.true_eq_false, if_false]

theorem checkCaptured_stale (ha : captureAssoc s p f = some a) (h : captureSlot s a f = none) :
    checkCaptured p place f s = failCaptured p place .staleReplies s := by
  simp only [checkCaptured, hgood, ha, h, Bool.true_eq_false, if_false]

theorem checkCaptured_slot (ha : captureAssoc s p f = some a) (hk : captureSlot s a f = some k) :
    checkCaptured p place f s = if ctlTagPn f ≤ (s.assoc a).floorOf (captureRole f) then
        failCaptured p place .staleReplies s
      else { s with verifyQueue := s.verifyQueue ++
        [{ port := p, place := place, frame := f, anum := a, role := captureRole f, slot := k }] } := by
  simp only [checkCaptured, hgood, ha, hk, Bool.true_eq_false, if_false]

end Checks

/-- What the capture of a control frame leaves, whatever its checks (R123, R145). -/
structure Captures (p : PortNum) (s t : State) : Prop where
  assoc : ∀ b, t.assoc b = s.assoc b
  slots : t.slots = s.slots
  events : t.events = s.events

theorem withCaptured_captures : Captures p s (withCaptured p f s) := ⟨fun _ => rfl, rfl, rfl⟩

theorem failCaptured_captures (place : Fin 4) (c : PortCounter) (h : Captures p s t) :
    Captures p s (failCaptured p place c t) := ⟨h.assoc, h.slots, h.events⟩

theorem checkCaptured_captures (place : Fin 4) (f : Bytes) (h : Captures p s t) :
    Captures p s (checkCaptured p place f t) := by
  unfold checkCaptured
  split
  · exact failCaptured_captures _ _ h
  · split
    · exact failCaptured_captures _ _ h
    · split
      · exact failCaptured_captures _ _ h
      · split
        · exact failCaptured_captures _ _ h
        · exact ⟨h.assoc, h.slots, h.events⟩

/-- A check that fails once the frame stands in the inbox. -/
theorem failed_of_check {c : PortCounter} (hroom : (s.port p).inbox.length < 4)
    (hcheck : captureControl p f s = failCaptured p (freePlace (s.port p).inbox) c (withCaptured p f s)) :
    ((arbitrate (captureControl p f s)).port p).inbox = (s.port p).inbox
      ∧ ((arbitrate (captureControl p f s)).port p).counters
        = ((bumpPort p c 1 (bumpPort p .controlCaptured 1 s)).port p).counters := by
  obtain ⟨_, hport⟩ := (arbitrate_grants (captureControl p f s)).port p
  rw [hport, hcheck, port_failCaptured_withCaptured hroom]
  refine ⟨?_, rfl⟩
  simp only [bumpPort, State.port_updPort_self]

/-- Settles O20: the branches of `checkCaptured`, followed by grants. -/
theorem controlFramesAreChecked : Obligations.ControlFramesAreChecked := by
  intro p f s hreset hlink hmode hfcs hmac hcontrol
  have hlength : f.length = 64 := by
    simp only [isControl, Bool.and_eq_true, decide_eq_true_eq] at hcontrol
    tauto
  have hexec : exec (.csideFrameReceived p f) s = .next (arbitrate (captureControl p f s)) := by
    rw [exec_csideFrame hreset hlink hmode, receiveCampus_delivered ⟨hfcs, hlength.ge, by omega⟩,
      if_neg (ne_true_of_eq_false hmac), if_pos hcontrol]
  have g := arbitrate_grants (captureControl p f s)
  have hcaptures (hroom : (s.port p).inbox.length < 4) : Captures p s (captureControl p f s) := by
    rw [captureControl_room hroom]
    exact checkCaptured_captures _ _ withCaptured_captures
  refine ⟨_, hexec, fun a => ?_, ?_, fun hfull => ?_, fun hroom => ?_, fun hroom hplaces => ?_⟩
  · refine (g.sans a).trans ?_
    obtain hroom | hfull := Nat.lt_or_ge (s.port p).inbox.length 4
    · rw [(hcaptures hroom).assoc]
      rfl
    · rw [captureControl_full hfull, State.assoc_raiseEvent]
      rfl
  · rw [g.slots]
    obtain hroom | hfull := Nat.lt_or_ge (s.port p).inbox.length 4
    · exact (hcaptures hroom).slots
    · rw [captureControl_full hfull, slots_raiseEvent]
      rfl
  · obtain ⟨_, hport⟩ := g.port p
    refine ⟨?_, ?_, ?_⟩
    · rw [hport, captureControl_full hfull, State.port_raiseEvent, bumpPort, State.port_updPort_self]
    · rw [hport, captureControl_full hfull, State.port_raiseEvent]
    · rw [g.stands.events, captureControl_full hfull]
      refine events_raiseEvent_congr ?_ ?_ _ _ _ <;> rfl
  · rw [g.stands.events, (hcaptures hroom).events]
  · intro failed x wellFormed
    have hcheck := captureControl_room (f := f) hroom
    have hx : captureWellFormed ((withCaptured p f s).port p) f = captureWellFormed x f := by
      rw [port_withCaptured, bumpPort, State.port_updPort_self]
      rfl
    have hgood (h : wellFormed) : captureWellFormed ((withCaptured p f s).port p) f = true :=
      hx.trans ((captureWellFormed_iff x f).mpr h)
    refine ⟨fun hforeign => ?foreign, fun hwell hnone => ?unknown, fun a ha hwell hstate hport hlabel => ?_⟩
    case foreign =>
      have hbad : captureWellFormed ((withCaptured p f s).port p) f = false :=
        hx.trans (eq_false_of_ne_true (mt (captureWellFormed_iff x f).mp hforeign))
      exact failed_of_check hroom (hcheck.trans (checkCaptured_foreign hbad))
    case unknown =>
      exact failed_of_check hroom (hcheck.trans (checkCaptured_unknown (hgood hwell)
        (captureAssoc_eq_none (s := withCaptured p f s) hnone)))
    have hassoc : captureAssoc (withCaptured p f s) p f = some a :=
      captureAssoc_eq_some_iff.mpr ⟨ha, hstate, hport, hlabel⟩
    have hstale (h : captureSlot (withCaptured p f s) a f = none) : failed .staleReplies :=
      failed_of_check hroom (hcheck.trans (checkCaptured_stale (hgood hwell) hassoc h))
    refine ⟨fun hreply hno => hstale (Option.eq_none_iff_forall_ne_some.mpr fun k hk => ?_),
      fun hrequest hno => hstale (Option.eq_none_iff_forall_ne_some.mpr fun k hk => ?_), fun k hnames => ?_⟩
    · obtain ⟨hattempt, hnext, hepoch⟩ := (captureSlot_reply hreply).mp hk
      exact hno ⟨hattempt, k, hnext, hepoch⟩
    · obtain ⟨hcurrent, hepoch⟩ := (captureSlot_request hrequest).mp hk
      exact hno ⟨fun hnone => Option.some_ne_none k (hcurrent.symm.trans hnone), hepoch⟩
    · intro role floor
      have hslot : captureSlot (withCaptured p f s) a f = some k := by
        obtain ⟨hreply, h⟩ | ⟨hrequest, h⟩ := hnames
        · exact (captureSlot_reply hreply).mpr h
        · exact (captureSlot_request hrequest).mpr h
      have hfloor : ((withCaptured p f s).assoc a).floorOf (captureRole f) = floor := by
        show (s.assoc a).floorOf (if ctlSubtype f = 0x02 then .next else .current) = if _ then _ else _
        split_ifs <;> rfl
      have hslots := checkCaptured_slot (place := freePlace (s.port p).inbox) (hgood hwell) hassoc hslot
      rw [hfloor] at hslots
      refine ⟨fun hle => failed_of_check hroom (hcheck.trans (hslots.trans (if_pos hle))), fun hlt => ?_⟩
      have hqueued := hcheck.trans (hslots.trans (if_neg hlt.not_ge))
      refine ⟨freePlace (s.port p).inbox, ?_, ?_, ?_⟩
      · obtain ⟨_, hport⟩ := g.port p
        rw [hport, hqueued]
        show ((withCaptured p f s).port p).inbox = _
        rw [port_withCaptured]
      · obtain ⟨_, hport⟩ := g.port p
        rw [hport, hqueued]
        show ((withCaptured p f s).port p).counters = _
        rw [port_withCaptured]
      · refine g.verifies _ ?_
        rw [hqueued]
        exact List.mem_append_right _ (List.mem_singleton_self _)

end Sys2Proof.Proofs
end

section
/-! SUPPORT. The steering decision (R28 to R33). -/

/-! One theorem is checked after another, as in the tests, which bounds the threads that the whole text takes. -/

set_option Elab.async false

namespace Sys2Proof.Proofs
open Sys2Proof Sys2Proof.Machine

variable {s t : State} {a : Anum} {p : PortNum} {f : Bytes} {i j : EntryIdx} {cls : ClassNum}

/-! ## The candidates in order (R28) -/

/-- The least element of a rising list heads it, and the tail holds the others. -/
theorem exists_tail_of_least {α : Type} [LinearOrder α] {P : α → Prop} {i : α} : ∀ {xs : List α}, xs.Pairwise (· < ·) →
    (∀ j, j ∈ xs ↔ P j) → P i → (∀ j, j < i → ¬P j) →
    ∃ rest, xs = i :: rest ∧ rest.Pairwise (· < ·) ∧ ∀ j, j ∈ rest ↔ i < j ∧ P j
  | [], _, hmem, hi, _ => absurd ((hmem i).mpr hi) List.not_mem_nil
  | x :: rest, hsorted, hmem, hi, hleast => by
    obtain ⟨hx, hrest⟩ := List.pairwise_cons.mp hsorted
    have hxi : i = x := by
      obtain h | h := List.mem_cons.mp ((hmem i).mpr hi)
      · exact h
      · exact absurd ((hmem x).mp List.mem_cons_self) (hleast x (hx i h))
    subst hxi
    refine ⟨rest, rfl, hrest, fun j => ⟨fun hj => ⟨hx j hj, (hmem j).mp (List.mem_cons_of_mem _ hj)⟩, fun ⟨hlt, hj⟩ => ?_⟩⟩
    exact (List.mem_cons.mp ((hmem j).mpr hj)).resolve_left hlt.ne'

theorem mem_candidates : j ∈ candidates s p f ↔ (s.entry j).candidate p f = true := by
  simp [candidates, allEntries]

theorem candidates_pairwise : (candidates s p f).Pairwise (· < ·) := (List.pairwise_lt_finRange 128).filter _

theorem candidates_eq_nil (h : ∀ i, (s.entry i).candidate p f = false) : candidates s p f = [] :=
  List.eq_nil_iff_forall_not_mem.mpr fun i hi => ne_true_of_eq_false (h i) (mem_candidates.mp hi)

/-- The lowest candidate heads the list of candidates (R28). -/
theorem candidates_eq_cons (hi : (s.entry i).candidate p f = true) (hleast : ∀ j, j < i → (s.entry j).candidate p f = false) :
    ∃ rest, candidates s p f = i :: rest ∧ rest.Pairwise (· < ·)
      ∧ ∀ j, j ∈ rest ↔ i < j ∧ (s.entry j).candidate p f = true :=
  exists_tail_of_least candidates_pairwise (fun _ => mem_candidates) hi fun j hj => ne_true_of_eq_false (hleast j hj)

/-! ## The overlap (R29) -/

/-- The overlap that a frame's candidates make, if there are two, from the state in which the hit has been counted. -/
def OverlapNoted (i : EntryIdx) (p : PortNum) (f : Bytes) (s s1 s2 : State) : Prop :=
  (∀ j, j ≠ i → (s.entry j).candidate p f = false) ∧ s2 = s1
    ∨ ∃ j, i < j ∧ (s.entry j).candidate p f = true ∧ (∀ k, i < k → k < j → (s.entry k).candidate p f = false)
      ∧ s2 = raiseEvent .steerOverlap (.port p) (BitVec.ofNat 16 (i.val + 256 * j.val)) (bumpPort p .overlaps 1 s1)

theorem noteOverlap_eq {s1 s2 : State} (hi : (s.entry i).candidate p f = true)
    (hleast : ∀ j, j < i → (s.entry j).candidate p f = false) (h : OverlapNoted i p f s s1 s2) :
    noteOverlap p (candidates s p f) s1 = s2 := by
  obtain ⟨rest, hcandidates, hsorted, hmem⟩ := candidates_eq_cons hi hleast
  obtain ⟨hnone, rfl⟩ | ⟨j, hij, hj, hbetween, rfl⟩ := h
  · have hrest : rest = [] := List.eq_nil_iff_forall_not_mem.mpr fun j hj => by
      obtain ⟨hij, hcandidate⟩ := (hmem j).mp hj
      exact ne_true_of_eq_false (hnone j hij.ne') hcandidate
    rw [hcandidates, hrest]
    rfl
  · obtain ⟨more, hrest, -⟩ := exists_tail_of_least hsorted hmem ⟨hij, hj⟩ fun k hkj hk =>
      ne_true_of_eq_false (hbetween k hk.1 hkj) hk.2
    rw [hcandidates, hrest]
    rfl

theorem assoc_overlapNoted {s1 s2 : State} (h : OverlapNoted i p f s s1 s2) (a : Anum) : s2.assoc a = s1.assoc a := by
  obtain ⟨-, rfl⟩ | ⟨j, -, -, -, rfl⟩ := h
  · rfl
  · exact State.assoc_raiseEvent ..

/-! ## What an action does (R30 to R33) -/

theorem classOf_eq (x : Port) (override : Option ClassNum) (f : Bytes) : classOf x override f = override.getD
    (if frameTagged f then row x.settings.classMap (framePrio f) else x.settings.untaggedClass) := by
  cases override <;> rfl

/-- The checks of R31 in their order. -/
theorem steerProtect_eq (p : PortNum) (a : Anum) (f : Bytes) (cls : ClassNum) (s : State) : steerProtect p a f cls s
    = if (s.assoc a).state = .idle then bumpPort p .assocStateDrops 1 s
      else if (s.assoc a).port ≠ p then bumpPort p .misdirectedDrops 1 s
      else if (s.assoc a).state = .configured ∨ (s.assoc a).state = .suspended ∨ (s.assoc a).state = .faulted then
        bumpAssoc a .stateDrops 1 (bumpPort p .assocStateDrops 1 s)
      else handOver p f cls (.protect a) s := by
  simp only [steerProtect]
  cases (s.assoc a).state <;> simp

/-- A frame accepted for steering is steered (R9, R11, R12). -/
theorem exec_rsideFrame_steered (h : AcceptedForSteering s p f) :
    exec (.rsideFrameReceived p f) s = .next (steerFrame p f (countedIn p f s)) := by
  obtain ⟨hreset, hrack, hmode, hmin, hmax, hfcs, hmac, hinhibit⟩ := h
  have haccepted : acceptanceDrop (s.port p) f = none :=
    (acceptanceDrop_of_length hmode hmin hmax).trans (if_neg (by simp [hfcs]))
  rw [exec_rsideFrameReceived hreset hrack, receiveRack_accepted haccepted, if_neg (ne_true_of_eq_false hmac), if_neg]
  rw [inhibited_iff]
  exact hinhibit

theorem steerFrame_found {s1 s2 : State} (hi : (s.entry i).candidate p f = true)
    (hleast : ∀ j, j < i → (s.entry j).candidate p f = false) (hs1 : countHit i s = s1) (h : OverlapNoted i p f s s1 s2) :
    steerFrame p f s
      = applyAction p f (s.entry i).action (classOf (s.port p) (s.entry i).classOverride f) .steerDrops s2 := by
  obtain ⟨rest, hcandidates, -⟩ := candidates_eq_cons hi hleast
  have hoverlap := noteOverlap_eq hi hleast h
  rw [hcandidates] at hoverlap
  simp only [steerFrame, hcandidates, hs1, hoverlap]

theorem steerFrame_noMatch (h : ∀ i, (s.entry i).candidate p f = false) : steerFrame p f s
    = applyAction p f (s.port p).settings.defaultAction (classOf (s.port p) none f) .noMatchDrops s := by
  simp only [steerFrame, candidates_eq_nil h]

theorem settings_countedIn : ((countedIn p f s).port p).settings = (s.port p).settings := by
  simp only [countedIn, bumpPort, State.port_updPort_self]

theorem classOf_countedIn (override : Option ClassNum) : classOf ((countedIn p f s).port p) override f = override.getD
    (if frameTagged f then row (s.port p).settings.classMap (framePrio f) else (s.port p).settings.untaggedClass) := by
  rw [classOf_eq, settings_countedIn]

/-- Settles O16: the deciding entry, or none, and then the action. -/
theorem steeringDecides : Obligations.SteeringDecides := by
  intro p f s hs x keep protect plainClass
  have hexec := exec_rsideFrame_steered hs
  refine ⟨?_, fun hnone => ?_⟩
  · intro i hi hleast s1 cls s2 h2
    have hoverlap : OverlapNoted i p f (countedIn p f s) s1 s2 := h2
    have hassoc (a : Anum) : s2.assoc a = s.assoc a := assoc_overlapNoted hoverlap a
    rw [hexec, steerFrame_found (s := countedIn p f s) hi hleast rfl hoverlap, classOf_countedIn]
    refine ⟨fun haction => ?_, fun haction => ?_, fun a haction => ?_⟩
    all_goals rw [show ((countedIn p f s).entry i).action = _ from haction]
    · rfl
    · rfl
    · rw [applyAction, steerProtect_eq, hassoc]
      rfl
  · rw [hexec, steerFrame_noMatch (s := countedIn p f s) hnone, classOf_countedIn, settings_countedIn]
    refine ⟨fun haction => ?_, fun haction => ?_, fun a haction => ?_⟩
    all_goals rw [show (s.port p).settings.defaultAction = _ from haction]
    · rfl
    · rfl
    · rw [applyAction, steerProtect_eq]
      rfl

end Sys2Proof.Proofs
end

section
/-! SUPPORT. The bytes of the finished frames (R18 to R21, R85, R86), and the R-side transmitter (R113, R114, R121). -/

/-! One theorem is checked after another, as in the tests, which bounds the threads that the whole text takes. -/

set_option Elab.async false

namespace Sys2Proof.Proofs
open Sys2Proof Sys2Proof.Machine

variable {s t : State} {p : PortNum} {f : Bytes} {e : Entry} {copy : KeyCopy} {clp : BitVec 16}

/-! ## The protected data frame (R18, R20, R85) -/

theorem corruptIcv_eq (corrupted : Bool) (icv : Bytes) :
    corruptIcv corrupted icv = if corrupted then icv.modifyHead (fun b => ~~~ b) else icv := by
  cases icv with
  | nil => rfl
  | cons b bs =>
    have htail : bs.mapIdx (fun _ c => c) = bs := List.ext_getElem List.length_mapIdx (by simp)
    simp [corruptIcv, List.mapIdx_cons, htail]

theorem length_corruptIcv (corrupted : Bool) (icv : Bytes) : (corruptIcv corrupted icv).length = icv.length := by
  unfold corruptIcv
  split_ifs
  · exact List.length_mapIdx
  · rfl

theorem length_icvBytes (key nonce ad plain : Bytes) : (icvBytes key nonce ad plain).length = 16 := length_toBE ..

theorem length_clpTag (clp : BitVec 16) (flags : Byte) (a : Anum) (epoch : Byte) (pn : Nat) (label : BitVec 32) :
    (clpTag clp flags a epoch pn label).length = 16 := by simp [clpTag]

theorem length_withFcs (f : Bytes) : (withFcs f).length = f.length + 4 := by simp [withFcs, fcsBytes]

theorem length_clearHeader (v : VlanHandling) (h : 20 ≤ f.length) :
    (clearHeader v f).length + (plainBody v f).length + 4 = f.length := by
  have hhead : (clearHeader v f).length ≤ 16 := by
    unfold clearHeader
    split_ifs <;> simp
  have hbody : (plainBody v f).length = f.length - 4 - (clearHeader v f).length := by simp [plainBody, withoutFcs]
  omega

theorem length_protectedFrame (d : DataFields) (corrupted : Bool) (h : 20 ≤ f.length) :
    (protectedFrame d copy clp p corrupted f).length = f.length + 32 := by
  have hlength := length_clearHeader d.vlan h
  unfold protectedFrame
  cases d.protection <;>
    simp only [length_withFcs, List.length_append, dataTag, length_clpTag, cipherText, List.length_map, List.length_range,
      length_corruptIcv, length_icvBytes] <;> omega

/-- Settles O22: the two builders written out. -/
theorem protectedFrameLayout : Obligations.ProtectedFrameLayout := by
  refine ⟨fun p copy clp e a k pn m v label hbody hlength => ?_, fun p copy clp e a k pn hbody hlength => ?_⟩
  · intro f clear head body flags tag nonce plain ad sent icv icvSent bytes
    have htransformed : transformed p copy clp e
        = protectedFrame { anum := a, pn := pn, protection := m, vlan := v, label := label } copy clp p e.corrupted f := by
      rw [transformed, hbody]
    rw [htransformed]
    refine ⟨?_, length_protectedFrame _ _ hlength⟩
    have hhead : clearHeader v f = head := by
      show (if clear then _ else _) = f.take (if clear then 16 else 12)
      split_ifs <;> rfl
    have htag : dataTag { anum := a, pn := pn, protection := m, vlan := v, label := label } copy clp f = tag := by
      have hflags : clpFlags false (m == .confidential) clear = flags := by
        show 0#8 ||| _ ||| (if clear then 0x20#8 else 0) = (if m = .confidential then 0x40#8 else 0) ||| _
        rw [BitVec.zero_or]
        cases m <;> rfl
      exact congrArg (clpTag clp · a copy.epoch pn label) hflags
    have hplain : plainBody v f = body := by
      show (f.take _).drop (clearHeader v f).length = _
      rw [hhead]
    unfold protectedFrame
    dsimp only
    rw [hhead, htag, hplain]
    cases m <;> dsimp only <;> rw [corruptIcv_eq] <;> rfl
  · intro f nonce bytes
    have htransformed : transformed p copy clp e = finishedNotice copy p f := by rw [transformed, hbody]
    rw [htransformed]
    refine ⟨rfl, ?_⟩
    rw [finishedNotice, length_withFcs, List.length_append, length_icvBytes, hlength]

/-! ## The R-side transmitter (R113, R114, R121) -/

section RackTx

variable (hreset : s.pins.resetLow = false)
include hreset

theorem exec_rsideTxStart_blocked (h : row s.pins.rackLink p = false ∨ (s.port p).rackTx ≠ none) :
    exec (.rsideTxStart p) s = .next s :=
  (unlessHeld_released hreset _).trans (if_pos h)

theorem exec_rsideTxStart_pause (hlink : row s.pins.rackLink p = true) (hfree : (s.port p).rackTx = none)
    (howed : (s.port p).pauseOwed = true) : exec (.rsideTxStart p) s = .next (s.updPort p fun y => { y with
      rackTx := some (.pause (classPauseFrame y)), pauseOwed := false, refresh := restartRefresh y }) := by
  have hready : ¬(row s.pins.rackLink p = false ∨ (s.port p).rackTx ≠ none) := by simp [hlink, hfree]
  exact (unlessHeld_released hreset _).trans ((if_neg hready).trans (if_pos howed))

theorem exec_rsideTxStart_return (hlink : row s.pins.rackLink p = true) (hfree : (s.port p).rackTx = none)
    (howed : (s.port p).pauseOwed = false) (h : (s.port p).forwardable = some f) : exec (.rsideTxStart p) s
      = .next (s.updPort p fun y => { y with rackTx := some (.returned f), returnFifo := y.returnFifo.drop 1 }) := by
  have hready : ¬(row s.pins.rackLink p = false ∨ (s.port p).rackTx ≠ none) := by simp [hlink, hfree]
  refine (unlessHeld_released hreset _).trans ((if_neg hready).trans ((if_neg (ne_true_of_eq_false howed)).trans ?_))
  simp only [h]

theorem exec_rsideTxStart_nothing (hlink : row s.pins.rackLink p = true) (hfree : (s.port p).rackTx = none)
    (howed : (s.port p).pauseOwed = false) (h : (s.port p).forwardable = none) : exec (.rsideTxStart p) s = .next s := by
  have hready : ¬(row s.pins.rackLink p = false ∨ (s.port p).rackTx ≠ none) := by simp [hlink, hfree]
  refine (unlessHeld_released hreset _).trans ((if_neg hready).trans ((if_neg (ne_true_of_eq_false howed)).trans ?_))
  simp only [h]

end RackTx

theorem exec_rsideTxComplete_pause (hreset : s.pins.resetLow = false) (h : (s.port p).rackTx = some (.pause f)) :
    exec (.rsideTxComplete p) s = .next (bumpPort p .pauseFramesSent 1 (s.updPort p fun y => { y with rackTx := none })) := by
  refine (unlessHeld_released hreset _).trans ?_
  simp only [h]

theorem exec_rsideTxComplete_return (hreset : s.pins.resetLow = false) (h : (s.port p).rackTx = some (.returned f)) :
    exec (.rsideTxComplete p) s = .next (bumpPort p .returnForwarded 1 (s.updPort p fun y => { y with rackTx := none })) := by
  refine (unlessHeld_released hreset _).trans ?_
  simp only [h]

theorem forwardable_head {x : Port} {fs : List Bytes} (h : x.returnFifo = f :: fs) :
    x.forwardable = if row x.rackPause (returnPrio f) = 0 then some f else none := by
  simp only [Port.forwardable, h]

theorem forwardable_nil {x : Port} (h : x.returnFifo = []) : x.forwardable = none := by
  simp only [Port.forwardable, h]

theorem rest_updPort (p : PortNum) (g : Port → Port) (s : State) :
    (∀ q, q ≠ p → (s.updPort p g).port q = s.port q) ∧ { s.updPort p g with ports := s.ports } = s :=
  ⟨fun _ hq => State.port_updPort_ne _ _ hq.symm, rfl⟩

theorem length_pauseTimes (x : Port) : (allPrios.flatMap fun q => toBE 2 (pauseTimeOf x q)).length = 16 := by
  simp [allPrios]

/-- Settles O30: what the transmitter chooses, and what each completion counts. -/
theorem rackTransmitter : Obligations.RackTransmitter := by
  intro p s hreset x
  refine ⟨fun hlink hfree => ⟨fun howed => ?_, fun f fs howed hfifo => ?_⟩, fun h => ?_, fun f htx => ?_, fun f htx => ?_⟩
  · intro times bytes
    have hlength : bytes.length = 60 := by
      have htimes : times.length = 16 := length_pauseTimes x
      simp [bytes, htimes]
    obtain ⟨hports, hrest⟩ := rest_updPort p (fun y => { y with
      rackTx := some (.pause (classPauseFrame y)), pauseOwed := false, refresh := restartRefresh y }) s
    refine ⟨hlength, _, exec_rsideTxStart_pause hreset hlink hfree howed, ?_, ?_, fun k => ?_, ?_, hports, hrest⟩
    all_goals rw [State.port_updPort_self]
    · rfl
    · exact row_ofFn ..
  · intro prio
    have hforward : x.forwardable = if row x.rackPause prio = 0 then some f else none := forwardable_head hfifo
    refine ⟨fun hopen => ?_, fun hpaused => ?_⟩
    · rw [exec_rsideTxStart_return hreset hlink hfree howed (hforward.trans (if_pos hopen))]
      exact congrArg _ (updPort_congr (by rw [hfifo]; rfl))
    · exact exec_rsideTxStart_nothing hreset hlink hfree howed (hforward.trans (if_neg hpaused.ne'))
  · by_cases hblocked : row s.pins.rackLink p = false ∨ x.rackTx ≠ none
    · exact exec_rsideTxStart_blocked hreset hblocked
    · obtain ⟨howed, hempty⟩ := h.resolve_left (fun h => hblocked (.inl h)) |>.resolve_left fun h => hblocked (.inr h)
      push Not at hblocked
      obtain ⟨hlink, hfree⟩ := hblocked
      exact exec_rsideTxStart_nothing hreset (eq_true_of_ne_false hlink) hfree howed (forwardable_nil hempty)
  · exact exec_rsideTxComplete_pause hreset htx
  · exact exec_rsideTxComplete_return hreset htx

end Sys2Proof.Proofs
end

section
/-! SUPPORT. The dequeue decision (R51 to R55, R108), the placement of a notice (R56, R141, R142) and the C-side transmitter
(R15). -/

/-! One theorem is checked after another, as in the tests, which bounds the threads that the whole text takes. -/

set_option Elab.async false

namespace Sys2Proof.Proofs
open Sys2Proof Sys2Proof.Machine

variable {s t u : State} {a b : Anum} {k j : SlotNum} {p q : PortNum} {c : ClassNum} {r : FrameRecord} {e : Entry}
  {kind : TriggerKind} {body : EntryBody} {frame : Bytes}

/-! ## What a switch leaves of the ports -/

/-- A switch leaves a port but for its inbox, its counters and its control queue, and the tables that it does not name. -/
structure KeepsPorts (s t : State) : Prop where
  port : ∀ p, ∃ inbox counters queue,
    t.port p = { s.port p with inbox := inbox, counters := counters, controlQueue := queue }
  inhibit : t.inhibit = s.inhibit
  steering : t.steering = s.steering
  transportKey : t.transportKey = s.transportKey

theorem KeepsPorts.refl (s : State) : KeepsPorts s s := ⟨fun _ => ⟨_, _, _, rfl⟩, rfl, rfl, rfl⟩

theorem KeepsPorts.trans (h : KeepsPorts s t) (g : KeepsPorts t u) : KeepsPorts s u := by
  refine ⟨fun p => ?_, g.inhibit.trans h.inhibit, g.steering.trans h.steering, g.transportKey.trans h.transportKey⟩
  obtain ⟨_, _, _, ht⟩ := h.port p
  obtain ⟨inbox, counters, queue, hu⟩ := g.port p
  exact ⟨inbox, counters, queue, by rw [hu, ht]⟩

theorem updAssoc_keepsPorts (a : Anum) (f : Assoc → Assoc) (s : State) : KeepsPorts s (s.updAssoc a f) :=
  ⟨fun _ => ⟨_, _, _, rfl⟩, rfl, rfl, rfl⟩

theorem raiseEvent_keepsPorts (kind : EventKind) (source : EventSource) (detail : BitVec 16) (s : State) :
    KeepsPorts s (raiseEvent kind source detail s) := by
  obtain ⟨_, _, h⟩ := raiseEvent_lists kind source detail s
  rw [h]
  exact ⟨fun _ => ⟨_, _, _, rfl⟩, rfl, rfl, rfl⟩

theorem updQueue_keepsPorts (p : PortNum) (f : List Anum → List Anum) (s : State) :
    KeepsPorts s (s.updPort p fun x => { x with controlQueue := f x.controlQueue }) := by
  refine ⟨fun q => ?_, rfl, rfl, rfl⟩
  rw [State.port_updPort]
  split_ifs with h
  · subst h
    exact ⟨_, _, _, rfl⟩
  · exact ⟨_, _, _, rfl⟩

theorem withdrawVerifies_keepsPorts (a : Anum) (s : State) : KeepsPorts s (withdrawVerifies a s) := by
  obtain ⟨hport, _, _, _, h⟩ := withdrawVerifies_verifyFrame a s
  refine ⟨fun p => ?_, by rw [h], by rw [h], by rw [h]⟩
  obtain ⟨inbox, counters, hp⟩ := hport p
  exact ⟨inbox, counters, _, hp⟩

theorem slotFrame_keepsPorts (h : SlotFrame s t) : KeepsPorts s t := by
  obtain ⟨_, _, _, _, _, rfl⟩ := h
  exact ⟨fun _ => ⟨_, _, _, rfl⟩, rfl, rfl, rfl⟩

theorem updSlot_keepsPorts (k : SlotNum) (f : Slot → Slot) (s : State) : KeepsPorts s (s.updSlot k f) :=
  ⟨fun _ => ⟨_, _, _, rfl⟩, rfl, rfl, rfl⟩

theorem cutOver_keepsPorts (a : Anum) (s : State) : KeepsPorts s (cutOver a s) := by
  cases hk : (s.assoc a).next with
  | none =>
    simp only [cutOver, hk]
    exact .refl s
  | some k =>
    rw [cutOver_eq hk]
    exact ((updSlot_keepsPorts ..).trans ((updAssoc_keepsPorts ..).trans
      ((slotFrame_keepsPorts (outgoingLeaves_slotFrame ..)).trans (updAssoc_keepsPorts ..)))).trans
      ((raiseEvent_keepsPorts ..).trans (withdrawVerifies_keepsPorts ..))

theorem beginSwitch_keepsPorts (a : Anum) (s : State) : KeepsPorts s (beginSwitch a s) := by
  cases hpolicy : (s.assoc a).confirmPolicy with
  | confirmed =>
    rw [beginSwitch_confirmed hpolicy]
    exact (updAssoc_keepsPorts ..).trans (updQueue_keepsPorts _ (· ++ [a]) _)
  | unilateral =>
    rw [beginSwitch_unilateral hpolicy]
    exact (updAssoc_keepsPorts ..).trans (cutOver_keepsPorts ..)

theorem beginIfPending_keepsPorts (a : Anum) (s : State) : KeepsPorts s (beginIfPending s a) := by
  unfold beginIfPending
  dsimp only
  split_ifs
  · exact beginSwitch_keepsPorts a s
  · exact .refl s

theorem handTrigger_keepsPorts (a : Anum) (kind : TriggerKind) (s : State) : KeepsPorts s (handTrigger a kind s) := by
  unfold handTrigger
  dsimp only
  split
  · split
    · split_ifs
      · exact beginSwitch_keepsPorts a s
      · exact updAssoc_keepsPorts ..
      · exact (updAssoc_keepsPorts ..).trans (raiseEvent_keepsPorts ..)
    · split_ifs
      · exact .refl s
      · exact (updAssoc_keepsPorts ..).trans (raiseEvent_keepsPorts ..)
  · exact .refl s

theorem sends_keepsPorts (h : Sends s p) (g : KeepsPorts s t) : Sends t p := by
  obtain ⟨hlink, hinhibit, hunmarked⟩ := h
  obtain ⟨_, _, _, hp⟩ := g.port p
  refine ⟨?_, g.inhibit.trans hinhibit, ?_⟩ <;> rw [hp]
  exacts [hlink, hunmarked]

/-! ## Entries that join or leave a sequence that is sent -/

/-- The work of a scheduler ends with a tidy sequence and the grants that follow (R91, R95, R98). -/
theorem finish_grants (h : Sends s p) : Grants s (arbitrate (tidySequence p s)) :=
  (tidySequence_grants h).trans (arbitrate_grants _)

theorem matter_joinSequence : matter ((joinSequence p body frame s).port p) = matter (s.port p) ++ [(body, frame)] := by
  rw [joinSequence, State.port_updPort_self]
  exact List.map_append

theorem sends_joinSequence (h : Sends s p) : Sends (joinSequence p body frame s) p := by
  obtain ⟨hlink, hinhibit, hunmarked⟩ := h
  refine ⟨?_, hinhibit, ?_⟩ <;> rw [joinSequence, State.port_updPort_self]
  · exact hlink
  · intro e he
    obtain he | he := List.mem_append.mp he
    · exact hunmarked e he
    · rw [List.mem_singleton.mp he]

theorem dropHead_cons {es : List Entry} (h : (s.port p).sequence = e :: es) :
    dropHead p s = releaseEntry e (s.updPort p fun x => { x with sequence := es }) := by
  unfold dropHead
  rw [h]

theorem assocs_releaseEntry (e : Entry) (s : State) : (releaseEntry e s).assocs = s.assocs := by
  obtain ⟨_, _, _, _, _, h⟩ := releaseEntry_slotFrame e s
  rw [h]

theorem inhibit_releaseEntry (e : Entry) (s : State) : (releaseEntry e s).inhibit = s.inhibit := by
  obtain ⟨_, _, _, _, _, h⟩ := releaseEntry_slotFrame e s
  rw [h]

/-- The entry that ends a drain raises KEY_RETIRED (R78). -/
theorem events_releaseEntry_retires (hk : e.slot? = some k) (hstate : (s.slot k).state = .draining)
    (hcount : (s.slot k).inFlight ≤ 1) : (releaseEntry e s).events = (raiseEvent .keyRetired (.slot k) 0 s).events := by
  have hretires : releaseSlot k s = retireSlot k s := if_pos ⟨hstate, by omega⟩
  simp only [releaseEntry, hk, hretires, retireSlot]
  refine events_raiseEvent_congr ?_ ?_ _ _ _ <;> rfl

theorem events_releaseEntry_stays
    (h : ∀ k, e.slot? = some k → ¬((s.slot k).state = .draining ∧ (s.slot k).inFlight ≤ 1)) :
    (releaseEntry e s).events = s.events := by
  unfold releaseEntry
  split
  · next k hk =>
    have hstays : ¬((s.slot k).state = .draining ∧ (s.slot k).inFlight - 1 = 0) := fun hends =>
      h k hk ⟨hends.1, by omega⟩
    rw [show releaseSlot k s = _ from if_neg hstays]
    rfl
  · rfl

/-! ## The C-side transmitter (R15) -/

/-- The transmitter has taken the head of the sequence. -/
def takenHead (p : PortNum) (e : Entry) (es : List Entry) (s : State) : State :=
  s.updPort p fun x => { x with campusTx := some e.toTx, sequence := es }

theorem port_takenHead {es : List Entry} :
    (takenHead p e es s).port p = { s.port p with campusTx := some e.toTx, sequence := es } := State.port_updPort_self ..

theorem sends_takenHead {es : List Entry} (hseq : (s.port p).sequence = e :: es) (h : Sends s p) :
    Sends (takenHead p e es s) p := by
  obtain ⟨hlink, hinhibit, hunmarked⟩ := h
  refine ⟨?_, hinhibit, ?_⟩ <;> rw [port_takenHead]
  · exact hlink
  · exact fun g hg => hunmarked g (hseq ▸ List.mem_cons_of_mem _ hg)

theorem sends_releaseEntry (e : Entry) (h : Sends s p) : Sends (releaseEntry e s) p := by
  obtain ⟨hlink, hinhibit, hunmarked⟩ := h
  refine ⟨?_, (inhibit_releaseEntry e s).trans hinhibit, ?_⟩ <;> rw [port_releaseEntry]
  exacts [hlink, hunmarked]

theorem exec_csideTxStart {es : List Entry} (hreset : s.pins.resetLow = false) (hseq : (s.port p).sequence = e :: es)
    (htx : (s.port p).campusTx = none) (hdone : e.status = .done) (hmark : e.inhibitDiscard = false)
    (hlink : (s.port p).link = .up) (hinhibit : s.inhibit = .released) :
    exec (.csideTxStart p) s = .next (tidySequence p (releaseEntry e (takenHead p e es s))) := by
  have hdrop : dropHead p (s.updPort p fun x => { x with campusTx := some e.toTx })
      = releaseEntry e (takenHead p e es s) := by
    rw [dropHead_cons (e := e) (es := es) (by rw [State.port_updPort_self]; exact hseq), updPort_updPort]
    rfl
  refine (unlessHeld_released hreset _).trans ?_
  simp only [hseq, htx, hdone, hmark, hlink, inhibited_of_released hinhibit, and_self, if_true, hdrop]

theorem exec_csideTxStart_blocked (hreset : s.pins.resetLow = false)
    (h : (s.port p).campusTx ≠ none ∨ (s.port p).link ≠ .up ∨ s.inhibit = .asserted
      ∨ ∀ e ∈ (s.port p).sequence.head?, e.status ≠ .done ∨ e.inhibitDiscard = true) :
    exec (.csideTxStart p) s = .next s := by
  refine (unlessHeld_released hreset _).trans ?_
  cases hseq : (s.port p).sequence with
  | nil => rfl
  | cons e es =>
    cases htx : (s.port p).campusTx with
    | some tx => rfl
    | none =>
      refine if_neg fun ⟨hdone, hmark, hlink, hinhibit⟩ => ?_
      obtain h | h | h | h := h
      · exact h htx
      · exact h hlink
      · exact ne_true_of_eq_false hinhibit (inhibited_of_asserted h)
      · obtain h | h := h e (by rw [hseq]; rfl)
        · exact h hdone
        · exact ne_true_of_eq_false hmark h

theorem exec_csideTxComplete {tx : CampusTx} (hreset : s.pins.resetLow = false) (h : (s.port p).campusTx = some tx) :
    exec (.csideTxComplete p) s = .next (countCampusTx p tx (s.updPort p fun x => { x with campusTx := none })) := by
  refine (unlessHeld_released hreset _).trans ?_
  simp only [h]

theorem rest_settlePasses (p : PortNum) (s : State) : (∀ q, q ≠ p → (settlePasses p s).port q = s.port q)
    ∧ (settlePasses p s).assocs = s.assocs ∧ (settlePasses p s).events = s.events :=
  ⟨fun _ hq => State.port_updPort_ne _ _ hq.symm, rfl, rfl⟩

/-- Settles O29: the head that is sent leaves as every entry does, and each completion counts by its kind. -/
theorem campusTransmitter : Obligations.CampusTransmitter := by
  intro p s hreset
  refine ⟨fun e es hseq htx hdone hlink hinhibit hunmarked => ?_, exec_csideTxStart_blocked hreset,
    fun a corrupted f htx => exec_csideTxComplete hreset htx, fun a f htx => exec_csideTxComplete hreset htx,
    fun f htx => exec_csideTxComplete hreset htx⟩
  have hmark : e.inhibitDiscard = false := hunmarked e (hseq ▸ List.mem_cons_self)
  have htidy : tidySequence p (releaseEntry e (takenHead p e es s)) = settlePasses p (releaseEntry e (takenHead p e es s)) :=
    tidySequence_sends (sends_releaseEntry e (sends_takenHead hseq ⟨hlink, hinhibit, hunmarked⟩))
  rw [exec_csideTxStart hreset hseq htx hdone hmark hlink hinhibit, htidy]
  obtain ⟨hports, hassocs, hevents⟩ := rest_settlePasses p (releaseEntry e (takenHead p e es s))
  have g := settlePasses_grants p (releaseEntry e (takenHead p e es s))
  obtain ⟨seq, hport⟩ := g.port p
  rw [port_releaseEntry, port_takenHead] at hport
  refine ⟨_, rfl, ?_, ?_, fun k hk => ?_, fun k hk => ?_, fun k hk hdraining hcount => ?_, fun h => ?_, ?_, ?_, fun q hq => ?_⟩
  · rw [hport]
    unfold Entry.toTx
    cases e.body <;> rfl
  · refine (g.matter p).trans ?_
    rw [port_releaseEntry, port_takenHead]
    rfl
  · rw [g.slot, slot_releaseEntry, if_pos hk]
    rfl
  · rw [g.slot, slot_releaseEntry, if_neg hk]
    rfl
  · rw [hevents, events_releaseEntry_retires (s := takenHead p e es s) hk hdraining hcount]
    refine events_raiseEvent_congr ?_ ?_ _ _ _ <;> rfl
  · rw [hevents, events_releaseEntry_stays (s := takenHead p e es s) h]
    rfl
  · rw [hport]
  · rw [hassocs, assocs_releaseEntry]
    rfl
  · rw [hports q hq, port_releaseEntry]
    exact State.port_updPort_ne _ _ hq.symm

end Sys2Proof.Proofs
end

section
/-! SUPPORT. The dequeue decision (R51 to R55, R108) and the placement of a notice (R56, R141, R142). -/

/-! One theorem is checked after another, as in the tests, which bounds the threads that the whole text takes. -/

set_option Elab.async false

namespace Sys2Proof.Proofs
open Sys2Proof Sys2Proof.Machine

variable {s t u : State} {a b : Anum} {k j : SlotNum} {p q : PortNum} {c : ClassNum} {r : FrameRecord}
  {body : EntryBody} {frame : Bytes}

/-! ## When the scheduler serves a port (R108) -/

theorem schedulerRuns_of_serves (h : SchedulerServes s p) : s.schedulerRuns p = true := by
  obtain ⟨-, hmode, hlink, hinhibit, hroom⟩ := h
  exact schedulerRuns_iff.mpr ⟨hmode, hlink, hinhibit, hroom⟩

theorem schedulerRuns_blocked (h : (s.port p).mode = .off ∨ (s.port p).link ≠ .up ∨ s.inhibit = .asserted
    ∨ 4 ≤ (s.port p).sequence.length) : s.schedulerRuns p = false := by
  refine eq_false_of_ne_true fun hruns => ?_
  obtain ⟨hmode, hlink, hinhibit, hroom⟩ := schedulerRuns_iff.mp hruns
  obtain h | h | h | h := h
  · exact mode_ne_off hmode h
  · exact h hlink
  · simp [hinhibit] at h
  · exact hroom.not_ge h

theorem sends_of_serves (h : SchedulerServes s p) (hunmarked : Unmarked (s.port p)) : Sends s p := by
  obtain ⟨-, -, hlink, hinhibit, -⟩ := h
  exact ⟨hlink, hinhibit, hunmarked⟩

/-- The first class from the top that passes a test. -/
theorem find?_classesDown {test : ClassNum → Bool} (hc : test c = true) (hhigher : ∀ j, c < j → test j = false) :
    classesDown.find? test = some c := by
  match c with
  | 0 => simp [classesDown, hc, hhigher 1 (by decide), hhigher 2 (by decide), hhigher 3 (by decide)]
  | 1 => simp [classesDown, hc, hhigher 2 (by decide), hhigher 3 (by decide)]
  | 2 => simp [classesDown, hc, hhigher 3 (by decide)]
  | 3 => simp [classesDown, hc]

/-- The scheduler takes the highest class that is not empty and not campus-paused (R108). -/
theorem chosenClass_eq_some {x : Port} (hqueue : row x.queues c ≠ []) (hpaused : x.campusPaused c = false)
    (hhigher : ∀ j, c < j → row x.queues j = [] ∨ x.campusPaused j = true) : x.chosenClass = some c := by
  refine find?_classesDown (by simp [hqueue, hpaused]) fun j hj => ?_
  obtain h | h := hhigher j hj <;> simp [h]

theorem chosenClass_eq_none {x : Port} (h : ∀ k, row x.queues k = [] ∨ x.campusPaused k = true) : x.chosenClass = none := by
  refine List.find?_eq_none.mpr fun k _ => ?_
  obtain h | h := h k <;> simp [h]

theorem exec_dequeue_idle (hreset : s.pins.resetLow = false)
    (h : (s.port p).mode = .off ∨ (s.port p).link ≠ .up ∨ s.inhibit = .asserted ∨ 4 ≤ (s.port p).sequence.length
      ∨ (s.port p).controlQueue ≠ [] ∨ ∀ k, row (s.port p).queues k = [] ∨ (s.port p).campusPaused k = true) :
    exec (.dequeueDecision p) s = .next s := by
  refine (unlessHeld_released hreset _).trans ?_
  by_cases hstop : s.schedulerRuns p = false ∨ (s.port p).controlQueue ≠ []
  · exact if_pos hstop
  · refine (if_neg hstop).trans ?_
    push Not at hstop
    obtain ⟨hruns, hqueue⟩ := hstop
    have hnone : ∀ k, row (s.port p).queues k = [] ∨ (s.port p).campusPaused k = true := by
      obtain h | h | h | h | h | h := h
      · exact absurd (schedulerRuns_blocked (.inl h)) hruns
      · exact absurd (schedulerRuns_blocked (.inr (.inl h))) hruns
      · exact absurd (schedulerRuns_blocked (.inr (.inr (.inl h)))) hruns
      · exact absurd (schedulerRuns_blocked (.inr (.inr (.inr h)))) hruns
      · exact absurd hqueue h
      · exact h
    simp only [chosenClass_eq_none hnone]

section TakesNext

variable (h : TakesNext s p c r)
include h

theorem chosenClass_of_takesNext : ∃ rest, row (s.port p).queues c = r :: rest ∧ (s.port p).chosenClass = some c := by
  obtain ⟨-, -, hhead, hpaused, hhigher⟩ := h
  obtain ⟨rest, hrest⟩ := List.head?_eq_some_iff.mp hhead
  exact ⟨rest, hrest, chosenClass_eq_some (by simp [hrest]) hpaused hhigher⟩

theorem exec_dequeue_protect (houtcome : r.outcome = .protect a) : exec (.dequeueDecision p) s
    = Result.ofExcept (dequeueProtected p a r.frame (takeHead p c s)) := by
  obtain ⟨rest, hrest, hchosen⟩ := chosenClass_of_takesNext h
  obtain ⟨hserves, hqueue, -⟩ := h
  have hruns : ¬(s.schedulerRuns p = false ∨ (s.port p).controlQueue ≠ []) := by
    simp [schedulerRuns_of_serves hserves, hqueue]
  refine (unlessHeld_released hserves.1 _).trans ((if_neg hruns).trans ?_)
  simp only [hchosen, hrest, houtcome]

theorem exec_dequeue_pass (houtcome : r.outcome = .pass) : exec (.dequeueDecision p) s
    = .next (arbitrate (tidySequence p (joinSequence p .pass r.frame (takeHead p c s)))) := by
  obtain ⟨rest, hrest, hchosen⟩ := chosenClass_of_takesNext h
  obtain ⟨hserves, hqueue, -⟩ := h
  have hruns : ¬(s.schedulerRuns p = false ∨ (s.port p).controlQueue ≠ []) := by
    simp [schedulerRuns_of_serves hserves, hqueue]
  refine (unlessHeld_released hserves.1 _).trans ((if_neg hruns).trans ?_)
  simp only [hchosen, hrest, houtcome]

end TakesNext

/-! ## The head of a class queue leaves (R105, R111) -/

theorem takeHead_eq (p : PortNum) (c : ClassNum) (s : State) :
    takeHead p c s = s.updPort p (requeued c (·.drop 1)) := evalHolding_updQueue ..

theorem port_takeHead (p : PortNum) (c : ClassNum) (s : State) :
    (takeHead p c s).port p = requeued c (·.drop 1) (s.port p) := by
  rw [takeHead_eq, State.port_updPort_self]

theorem headTaken_takeHead (p : PortNum) (c : ClassNum) (s : State) : HeadTaken p c s (takeHead p c s) := by
  have hdrop : (fun l : List FrameRecord => l.drop 1) = List.tail := funext fun _ => List.drop_one
  unfold HeadTaken
  intro x occupancy
  rw [port_takeHead, takeHead_eq, hdrop]
  exact ⟨row_queues_requeued, row_holding_requeued, rfl, row_refresh_requeued, rfl,
    fun q hq => State.port_updPort_ne _ _ hq.symm, rfl⟩

theorem sends_takeHead (h : Sends s p) (c : ClassNum) : Sends (takeHead p c s) p := by
  obtain ⟨hlink, hinhibit, hunmarked⟩ := h
  refine ⟨?_, hinhibit, ?_⟩ <;> rw [port_takeHead]
  exacts [hlink, hunmarked]

/-! ## Frames without a number (R51, R52) -/

theorem dequeueProtected_idle (h : (s.assoc a).state = .idle) :
    dequeueProtected p a frame s = .ok (bumpPort p .assocStateDrops 1 s) := by
  simp only [dequeueProtected, h]

theorem dequeueProtected_misdirected (h : (s.assoc a).state ≠ .idle) (hport : (s.assoc a).port ≠ p) :
    dequeueProtected p a frame s = .ok (bumpPort p .misdirectedDrops 1 s) := by
  unfold dequeueProtected
  cases hstate : (s.assoc a).state <;> simp_all

theorem dequeueProtected_stopped (hport : (s.assoc a).port = p)
    (h : (s.assoc a).state = .configured ∨ (s.assoc a).state = .suspended ∨ (s.assoc a).state = .faulted) :
    dequeueProtected p a frame s = .ok (bumpAssoc a .stateDrops 1 (bumpPort p .assocStateDrops 1 s)) := by
  unfold dequeueProtected
  obtain h | h | h := h <;> simp [h, hport]

theorem dequeueProtected_exhausted (hport : (s.assoc a).port = p) (h : (s.assoc a).state = .exhausted) :
    dequeueProtected p a frame s = .ok (bumpAssoc a .exhaustDrops 1 (bumpPort p .assocStateDrops 1 s)) := by
  unfold dequeueProtected
  simp [h, hport]

/-- Settles O27: the checks of R52 in turn, a PASS frame, and the conditions of R108. -/
theorem dequeueDiscardsAndPasses : Obligations.DequeueDiscardsAndPasses := by
  refine ⟨fun p c r s h => ⟨takeHead p c s, headTaken_takeHead p c s, fun a houtcome => ?_, fun houtcome hunmarked => ?_⟩,
    fun p s => exec_dequeue_idle⟩
  · intro x
    have hassoc : (takeHead p c s).assoc a = x := rfl
    rw [exec_dequeue_protect h houtcome]
    refine ⟨fun hidle => ?_, fun hstate hport => ?_, fun hport hstate => ?_, fun hport hstate => ?_⟩
    · rw [dequeueProtected_idle (hassoc ▸ hidle)]
      rfl
    · rw [dequeueProtected_misdirected (hassoc ▸ hstate) (hassoc ▸ hport)]
      rfl
    · rw [dequeueProtected_stopped (hassoc ▸ hport) (hassoc ▸ hstate)]
      rfl
    · rw [dequeueProtected_exhausted (hassoc ▸ hport) (hassoc ▸ hstate)]
      rfl
  · have hserves := h.1
    have hsends : Sends (joinSequence p .pass r.frame (takeHead p c s)) p :=
      sends_joinSequence (sends_takeHead (sends_of_serves hserves hunmarked) c)
    have g := finish_grants hsends
    obtain ⟨seq, hport⟩ := g.port p
    refine ⟨_, exec_dequeue_pass h houtcome, ?_, ?_, ?_, g.slots, g.sans⟩
    · refine (g.matter p).trans (matter_joinSequence.trans ?_)
      rw [port_takeHead]
      rfl
    · rw [hport, joinSequence, State.port_updPort_self]
    · rw [hport, joinSequence, State.port_updPort_self, port_takeHead]
      rfl

end Sys2Proof.Proofs
end

section
/-! SUPPORT. Data frames take numbers (R53 to R55), and what a MARK trigger makes of them. -/

/-! One theorem is checked after another, as in the tests, which bounds the threads that the whole text takes. -/

set_option Elab.async false

namespace Sys2Proof.Proofs
open Sys2Proof Sys2Proof.Machine

variable {s t u v : State} {a b : Anum} {k j : SlotNum} {p q : PortNum} {c : ClassNum} {r : FrameRecord} {frame : Bytes}
  {kind kind' : EventKind} {source source' : EventSource} {detail : BitVec 16} {trigger : TriggerKind}

/-! ## Events that stand stay listed through a switch (R174) -/

/-- Every event that stands in one state stands in the other. -/
def KeepsListed (s t : State) : Prop := ∀ kind source, Listed kind source s → Listed kind source t

theorem keepsListed_of_events (h : t.events = s.events) : KeepsListed s t := fun kind source hlisted => by
  rw [Listed, h]
  exact hlisted

theorem KeepsListed.trans (h : KeepsListed s t) (g : KeepsListed t u) : KeepsListed s u :=
  fun kind source hlisted => g kind source (h kind source hlisted)

theorem KeepsListed.after (g : KeepsListed t u) (h : t.events = s.events) : KeepsListed s u :=
  (keepsListed_of_events h).trans g

theorem raiseEvent_keepsListed (kind : EventKind) (source : EventSource) (detail : BitVec 16) (s : State) :
    KeepsListed s (raiseEvent kind source detail s) := fun _ _ => listed_raiseEvent_of_listed

theorem outgoingLeaves_keepsListed (o : Option SlotNum) (s : State) : KeepsListed s (outgoingLeaves o s) := by
  cases o with
  | none => exact keepsListed_of_events rfl
  | some j =>
    obtain ⟨-, h⟩ | ⟨-, h⟩ := leaveService_cases j s <;> rw [outgoingLeaves, h]
    · exact KeepsListed.after (raiseEvent_keepsListed _ _ _ _) rfl
    · exact keepsListed_of_events rfl

theorem cutOver_keepsListed (a : Anum) (s : State) : KeepsListed s (cutOver a s) := by
  cases hk : (s.assoc a).next with
  | none =>
    simp only [cutOver, hk]
    exact keepsListed_of_events rfl
  | some k =>
    have hleaves := outgoingLeaves_keepsListed (s.assoc a).current
      ((s.updSlot k fun x => { x with state := .active }).updAssoc a (Assoc.cutOverTo k (s.slot k).epoch))
    have hswitched : KeepsListed s (switchedOver a k s) :=
      (hleaves.after rfl).trans (keepsListed_of_events rfl)
    rw [cutOver_eq hk]
    exact hswitched.trans ((raiseEvent_keepsListed _ _ _ _).trans (keepsListed_of_events (events_withdrawVerifies ..)))

theorem beginSwitch_keepsListed (a : Anum) (s : State) : KeepsListed s (beginSwitch a s) := by
  cases hpolicy : (s.assoc a).confirmPolicy with
  | confirmed =>
    rw [beginSwitch_confirmed hpolicy]
    exact keepsListed_of_events rfl
  | unilateral =>
    rw [beginSwitch_unilateral hpolicy]
    exact KeepsListed.after (cutOver_keepsListed _ _) rfl

theorem handTrigger_keepsListed (a : Anum) (trigger : TriggerKind) (s : State) : KeepsListed s (handTrigger a trigger s) := by
  unfold handTrigger
  dsimp only
  split
  · split
    · split_ifs
      · exact beginSwitch_keepsListed a s
      · exact keepsListed_of_events rfl
      · exact KeepsListed.after (raiseEvent_keepsListed _ _ _ _) rfl
    · split_ifs
      · exact keepsListed_of_events rfl
      · exact KeepsListed.after (raiseEvent_keepsListed _ _ _ _) rfl
  · exact keepsListed_of_events rfl

/-! ## A frame that has taken its number (R53) -/

/-- The next number has been taken by a data frame, which stands at the tail of the sequence under the current slot. -/
def numbered (p : PortNum) (a : Anum) (k : SlotNum) (frame : Bytes) (s : State) : State :=
  let x := s.assoc a
  recordAgainst k (joinSequence p (.data a k x.nextPn x.protection x.vlan x.label) frame
    (s.updAssoc a fun y => { y with nextPn := y.nextPn + 1 }))

theorem numberFrame_eq (p : PortNum) (a : Anum) (k : SlotNum) (frame : Bytes) (s : State) : numberFrame p a k frame s
    = let t := if (s.assoc a).nextPn = (s.assoc a).stopMark then exhaust a (numbered p a k frame s) else numbered p a k frame s
      if (s.assoc a).switchMark ≤ (s.assoc a).nextPn then handTrigger a .mark t else t := rfl

theorem exec_dequeue_numbers (h : TakesNext s p c r) (houtcome : r.outcome = .protect a)
    (hstate : (s.assoc a).state = .running ∨ (s.assoc a).state = .switching) (hport : (s.assoc a).port = p)
    (hk : (s.assoc a).current = some k) : exec (.dequeueDecision p) s
      = .next (arbitrate (tidySequence p (numberFrame p a k r.frame (takeHead p c s)))) := by
  have hserved := (dequeueProtected_served (s := takeHead p c s) (p := p) (frame := r.frame) hstate hk).trans
    (if_neg (not_not_intro hport))
  rw [exec_dequeue_protect h houtcome, hserved]
  rfl

section Numbered

variable (p a k c frame s)

theorem port_numbered_self : (numbered p a k frame (takeHead p c s)).port p = { requeued c (·.drop 1) (s.port p) with
    sequence := (s.port p).sequence ++ [{
      body := .data a k (s.assoc a).nextPn (s.assoc a).protection (s.assoc a).vlan (s.assoc a).label, frame := frame
      status := .waitingLane, corrupted := false, inhibitDiscard := false }] } := by
  simp only [numbered, recordAgainst, joinSequence, State.port_updSlot, State.port_updPort_self, State.port_updAssoc,
    port_takeHead]
  rfl

theorem port_numbered_ne (hq : q ≠ p) : (numbered p a k frame (takeHead p c s)).port q = s.port q := by
  simp only [numbered, recordAgainst, joinSequence, State.port_updSlot, State.port_updPort_ne _ _ hq.symm,
    State.port_updAssoc, takeHead_eq]

theorem assoc_numbered_self : (numbered p a k frame (takeHead p c s)).assoc a
    = { s.assoc a with nextPn := (s.assoc a).nextPn + 1 } := State.assoc_updAssoc_self ..

theorem slot_numbered (j : SlotNum) : (numbered p a k frame (takeHead p c s)).slot j
    = if k = j then { s.slot j with inFlight := (s.slot j).inFlight + 1 } else s.slot j := by
  simp only [numbered, recordAgainst, State.slot_updSlot, joinSequence, State.slot_updPort, State.slot_updAssoc, takeHead_eq]
  split_ifs with h
  · rw [h]
  · rfl

theorem steering_numbered : (numbered p a k frame (takeHead p c s)).steering = s.steering := by
  simp only [numbered, recordAgainst, joinSequence, takeHead_eq, State.updSlot_steering, State.updPort_steering,
    State.updAssoc_steering]

theorem transportKey_numbered : (numbered p a k frame (takeHead p c s)).transportKey = s.transportKey := by
  simp only [numbered, recordAgainst, joinSequence, takeHead_eq, State.updSlot_transportKey, State.updPort_transportKey,
    State.updAssoc_transportKey]

/-- The state so numbered reads alike to a trigger, whatever has moved in the queues and the sequence. -/
theorem numbered_alike : SwitchAlike ((s.updAssoc a fun y => { y with nextPn := y.nextPn + 1 }).updSlot k fun y =>
    { y with inFlight := y.inFlight + 1 }) (numbered p a k frame (takeHead p c s)) := by
  have hport (q : PortNum) : ∃ queues holding owed refresh seq, (numbered p a k frame (takeHead p c s)).port q
      = { s.port q with queues := queues, holding := holding, pauseOwed := owed, refresh := refresh, sequence := seq } := by
    by_cases hq : q = p
    · subst hq
      rw [port_numbered_self]
      exact ⟨_, _, _, _, _, rfl⟩
    · rw [port_numbered_ne s a k p c frame hq]
      exact ⟨_, _, _, _, _, rfl⟩
  refine ⟨rfl, rfl, rfl, rfl, rfl, fun q => ?_, fun q => ?_, fun q => ?_⟩ <;>
  · obtain ⟨_, _, _, _, _, h⟩ := hport q
    rw [h]
    rfl

variable {p a k c frame s} in
theorem sends_numbered (h : Sends s p) : Sends (numbered p a k frame (takeHead p c s)) p := by
  obtain ⟨hlink, hinhibit, hunmarked⟩ := sends_joinSequence (frame := frame)
    (body := .data a k (s.assoc a).nextPn (s.assoc a).protection (s.assoc a).vlan (s.assoc a).label) (sends_takeHead h c)
  exact ⟨hlink, hinhibit, hunmarked⟩

end Numbered

/-! ## The work after a trigger -/

/-- What a trigger and the grants after it leave of the ports. -/
structure Served (s t : State) : Prop where
  port : ∀ q, ∃ seq inbox counters queue,
    t.port q = { s.port q with sequence := seq, inbox := inbox, counters := counters, controlQueue := queue }
  matter : ∀ q, matter (t.port q) = matter (s.port q)
  steering : t.steering = s.steering
  transportKey : t.transportKey = s.transportKey

theorem served_of (h : KeepsPorts s t) (g : Grants t u) : Served s u := by
  obtain ⟨_, _, _, _, _, _, hframe⟩ := g.frame
  refine ⟨fun q => ?_, fun q => (g.matter q).trans ?_, ?_, ?_⟩
  · obtain ⟨inbox, counters, queue, ht⟩ := h.port q
    obtain ⟨seq, hu⟩ := g.port q
    exact ⟨seq, inbox, counters, queue, by rw [hu, ht]⟩
  · obtain ⟨_, _, _, ht⟩ := h.port q
    rw [ht]
    rfl
  · rw [hframe]
    exact h.steering
  · rw [hframe]
    exact h.transportKey

theorem matter_served_numbered (h : Served (numbered p a k frame (takeHead p c s)) t) : matter (t.port p)
    = matter (s.port p)
      ++ [(.data a k (s.assoc a).nextPn (s.assoc a).protection (s.assoc a).vlan (s.assoc a).label, frame)] := by
  rw [h.matter, port_numbered_self]
  exact List.map_append

theorem queues_served_numbered (h : Served (numbered p a k frame (takeHead p c s)) t) :
    (∀ j, row (t.port p).queues j = if j = c then (row (s.port p).queues j).tail else row (s.port p).queues j)
      ∧ ∀ q, q ≠ p → (t.port q).queues = (s.port q).queues := by
  refine ⟨fun j => ?_, fun q hq => ?_⟩
  · obtain ⟨_, _, _, _, hp⟩ := h.port p
    rw [hp, port_numbered_self, ← List.drop_one]
    exact row_queues_requeued j
  · obtain ⟨_, _, _, _, hp⟩ := h.port q
    rw [hp, port_numbered_ne s a k p c frame hq]

/-- Settles O25: the state so numbered, the trigger from it, and the grants that follow. -/
theorem dataFramesAreNumbered : Obligations.DataFramesAreNumbered := by
  intro p c r a k s x s1 h houtcome hstate hport hk hstop hmarks hunmarked
  have hexec := exec_dequeue_numbers h houtcome hstate hport hk
  have hsends : Sends (numbered p a k r.frame (takeHead p c s)) p := sends_numbered (sends_of_serves h.1 hunmarked)
  have hnumber : numberFrame p a k r.frame (takeHead p c s) = if x.switchMark ≤ x.nextPn then
      handTrigger a .mark (numbered p a k r.frame (takeHead p c s)) else numbered p a k r.frame (takeHead p c s) := by
    rw [numberFrame_eq]
    exact congrArg (fun t => if x.switchMark ≤ x.nextPn then handTrigger a .mark t else t) (if_neg hstop.ne)
  have hkeeps : KeepsPorts (numbered p a k r.frame (takeHead p c s)) (numberFrame p a k r.frame (takeHead p c s)) := by
    rw [hnumber]
    split_ifs
    · exact handTrigger_keepsPorts ..
    · exact .refl _
  have g := finish_grants (sends_keepsPorts hsends hkeeps)
  have hserved := served_of hkeeps g
  obtain ⟨hqueues, hothers⟩ := queues_served_numbered hserved
  refine ⟨_, hexec, ?_, fun hbelow => ?_, fun hmark => ?_, ?_, ?_, ?_, ?_⟩
  · exact matter_served_numbered hserved
  · rw [hnumber, if_neg hbelow.not_ge] at g ⊢
    obtain ⟨_, hp⟩ := g.port p
    refine ⟨?_, fun b hb => ?_, ?_, fun j hj => ?_, ?_, g.stands.events⟩
    · rw [g.sans, assoc_numbered_self]
    · rw [g.sans]
      exact congrArg Assoc.sans (State.assoc_updAssoc_ne _ _ hb.symm)
    · rw [g.slot, slot_numbered, if_pos rfl]
    · rw [g.slot, slot_numbered, if_neg hj.symm]
    · rw [hp, port_numbered_self]
      rfl
  · rw [hnumber, if_pos hmark] at g ⊢
    exact triggerOutcome_alike (triggerOutcome_stands (handTrigger_outcome ..) g.stands) (numbered_alike s a k p c r.frame)
  · exact hqueues
  · exact hothers
  · exact hserved.steering.trans (steering_numbered ..)
  · exact hserved.transportKey.trans (transportKey_numbered ..)

end Sys2Proof.Proofs
end

section
/-! SUPPORT. The stop mark (R55), and the placement of a notice (R56, R141, R142). -/

/-! One theorem is checked after another, as in the tests, which bounds the threads that the whole text takes. -/

set_option Elab.async false

namespace Sys2Proof.Proofs
open Sys2Proof Sys2Proof.Machine

variable {s t u v : State} {a b : Anum} {k j : SlotNum} {p q : PortNum} {c : ClassNum} {r : FrameRecord} {frame : Bytes}
  {detail : BitVec 16} {trigger : TriggerKind}

/-! ## A trigger that cuts over at no time -/

/-- A trigger under CONFIRMED or MANUAL leaves the record of an association that is not RUNNING in its state, with its current
slot, its numbers and any exchange (R130, R133). -/
theorem triggerOutcome_no_cutOver (h : TriggerOutcome trigger detail a s t)
    (hpolicy : (s.assoc a).confirmPolicy = .confirmed ∨ (s.assoc a).triggerPolicy = .manual)
    (hstate : (s.assoc a).state ≠ .running) : t.slots = s.slots ∧ ∃ y : Assoc, (t.assoc a).sans = y.sans
      ∧ y.state = (s.assoc a).state ∧ y.nextPn = (s.assoc a).nextPn ∧ y.current = (s.assoc a).current
      ∧ (∀ z, (s.assoc a).attempt = some z → y.attempt = some z)
      ∧ (Triggerable (s.assoc a) → (s.assoc a).triggerPolicy = .manual → y.switchDue = true) := by
  obtain ⟨hignored, hmanual, hstarts, hpending, hsets⟩ := h
  by_cases hacts : Triggerable (s.assoc a)
  · cases hkind : (s.assoc a).triggerPolicy with
    | manual =>
      obtain ⟨hrecord, -, hslots, -⟩ := hmanual hacts hkind
      exact ⟨hslots, _, hrecord, rfl, rfl, rfl, fun _ hz => hz, fun _ _ => rfl⟩
    | auto =>
      have hconfirmed : (s.assoc a).confirmPolicy = .confirmed := hpolicy.resolve_right (by simp [hkind])
      by_cases hstart : SwitchCanStart s a (s.port (s.assoc a).port).mode s.inhibit
      · obtain ⟨hrecord, -, -, hslots, -⟩ := (hstarts hacts hkind hstart).1 hconfirmed
        refine ⟨hslots, _, hrecord, if_neg hstate, rfl, rfl, fun z hz => ?_, fun _ h => by cases h⟩
        rw [hacts.2] at hz
        cases hz
      · cases hset : (s.assoc a).switchPending with
        | true =>
          obtain ⟨hrecord, -, hslots, -⟩ := hpending hacts hkind hstart hset
          exact ⟨hslots, _, hrecord, rfl, rfl, rfl, fun _ hz => hz, fun _ h => by cases h⟩
        | false =>
          obtain ⟨hrecord, -, hslots, -⟩ := hsets hacts hkind hstart hset
          exact ⟨hslots, _, hrecord, rfl, rfl, rfl, fun _ hz => hz, fun _ h => by cases h⟩
  · obtain ⟨hrecord, -, hslots, -⟩ := hignored hacts
    exact ⟨hslots, _, hrecord, rfl, rfl, rfl, fun _ hz => hz, fun h => absurd h hacts⟩

/-- Records that differ in corrupt-one alone agree in these fields. -/
theorem fields_of_sans {x y : Assoc} (h : x.sans = y.sans) : x.state = y.state ∧ x.nextPn = y.nextPn
    ∧ x.current = y.current ∧ x.attempt = y.attempt ∧ x.switchDue = y.switchDue ∧ x.floorNext = y.floorNext :=
  ⟨congrArg (·.state) h, congrArg (·.nextPn) h, congrArg (·.current) h, congrArg (·.attempt) h, congrArg (·.switchDue) h,
    congrArg (·.floorNext) h⟩

/-! ## The stop mark (R55) -/

theorem exhaust_keepsPorts (a : Anum) (s : State) : KeepsPorts s (exhaust a s) :=
  (updAssoc_keepsPorts ..).trans (raiseEvent_keepsPorts ..)

theorem listed_exhaust (h : EventsOpen s) : Listed .exhausted (.assoc a) (exhaust a s) := by
  obtain ⟨hmask, hroom⟩ := h
  exact listed_raiseEvent hmask (hroom.trans (by decide))

theorem assoc_exhaust_self : (exhaust a s).assoc a = { s.assoc a with state := .exhausted } := by
  rw [exhaust, State.assoc_raiseEvent, State.assoc_updAssoc_self]

theorem exhaust_alike (h : SwitchAlike s t) : SwitchAlike (exhaust a s) (exhaust a t) where
  assocs := by simp only [exhaust, raiseEvent_assocs, State.updAssoc, h.assocs]
  slots := by
    simp only [exhaust, raiseEvent_slots]
    exact h.slots
  events := by
    refine events_raiseEvent_congr ?_ ?_ _ _ _
    exacts [h.events, h.eventMask]
  eventMask := by
    simp only [exhaust, raiseEvent_eventMask]
    exact h.eventMask
  inhibit := by
    simp only [exhaust, raiseEvent_inhibit]
    exact h.inhibit
  mode p := by
    simp only [exhaust, State.port_raiseEvent]
    exact h.mode p
  firstStep p := by
    simp only [exhaust, State.port_raiseEvent]
    exact h.firstStep p
  controlQueue p := by
    simp only [exhaust, State.port_raiseEvent]
    exact h.controlQueue p

/-- Settles O26: the state so exhausted, the trigger from it, and the grants that follow. -/
theorem stopMarkExhausts : Obligations.StopMarkExhausts := by
  intro p c r a k s x s1 h houtcome hstate hport hk hstop hmarks hunmarked
  have hexec := exec_dequeue_numbers h houtcome hstate hport hk
  have hsends : Sends (numbered p a k r.frame (takeHead p c s)) p := sends_numbered (sends_of_serves h.1 hunmarked)
  have hnumber : numberFrame p a k r.frame (takeHead p c s)
      = handTrigger a .mark (exhaust a (numbered p a k r.frame (takeHead p c s))) := by
    rw [numberFrame_eq]
    exact (congrArg (fun t => if x.switchMark ≤ x.nextPn then handTrigger a .mark t else t) (if_pos hstop)).trans
      (if_pos (hstop ▸ hmarks.le))
  have hkeeps : KeepsPorts (numbered p a k r.frame (takeHead p c s)) (numberFrame p a k r.frame (takeHead p c s)) := by
    rw [hnumber]
    exact (exhaust_keepsPorts ..).trans (handTrigger_keepsPorts ..)
  have g := finish_grants (sends_keepsPorts hsends hkeeps)
  have hserved := served_of hkeeps g
  rw [hnumber] at g
  have halike : SwitchAlike s1 (exhaust a (numbered p a k r.frame (takeHead p c s))) := by
    have hs1 : s1 = exhaust a ((s.updAssoc a fun y => { y with nextPn := y.nextPn + 1 }).updSlot k fun y =>
        { y with inFlight := y.inFlight + 1 }) := by
      refine congrArg (raiseEvent .exhausted (.assoc a) 0) (Eq.symm ?_)
      exact congrArg (fun u : State => u.updSlot k fun y => { y with inFlight := y.inFlight + 1 })
        (updAssoc_updAssoc s a (fun y => { y with nextPn := y.nextPn + 1 }) fun y => { y with state := .exhausted })
    rw [hs1]
    exact exhaust_alike (numbered_alike s a k p c r.frame)
  have houtcome := triggerOutcome_alike (triggerOutcome_stands (handTrigger_outcome .mark a _) g.stands) halike
  have hrecord : s1.assoc a = { x with nextPn := x.nextPn + 1, state := .exhausted } := by
    rw [State.assoc_raiseEvent, State.assoc_updSlot, State.assoc_updAssoc_self]
  rw [hnumber] at hexec hserved
  refine ⟨_, hexec, ?_, fun hopen => ?_, ?_, fun hpolicy => ?_⟩
  · refine (matter_served_numbered hserved).trans ?_
    rw [← hstop]
    rfl
  · have hopen' : EventsOpen (numbered p a k r.frame (takeHead p c s)) := by
      have hfields := numbered_alike s a k p c r.frame
      exact hfields.eventsOpen.mpr hopen
    exact g.stands.listed (handTrigger_keepsListed _ _ _ _ _ (listed_exhaust hopen'))
  · exact houtcome
  · obtain ⟨hslots, y, hsame, hystate, hpn, hcurrent, hattempt, hdue⟩ :=
      triggerOutcome_no_cutOver houtcome (by rw [hrecord]; exact hpolicy) (by rw [hrecord]; nofun)
    rw [hrecord] at hystate hpn hcurrent hattempt hdue
    obtain ⟨hstate', hpn', hcurrent', hattempt', hdue', -⟩ := fields_of_sans hsame
    refine ⟨hstate'.trans hystate, hpn'.trans (hpn.trans ?_), hcurrent'.trans (hcurrent.trans hk),
      fun z hz => hattempt'.trans (hattempt z hz), fun hnone hmanual => hdue'.trans (hdue ⟨.inr (.inl rfl), hnone⟩ hmanual), ?_⟩
    · exact congrArg (· + 1) hstop
    · rw [State.slot, hslots]
      show s1.slot k = _
      rw [State.slot_raiseEvent, State.slot_updSlot_self]
      rfl

/-! ## The placement of a notice (R56, R141, R142) -/

theorem exec_notice_idle (hreset : s.pins.resetLow = false)
    (h : (s.port p).mode = .off ∨ (s.port p).link ≠ .up ∨ s.inhibit = .asserted ∨ 4 ≤ (s.port p).sequence.length
      ∨ (s.port p).controlQueue = []) : exec (.noticePlacement p) s = .next s := by
  refine (unlessHeld_released hreset _).trans ?_
  by_cases hstop : s.schedulerRuns p = false
  · exact if_pos hstop
  · have hqueue : (s.port p).controlQueue = [] := by
      obtain h | h | h | h | h := h
      · exact absurd (schedulerRuns_blocked (.inl h)) hstop
      · exact absurd (schedulerRuns_blocked (.inr (.inl h))) hstop
      · exact absurd (schedulerRuns_blocked (.inr (.inr (.inl h)))) hstop
      · exact absurd (schedulerRuns_blocked (.inr (.inr (.inr h)))) hstop
      · exact h
    refine (if_neg hstop).trans ?_
    simp only [hqueue]

theorem exec_notice_spent {rest : List Anum} (h : SchedulerServes s p) (hqueue : (s.port p).controlQueue = a :: rest)
    (hspent : Config.pnMax < (s.assoc a).nextPn) : exec (.noticePlacement p) s
      = .next (giveUp a .switchFailed 1 (dropNotice p s)) := by
  have hruns : ¬s.schedulerRuns p = false := by simp [schedulerRuns_of_serves h]
  refine (unlessHeld_released h.1 _).trans ((if_neg hruns).trans ?_)
  simp only [hqueue, hspent, if_true]
  rfl

theorem exec_notice_places {y : Attempt} {rest : List Anum} (h : SchedulerServes s p)
    (hqueue : (s.port p).controlQueue = a :: rest) (hattempt : (s.assoc a).attempt = some y)
    (hcurrent : (s.assoc a).current = some j) (hnext : (s.assoc a).next = some k) (htop : (s.assoc a).nextPn ≤ Config.pnMax) :
    exec (.noticePlacement p) s = .next (arbitrate (tidySequence p (placeNotice p a y j k s))) := by
  have hruns : ¬s.schedulerRuns p = false := by simp [schedulerRuns_of_serves h]
  refine (unlessHeld_released h.1 _).trans ((if_neg hruns).trans ?_)
  simp only [hqueue, htop.not_gt, if_false, hattempt, hcurrent, hnext]

/-- The 44 bytes of a notice, field by field (R21). -/
theorem noticeHead_eq (settings : PortSettings) (a : Anum) (epoch : Byte) (pn : Nat) (announced : Byte) (number : Nat)
    (check : BitVec 24) (label : BitVec 32) : noticeHead settings a epoch pn announced number check label
      = toBE 6 settings.peerAddress.toNat ++ toBE 6 settings.portAddress.toNat ++ toBE 2 settings.clpType.toNat
        ++ [1, 0x80, BitVec.ofNat 8 a.val, epoch] ++ toBE 5 pn ++ toBE 4 label.toNat ++ [0]
        ++ [0x01, 0x00, BitVec.ofNat 8 a.val, announced, BitVec.ofNat 8 number] ++ toBE 3 check.toNat
        ++ toBE 4 label.toNat ++ [0, 0, 0, 0] := by
  have hflags : clpFlags true false false = 0x80 := by decide
  simp only [noticeHead, clpTag, noticeBody, hflags, List.append_assoc]

/-- The notice has its number and its place in the sequence, before the stop mark is looked at. -/
def noticed (p : PortNum) (a : Anum) (y : Attempt) (j k : SlotNum) (s : State) : State :=
  let x := s.assoc a
  recordAgainst j (joinSequence p (.notice a j x.nextPn) (noticeHead (s.port p).settings a (s.slot j).epoch x.nextPn
    (s.slot k).epoch y.number (s.slot k).checkValue x.label) ((dropNotice p s).updAssoc a (issued y)))

theorem placeNotice_noticed (p : PortNum) (a : Anum) (y : Attempt) (j k : SlotNum) (s : State) : placeNotice p a y j k s
    = bumpAssoc a .attemptsSent 1 (if (s.assoc a).state = .switching ∧ (s.assoc a).nextPn = (s.assoc a).stopMark then
        exhaust a (noticed p a y j k s) else noticed p a y j k s) := placeNotice_eq p a y j k s

section Noticed

variable (p : PortNum) (a : Anum) (y : Attempt) (j k : SlotNum) (s : State)

theorem port_noticed : ∃ seq, (noticed p a y j k s).port p = { (dropNotice p s).port p with sequence := seq }
    ∧ seq.map (fun e => (e.body, e.frame)) = matter (s.port p) ++ [(.notice a j (s.assoc a).nextPn, noticeHead
      (s.port p).settings a (s.slot j).epoch (s.assoc a).nextPn (s.slot k).epoch y.number (s.slot k).checkValue
      (s.assoc a).label)] := by
  refine ⟨(s.port p).sequence ++ [{
    body := .notice a j (s.assoc a).nextPn
    frame := noticeHead (s.port p).settings a (s.slot j).epoch (s.assoc a).nextPn (s.slot k).epoch y.number
      (s.slot k).checkValue (s.assoc a).label
    status := .waitingLane, corrupted := false, inhibitDiscard := false }], ?_, List.map_append⟩
  simp only [noticed, recordAgainst, joinSequence, State.port_updSlot, State.port_updPort_self, State.port_updAssoc, dropNotice]

theorem slot_noticed (i : SlotNum) : (noticed p a y j k s).slot i
    = if j = i then { s.slot i with inFlight := (s.slot i).inFlight + 1 } else s.slot i := by
  simp only [noticed, recordAgainst, State.slot_updSlot, joinSequence, State.slot_updPort, State.slot_updAssoc, dropNotice]
  split_ifs with h
  · rw [h]
  · rfl

theorem assoc_noticed_self : (noticed p a y j k s).assoc a = issued y (s.assoc a) := State.assoc_updAssoc_self ..

theorem assoc_noticed_ne (hb : b ≠ a) : (noticed p a y j k s).assoc b = s.assoc b := State.assoc_updAssoc_ne _ _ hb.symm

variable {p s} in
theorem sends_noticed (h : Sends s p) : Sends (noticed p a y j k s) p := by
  have hdropped : Sends ((dropNotice p s).updAssoc a (issued y)) p :=
    sends_keepsPorts h ((updQueue_keepsPorts p (·.drop 1) s).trans (updAssoc_keepsPorts ..))
  obtain ⟨hlink, hinhibit, hunmarked⟩ := sends_joinSequence (body := .notice a j (s.assoc a).nextPn)
    (frame := noticeHead (s.port p).settings a (s.slot j).epoch (s.assoc a).nextPn (s.slot k).epoch y.number
      (s.slot k).checkValue (s.assoc a).label) hdropped
  exact ⟨hlink, hinhibit, hunmarked⟩

end Noticed

/-- What the look at the stop mark makes of an association whose notice has its number (R56). -/
def markedNotice (p : PortNum) (a : Anum) (y : Attempt) (j k : SlotNum) (s : State) : State :=
  if (s.assoc a).state = .switching ∧ (s.assoc a).nextPn = (s.assoc a).stopMark then exhaust a (noticed p a y j k s)
  else noticed p a y j k s

section Marked

variable (p : PortNum) (a : Anum) (y : Attempt) (j k : SlotNum) (s : State)

theorem port_markedNotice (q : PortNum) : (markedNotice p a y j k s).port q = (noticed p a y j k s).port q := by
  unfold markedNotice
  split_ifs
  · rw [exhaust, State.port_raiseEvent, State.port_updAssoc]
  · rfl

theorem slot_markedNotice (i : SlotNum) : (markedNotice p a y j k s).slot i = (noticed p a y j k s).slot i := by
  unfold markedNotice
  split_ifs
  · rw [exhaust, State.slot_raiseEvent, State.slot_updAssoc]
  · rfl

theorem assoc_markedNotice_self : (markedNotice p a y j k s).assoc a = { issued y (s.assoc a) with
    state := if (s.assoc a).state = .switching ∧ (s.assoc a).nextPn = (s.assoc a).stopMark then .exhausted
      else (s.assoc a).state } := by
  unfold markedNotice
  split_ifs
  · rw [assoc_exhaust_self, assoc_noticed_self]
  · exact assoc_noticed_self ..

theorem assoc_markedNotice_ne (hb : b ≠ a) : (markedNotice p a y j k s).assoc b = s.assoc b := by
  unfold markedNotice
  split_ifs
  · rw [exhaust, State.assoc_raiseEvent, State.assoc_updAssoc_ne _ _ hb.symm, assoc_noticed_ne p a y j k s hb]
  · exact assoc_noticed_ne p a y j k s hb

theorem events_markedNotice : (markedNotice p a y j k s).events
    = (if (s.assoc a).state = .switching ∧ (s.assoc a).nextPn = (s.assoc a).stopMark then
        raiseEvent .exhausted (.assoc a) 0 s else s).events := by
  unfold markedNotice
  split_ifs
  · refine events_raiseEvent_congr ?_ ?_ _ _ _ <;> rfl
  · rfl

variable {p s} in
theorem sends_markedNotice (h : Sends s p) : Sends (markedNotice p a y j k s) p := by
  have hnoticed := sends_noticed (p := p) a y j k h
  unfold markedNotice
  split_ifs
  · exact sends_keepsPorts hnoticed (exhaust_keepsPorts ..)
  · exact hnoticed

end Marked

/-- Settles O28: the notice placed, the exchange given up, and the conditions of R108. -/
theorem noticesArePlaced : Obligations.NoticesArePlaced := by
  refine ⟨?_, fun p s => exec_notice_idle⟩
  intro p a rest s x hserves hqueue hport hunmarked
  refine ⟨fun y j k hattempt hcurrent hnext htop => ?_, fun hspent hrest => ?_⟩
  · have hplaced : placeNotice p a y j k s = bumpAssoc a .attemptsSent 1 (markedNotice p a y j k s) :=
      placeNotice_noticed p a y j k s
    have hexec := exec_notice_places hserves hqueue hattempt hcurrent hnext htop
    have hsends := sends_markedNotice a y j k (sends_of_serves hserves hunmarked)
    rw [hplaced] at hexec
    have g := finish_grants (sends_keepsPorts hsends (updAssoc_keepsPorts a _ _) :
      Sends (bumpAssoc a .attemptsSent 1 (markedNotice p a y j k s)) p)
    obtain ⟨seq, hp, hmatter⟩ := port_noticed p a y j k s
    have hbumped : (bumpAssoc a .attemptsSent 1 (markedNotice p a y j k s)).port p = (noticed p a y j k s).port p :=
      port_markedNotice ..
    refine ⟨_, hexec, ?_, ?_, fun b hb => ?_, ?_, ?_, ?_, fun i hi => ?_⟩
    · rw [g.stands.controlQueue, hbumped, hp]
      show ((dropNotice p s).port p).controlQueue = rest
      rw [dropNotice, State.port_updPort_self, hqueue]
      rfl
    · rw [g.sans, bumpAssoc, State.assoc_updAssoc_self, assoc_markedNotice_self]
      rfl
    · rw [g.sans, bumpAssoc, State.assoc_updAssoc_ne _ _ hb.symm, assoc_markedNotice_ne p a y j k s hb]
    · exact g.stands.events.trans (events_markedNotice ..)
    · intro settings anum notice
      refine (g.matter p).trans ?_
      rw [hbumped, hp]
      refine hmatter.trans ?_
      rw [noticeHead_eq]
      rfl
    · rw [g.slot]
      refine (slot_markedNotice ..).trans ((slot_noticed ..).trans (if_pos rfl))
    · rw [g.slot]
      refine (slot_markedNotice ..).trans ((slot_noticed ..).trans (if_neg hi.symm))
  · have hdropped : ((dropNotice p s).port p).controlQueue = rest := by
      rw [dropNotice, State.port_updPort_self, hqueue]
      rfl
    have hports := ports_giveUp a .switchFailed 1 (dropNotice p s)
    refine ⟨_, exec_notice_spent hserves hqueue hspent, ?_, ?_, ?_, fun b hb => ?_, ?_, ?_⟩
    · rw [State.port, hports]
      show (((dropNotice p s).updPort x.port _).port p).controlQueue = rest
      rw [hport, State.port_updPort_self, hdropped]
      exact List.filter_eq_self.mpr fun b hb => bne_iff_ne.mpr fun hba => hrest (hba ▸ hb)
    · rw [State.port, hports]
      show (((dropNotice p s).updPort x.port _).port p).sequence = _
      rw [hport, State.port_updPort_self, dropNotice, State.port_updPort_self]
    · exact assoc_giveUp_self ..
    · exact assoc_giveUp_ne _ _ _ hb
    · exact slots_giveUp ..
    · rw [events_giveUp]
      refine events_raiseEvent_congr ?_ ?_ _ _ _ <;> rfl

end Sys2Proof.Proofs
end

section
/-! SUPPORT. KEY_LOAD (R69 to R71), and the completion of an expansion (R73, R88, R132). -/

/-! One theorem is checked after another, as in the tests, which bounds the threads that the whole text takes. -/

set_option Elab.async false

namespace Sys2Proof.Proofs
open Sys2Proof Sys2Proof.Machine

variable {s t u : State} {a b : Anum} {k j : SlotNum} {p : PortNum} {l : LaneNum}

/-! ## KEY_LOAD: the checks (R69) -/

section Load

variable {transport blob : Bytes} {epoch : Byte}

theorem expectedEpoch_eq (x : Assoc) : x.expectedEpoch = if x.current = none then x.firstEpoch else x.currentEpoch + 1 := by
  rw [Assoc.expectedEpoch]
  cases x.current <;> rfl

theorem serveLoad_busy (h : (s.slot k).state ≠ .empty) : serveLoad transport k a epoch blob s = refuse .slotBusy s := if_pos h

variable (hempty : (s.slot k).state = .empty)
include hempty

theorem serveLoad_idle (h : (s.assoc a).state = .idle) : serveLoad transport k a epoch blob s = refuse .state s :=
  (if_neg (not_not_intro hempty)).trans (if_pos h)

variable (hstate : (s.assoc a).state ≠ .idle)
include hstate

theorem serveLoad_nextPresent (h : (s.assoc a).next ≠ none) : serveLoad transport k a epoch blob s = refuse .nextPresent s :=
  (if_neg (not_not_intro hempty)).trans ((if_neg hstate).trans (if_pos h))

variable (hnext : (s.assoc a).next = none)
include hnext

theorem serveLoad_epochOrder
    (h : epoch ≠ if (s.assoc a).current = none then (s.assoc a).firstEpoch else (s.assoc a).currentEpoch + 1) :
    serveLoad transport k a epoch blob s = refuse .epochOrder s := by
  rw [← expectedEpoch_eq] at h
  exact (if_neg (not_not_intro hempty)).trans ((if_neg hstate).trans ((if_neg (not_not_intro hnext)).trans (if_pos h)))

variable (hepoch : epoch = if (s.assoc a).current = none then (s.assoc a).firstEpoch else (s.assoc a).currentEpoch + 1)
include hepoch

theorem serveLoad_badLength (h32 : blob.length ≠ 32) (h48 : blob.length ≠ 48) :
    serveLoad transport k a epoch blob s = refuse .badLength s := by
  rw [← expectedEpoch_eq] at hepoch
  exact (if_neg (not_not_intro hempty)).trans ((if_neg hstate).trans ((if_neg (not_not_intro hnext)).trans
    ((if_neg (not_not_intro hepoch)).trans (if_pos ⟨h32, h48⟩))))

variable (hlength : blob.length = 32 ∨ blob.length = 48)
include hlength

theorem serveLoad_wrapFail (h : unwrapKey transport blob (BitVec.ofNat 8 a.val) epoch = none) :
    serveLoad transport k a epoch blob s = refuse .wrapFail s := by
  rw [← expectedEpoch_eq] at hepoch
  have hlong : ¬(blob.length ≠ 32 ∧ blob.length ≠ 48) := by omega
  refine (if_neg (not_not_intro hempty)).trans ((if_neg hstate).trans ((if_neg (not_not_intro hnext)).trans
    ((if_neg (not_not_intro hepoch)).trans ((if_neg hlong).trans ?_))))
  simp only [h]

theorem serveLoad_loads {u : Unwrapped} (h : unwrapKey transport blob (BitVec.ofNat 8 a.val) epoch = some u) :
    serveLoad transport k a epoch blob s = done (keyLoadBytes k epoch u) (loadKey k a epoch u s) := by
  rw [← expectedEpoch_eq] at hepoch
  have hlong : ¬(blob.length ≠ 32 ∧ blob.length ≠ 48) := by omega
  refine (if_neg (not_not_intro hempty)).trans ((if_neg hstate).trans ((if_neg (not_not_intro hnext)).trans
    ((if_neg (not_not_intro hepoch)).trans ((if_neg hlong).trans ?_))))
  simp only [h]

end Load

theorem serveKeyLoad_noTransport {slot anum epoch : Byte} {blob : Bytes} (h : s.transportKey = none) :
    serveKeyLoad slot anum epoch blob s = refuse .noTransportKey s := by
  simp only [serveKeyLoad, h]

theorem serveKeyLoad_noTarget {slot anum epoch : Byte} {blob transport : Bytes} (h : s.transportKey = some transport)
    (hrange : 128 ≤ slot.toNat ∨ 64 ≤ anum.toNat) : serveKeyLoad slot anum epoch blob s = refuse .badValue s := by
  simp only [serveKeyLoad, h]
  obtain hslot | hanum := hrange
  · rw [inRange_eq_none hslot]
  · rw [inRange_eq_none hanum]
    cases inRange 128 slot <;> rfl

theorem serveKeyLoad_serves {slot anum epoch : Byte} {blob transport : Bytes} (h : s.transportKey = some transport)
    (hk : slot.toNat = k.val) (ha : anum.toNat = a.val) :
    serveKeyLoad slot anum epoch blob s = serveLoad transport k a epoch blob s := by
  simp only [serveKeyLoad, h, inRange_eq_some_iff.mpr hk, inRange_eq_some_iff.mpr ha]

/-! ## KEY_LOAD: the key that is loaded (R70, R71) -/

/-- The slot is loaded and waits for its expansion, before the arbiter looks at it. -/
def loading (k : SlotNum) (a : Anum) (epoch : Byte) (u : Unwrapped) (s : State) : State :=
  { (s.updSlot k fun _ => Slot.loadedWith a epoch u).updAssoc a fun x => { x with next := some k } with
    expansionFifo := s.expansionFifo ++ [k] }

theorem loadKey_eq (k : SlotNum) (a : Anum) (epoch : Byte) (u : Unwrapped) (s : State) :
    loadKey k a epoch u s = arbitrate (loading k a epoch u s) := rfl

theorem slot_loading_self {epoch : Byte} {u : Unwrapped} : (loading k a epoch u s).slot k = Slot.loadedWith a epoch u :=
  State.slot_updSlot_self ..

theorem slot_loading_ne {epoch : Byte} {u : Unwrapped} (h : j ≠ k) : (loading k a epoch u s).slot j = s.slot j :=
  State.slot_updSlot_ne _ _ h.symm

theorem assoc_loading_self {epoch : Byte} {u : Unwrapped} :
    (loading k a epoch u s).assoc a = { s.assoc a with next := some k } := State.assoc_updAssoc_self ..

theorem assoc_loading_ne {epoch : Byte} {u : Unwrapped} (h : b ≠ a) : (loading k a epoch u s).assoc b = s.assoc b :=
  State.assoc_updAssoc_ne _ _ h.symm

theorem rest_grants (g : Grants s t) : t.events = s.events ∧ t.transportKey = s.transportKey ∧ t.steering = s.steering := by
  obtain ⟨_, _, _, _, _, _, h⟩ := g.frame
  rw [h]
  exact ⟨rfl, rfl, rfl⟩

/-- The parts of the plaintext of a blob (R69). -/
theorem unwrapKey_eq {transport blob : Bytes} {anum epoch : Byte} :
    let text := (List.range (blob.length - 8)).map fun i => Config.unwrapByte transport blob i
    let n := blob.length - 16
    unwrapKey transport blob anum epoch
      = if Config.unwrapIntegrity transport blob = 0xA6A6A6A6A6A6A6A6 ∧ text.drop (n + 4) = [anum, epoch, 0, 0] then
          some { key := text.take n, salt := BitVec.ofNat 32 (ofBE ((text.drop n).take 4)), binding := text.drop (n + 4) }
        else none := by
  intro text n
  have htext : text.length - 8 = n := by simp [text, n]; omega
  simp only [unwrapKey, splitText, show unwrapText transport blob = text from rfl, htext]
  rfl

theorem byte_of_val {c : Byte} {n : Nat} (h : c.toNat = n) : BitVec.ofNat 8 n = c := by
  rw [← h, BitVec.ofNat_toNat, BitVec.setWidth_eq]

theorem checkValueOf_eq (key : Bytes) :
    checkValueOf key = BitVec.ofNat 24 ((Config.blockCipher key zeroBlock).toNat / 2 ^ 104) := by
  rw [← toNat_checkValueOf, BitVec.ofNat_toNat, BitVec.setWidth_eq]

/-- Settles O49: the checks in order, then the slot, the record and the expansion. -/
theorem keysAreLoaded : Obligations.KeysAreLoaded := by
  intro tag slot anum epoch blob s htakes hbody refused
  have hrange : RequestKind.keyLoad.bodyRange.1 ≤ blob.length + 3 ∧ blob.length + 3 ≤ RequestKind.keyLoad.bodyRange.2 :=
    ⟨Nat.le_add_left .., hbody⟩
  have refuses {status : Status} (hserve : serveKeyLoad slot anum epoch blob (counted s) = refuse status (counted s))
      (hstatus : status ≠ .ok) : refused status.code :=
    requestArrives_refused (kind := .keyLoad) htakes hrange hserve hstatus
  refine ⟨fun h => refuses (serveKeyLoad_noTransport h) (by decide), fun transport htransport =>
    ⟨fun h => refuses (serveKeyLoad_noTarget htransport h) (by decide), fun k a hk ha => ?_⟩⟩
  intro x expected
  have hserve := serveKeyLoad_serves (s := counted s) (epoch := epoch) (blob := blob) htransport hk ha
  refine ⟨fun h => refuses (hserve.trans (serveLoad_busy h)) (by decide),
    fun hempty h => refuses (hserve.trans (serveLoad_idle hempty h)) (by decide),
    fun hempty hstate h => refuses (hserve.trans (serveLoad_nextPresent hempty hstate h)) (by decide),
    fun hempty hstate hnext h => refuses (hserve.trans (serveLoad_epochOrder hempty hstate hnext h)) (by decide),
    fun hempty hstate hnext hepoch h32 h48 =>
      refuses (hserve.trans (serveLoad_badLength hempty hstate hnext hepoch h32 h48)) (by decide),
    fun hempty hstate hnext hepoch hlength => ?_⟩
  intro text n key cipher
  have hunwraps : unwrapKey transport blob (BitVec.ofNat 8 a.val) epoch = _ := unwrapKey_eq
  rw [byte_of_val ha] at hunwraps
  split
  · next hopens =>
    rw [if_pos hopens] at hunwraps
    have hexec := requestArrives_done (kind := .keyLoad) (tag := tag) htakes hrange
      (hserve.trans (serveLoad_loads (s := counted s) hempty hstate hnext hepoch hlength (byte_of_val ha ▸ hunwraps)))
    have g := arbitrate_grants (loading k a epoch
      { key := key, salt := BitVec.ofNat 32 (ofBE ((text.drop n).take 4)), binding := text.drop (n + 4) } (counted s))
    obtain ⟨hevents, htransport', hsteering⟩ := rest_grants g
    have hkey : key.length = n := by
      simp [key, text, n]
      omega
    refine ⟨_, hexec, ?_, ?_, fun j hj => ?_, ?_, fun c hc => ?_, ?_, hevents, htransport', hsteering⟩
    · have hfields : keyLoadBytes k epoch {
          key := key
          salt := BitVec.ofNat 32 (ofBE ((text.drop n).take 4))
          binding := text.drop (n + 4) } = [slot, epoch, if n = 32 then 1 else 0] ++ (toBE 16 cipher).take 3 := by
        rw [keyLoadBytes, byte_of_val hk, keySizeOf_code, hkey, toBE_checkValueOf]
        rfl
      rw [hfields]
      rfl
    · refine (g.slot k).trans (slot_loading_self.trans ?_)
      rw [Slot.loadedWith, keySizeOf, hkey, checkValueOf_eq]
      rfl
    · exact (g.slot j).trans (slot_loading_ne hj)
    · refine (g.sans a).trans ?_
      rw [assoc_loading_self]
      rfl
    · refine (g.sans c).trans ?_
      rw [assoc_loading_ne hc]
      rfl
    · obtain hqueued | ⟨l, hl⟩ := g.expands k (List.mem_append_right _ (List.mem_singleton_self k))
      · exact .inl hqueued
      · rw [slot_loading_self] at hl
        exact .inr ⟨l, hl⟩
  · next hopens =>
    rw [if_neg hopens] at hunwraps
    exact refuses (hserve.trans (serveLoad_wrapFail hempty hstate hnext hepoch hlength (byte_of_val ha ▸ hunwraps))) (by decide)

/-! ## The completion of an expansion (R73, R88, R132) -/

theorem updSlot_congr {f g : Slot → Slot} (h : f (s.slot k) = g (s.slot k)) : s.updSlot k f = s.updSlot k g := by
  have h : f (row s.slots k) = g (row s.slots k) := h
  rw [State.updSlot, State.updSlot, updRow, updRow, h]

/-- The result of an expansion stands in its slot, and KEY_READY has been raised (R73). -/
def expandedState (k : SlotNum) (key : Bytes) (s : State) : State :=
  raiseEvent .keyReady (.slot k) 0 (s.updSlot k fun x => { x with
    expandedKey := expandKey key
    integrityCode := Config.integrityCode (s.slot k).key (s.slot k).salt (expandKey key), state := .ready })

theorem completeExpansion_eq (k : SlotNum) (key : Bytes) (s : State) : completeExpansion k key s = expandedState k key s :=
  congrArg (raiseEvent .keyReady (.slot k) 0) (updSlot_congr rfl)

/-- A switch sees no lane. -/
theorem expandedState_alike (l : LaneNum) (k : SlotNum) (key : Bytes) (s : State) :
    SwitchAlike (expandedState k key s) (expandedState k key (freeLane l s)) where
  assocs := by simp only [expandedState, raiseEvent_assocs]; rfl
  slots := by simp only [expandedState, raiseEvent_slots]; rfl
  events := by
    refine events_raiseEvent_congr ?_ ?_ _ _ _ <;> rfl
  eventMask := by simp only [expandedState, raiseEvent_eventMask]; rfl
  inhibit := by simp only [expandedState, raiseEvent_inhibit]; rfl
  mode p := by simp only [expandedState, State.port_raiseEvent]; rfl
  firstStep p := by simp only [expandedState, State.port_raiseEvent]; rfl
  controlQueue p := by simp only [expandedState, State.port_raiseEvent]; rfl

theorem exec_expandComplete {key : Bytes} {live : Bool} (hreset : s.pins.resetLow = false)
    (hlane : s.lane l = .busy (.expand k key live)) (hlive : live = true) (hloaded : (s.slot k).state = .loaded)
    (ha : (s.slot k).owner = some a) : exec (.expandComplete l) s
      = .next (arbitrate (beginIfPending (expandedState k key (freeLane l s)) a)) := by
  refine (unlessHeld_released hreset _).trans ?_
  simp only [hlane, hlive, hloaded, ha, and_self, if_true, completeExpansion_eq]

theorem exec_expandComplete_discards {key : Bytes} {live : Bool} (hreset : s.pins.resetLow = false)
    (hlane : s.lane l = .busy (.expand k key live)) (h : live = false ∨ (s.slot k).state ≠ .loaded) :
    exec (.expandComplete l) s = .next (arbitrate (freeLane l s)) := by
  have hstands : ¬(live = true ∧ (s.slot k).state = .loaded) := fun ⟨hlive, hloaded⟩ =>
    h.elim (fun h => ne_true_of_eq_false h hlive) fun h => h hloaded
  refine (unlessHeld_released hreset _).trans ?_
  simp only [hlane, hstands, if_false]

/-- Settles O23: the result written, then a pending switch of the owner, then grants. -/
theorem expansionCompletes : Obligations.ExpansionCompletes := by
  intro l k key live s hreset hlane expanded code s1
  have hs1 : s1 = expandedState k key s := rfl
  have halike : SwitchAlike s1 (expandedState k key (freeLane l s)) := expandedState_alike l k key s
  have hassoc (b : Anum) : s1.assoc b = s.assoc b := by rw [hs1, expandedState, State.assoc_raiseEvent, State.assoc_updSlot]
  have hport (p : PortNum) : s1.port p = s.port p := by rw [hs1, expandedState, State.port_raiseEvent, State.port_updSlot]
  have hinhibit : s1.inhibit = s.inhibit := raiseEvent_inhibit ..
  refine ⟨fun hlive hloaded a ha => ?_, fun h => ?_⟩
  · intro begins
    have hexec := exec_expandComplete hreset hlane hlive hloaded ha
    have hbegins : SwitchCanStart (expandedState k key (freeLane l s)) a
        ((expandedState k key (freeLane l s)).port ((expandedState k key (freeLane l s)).assoc a).port).mode
        (expandedState k key (freeLane l s)).inhibit ↔ SwitchCanStart s1 a (s.port (s.assoc a).port).mode s.inhibit := by
      rw [halike.canStart, halike.assoc, halike.mode, halike.inhibit, hassoc, hport, hinhibit]
    refine ⟨fun hnot => ?_, fun ⟨hauto, hpending, hstart⟩ => ?_⟩
    · have hstays : beginIfPending (expandedState k key (freeLane l s)) a = expandedState k key (freeLane l s) := by
        refine beginIfPending_stays ?_
        rw [hbegins, halike.assoc, hassoc]
        cases hpolicy : (s.assoc a).triggerPolicy with
        | manual => exact .inl rfl
        | auto =>
          cases hpending : (s.assoc a).switchPending with
          | false => exact .inr (.inl rfl)
          | true => exact .inr (.inr fun hstart => hnot ⟨hpolicy, hpending, hstart⟩)
      rw [hstays] at hexec
      have g := arbitrate_grants (expandedState k key (freeLane l s))
      refine ⟨_, hexec, g.slots.trans halike.slots, g.stands.events.trans halike.events, fun b => ?_, fun p => ?_⟩
      · rw [g.sans, halike.assoc, hassoc]
      · rw [g.stands.controlQueue, halike.controlQueue, hport]
    · rw [beginIfPending_starts (by rw [halike.assoc, hassoc]; exact hauto) (by rw [halike.assoc, hassoc]; exact hpending)
        (hbegins.mpr hstart)] at hexec
      exact ⟨_, hexec, switchBegun_stands (switchBegun_alike (beginSwitch_begun ..) halike) (arbitrate_grants _).stands⟩
  · have g := arbitrate_grants (freeLane l s)
    exact ⟨_, exec_expandComplete_discards hreset hlane h, g.slots, g.stands.events, g.sans⟩

end Sys2Proof.Proofs
end

section
/-! SUPPORT. Verdicts of the verifier and what they do to an exchange (R149 to R155, R157). -/

/-! One theorem is checked after another, as in the tests, which bounds the threads that the whole text takes. -/

set_option Elab.async false

namespace Sys2Proof.Proofs
open Sys2Proof Sys2Proof.Machine

variable {s t u : State} {a b : Anum} {k j : SlotNum} {p q : PortNum} {l : LaneNum} {r : VerifyReq} {f : Bytes}
  {place : Fin 4} {c : PortCounter}

/-! ## A reply inbox that takes in nothing (R123) -/

/-- No frame joins a reply inbox. -/
def InboxShrinks (s t : State) : Prop := ∀ p, ∀ x ∈ (t.port p).inbox, x ∈ (s.port p).inbox

theorem inboxShrinks_of_same (h : ∀ p, (t.port p).inbox = (s.port p).inbox) : InboxShrinks s t := fun p x hx => by
  rwa [h] at hx

theorem InboxShrinks.trans (h : InboxShrinks s t) (g : InboxShrinks t u) : InboxShrinks s u :=
  fun p x hx => h p x (g p x hx)

theorem updPort_inboxShrinks (p : PortNum) (g : Port → Port) (s : State)
    (h : ∀ x ∈ (g (s.port p)).inbox, x ∈ (s.port p).inbox) : InboxShrinks s (s.updPort p g) := fun q x hx => by
  rw [State.port_updPort] at hx
  split_ifs at hx with hq
  · exact hq ▸ h x hx
  · exact hx

theorem updAssoc_inboxShrinks (a : Anum) (g : Assoc → Assoc) (s : State) : InboxShrinks s (s.updAssoc a g) :=
  inboxShrinks_of_same fun _ => rfl

theorem leaveInbox_inboxShrinks (p : PortNum) (place : Fin 4) (s : State) : InboxShrinks s (leaveInbox p place s) :=
  updPort_inboxShrinks _ _ _ fun _ hx => List.mem_of_mem_filter hx

theorem failCaptured_inboxShrinks (p : PortNum) (place : Fin 4) (c : PortCounter) (s : State) :
    InboxShrinks s (failCaptured p place c s) :=
  (leaveInbox_inboxShrinks p place s).trans (updPort_inboxShrinks _ _ _ fun _ hx => hx)

theorem withdrawVerifies_inboxShrinks (a : Anum) (s : State) : InboxShrinks s (withdrawVerifies a s) :=
  foldl_keeps (InboxShrinks s) _ (fun _ _ h => h.trans (failCaptured_inboxShrinks _ _ _ _)) _ _
    (inboxShrinks_of_same fun _ => rfl)

theorem raiseEvent_inboxShrinks (kind : EventKind) (source : EventSource) (detail : BitVec 16) (s : State) :
    InboxShrinks s (raiseEvent kind source detail s) := inboxShrinks_of_same fun _ => by rw [State.port_raiseEvent]

theorem cutOver_inboxShrinks (a : Anum) (s : State) : InboxShrinks s (cutOver a s) := by
  cases hk : (s.assoc a).next with
  | none =>
    simp only [cutOver, hk]
    exact inboxShrinks_of_same fun _ => rfl
  | some k =>
    have hswitched : InboxShrinks s (switchedOver a k s) := inboxShrinks_of_same fun p => by
      rw [switchedOver, bumpAssoc, State.port_updAssoc, port_outgoingLeaves]
      rfl
    rw [cutOver_eq hk]
    exact hswitched.trans ((raiseEvent_inboxShrinks _ _ _ _).trans (withdrawVerifies_inboxShrinks _ _))

theorem beginSwitch_inboxShrinks (a : Anum) (s : State) : InboxShrinks s (beginSwitch a s) := by
  cases hpolicy : (s.assoc a).confirmPolicy with
  | confirmed =>
    rw [beginSwitch_confirmed hpolicy]
    exact (updAssoc_inboxShrinks _ _ _).trans (updPort_inboxShrinks _ _ _ fun _ hx => hx)
  | unilateral =>
    rw [beginSwitch_unilateral hpolicy]
    exact (updAssoc_inboxShrinks _ _ _).trans (cutOver_inboxShrinks _ _)

theorem handTrigger_inboxShrinks (a : Anum) (kind : TriggerKind) (s : State) : InboxShrinks s (handTrigger a kind s) := by
  unfold handTrigger
  dsimp only
  split
  · split
    · split_ifs
      · exact beginSwitch_inboxShrinks a s
      · exact updAssoc_inboxShrinks _ _ _
      · exact (updAssoc_inboxShrinks _ _ _).trans (raiseEvent_inboxShrinks _ _ _ _)
    · split_ifs
      · exact inboxShrinks_of_same fun _ => rfl
      · exact (updAssoc_inboxShrinks _ _ _).trans (raiseEvent_inboxShrinks _ _ _ _)
  · exact inboxShrinks_of_same fun _ => rfl

theorem giveUp_inboxShrinks (a : Anum) (kind : EventKind) (detail : BitVec 16) (s : State) :
    InboxShrinks s (giveUp a kind detail s) := by
  have hleaves : InboxShrinks s (leaveControlQueue a s) := updPort_inboxShrinks _ _ _ fun _ hx => hx
  rw [giveUp_eq]
  exact hleaves.trans ((updAssoc_inboxShrinks _ _ _).trans (raiseEvent_inboxShrinks _ _ _ _))

theorem endAttempt_inboxShrinks (a : Anum) (s : State) : InboxShrinks s (endAttempt a s) := by
  cases hx : (s.assoc a).attempt with
  | none =>
    simp only [endAttempt, hx]
    exact inboxShrinks_of_same fun _ => rfl
  | some x =>
    by_cases h : x.step < (s.port (s.assoc a).port).lastStep
    · rw [endAttempt_next hx h]
      exact (updAssoc_inboxShrinks _ _ _).trans (updPort_inboxShrinks _ _ _ fun _ hx => hx)
    · rw [endAttempt_giveUp hx (Nat.le_of_not_lt h)]
      exact giveUp_inboxShrinks _ _ _ _

theorem applyReply_inboxShrinks (a : Anum) (f : Bytes) (s : State) : InboxShrinks s (applyReply a f s) := by
  unfold applyReply
  split
  · exact cutOver_inboxShrinks _ _
  · exact endAttempt_inboxShrinks _ _
  · exact giveUp_inboxShrinks _ _ _ _

/-- The place of a captured frame is free (R123). -/
def PlaceFree (p : PortNum) (place : Fin 4) (s : State) : Prop := ∀ x ∈ (s.port p).inbox, x.place ≠ place

theorem placeFree_leaveInbox (p : PortNum) (place : Fin 4) (s : State) : PlaceFree p place (leaveInbox p place s) := by
  intro x hx
  rw [leaveInbox, State.port_updPort_self] at hx
  exact bne_iff_ne.mp (List.mem_filter.mp hx).2

theorem placeFree_failCaptured (p : PortNum) (place : Fin 4) (c : PortCounter) (s : State) :
    PlaceFree p place (failCaptured p place c s) := by
  intro x hx
  rw [failCaptured, bumpPort, State.port_updPort_self] at hx
  exact placeFree_leaveInbox p place s x hx

theorem placeFree_of_shrinks (h : PlaceFree p place s) (g : InboxShrinks s t) : PlaceFree p place t :=
  fun x hx => h x (g p x hx)

/-! ## Verdicts (R149) -/

theorem floorOf_eq (x : Assoc) (role : KeyRole) :
    x.floorOf role = if role = .next then x.floorNext else x.floorCurrent := by cases role <;> rfl

/-- The record after the floor of the frame's key has taken a number (R149). -/
def floorRaised (role : KeyRole) (pn : Nat) (x : Assoc) : Assoc :=
  if role = .next then { x with floorNext := pn } else { x with floorCurrent := pn }

theorem raiseFloor_eq (a : Anum) (role : KeyRole) (pn : Nat) (s : State) :
    raiseFloor a role pn s = s.updAssoc a (floorRaised role pn) := by cases role <;> rfl

/-- A verdict that takes no effect fails the frame, whatever the reason (R149, R150). -/
theorem applyVerdict_withdrawn {pass : Bool} : applyVerdict r true pass s = failCaptured r.port r.place .staleReplies s := rfl

theorem applyVerdict_fails : applyVerdict r false false s = failCaptured r.port r.place .replyAuthFailures s := rfl

theorem applyVerdict_late (h : ctlTagPn r.frame ≤ (s.assoc r.anum).floorOf r.role) :
    applyVerdict r false true s = failCaptured r.port r.place .staleReplies s := by
  simp only [applyVerdict, h, Bool.false_eq_true, Bool.true_eq_false, if_false, if_true]

/-- The frame is dealt with, and the floor has taken its number. -/
def floored (r : VerifyReq) (s : State) : State := raiseFloor r.anum r.role (ctlTagPn r.frame) s

theorem floored_eq (r : VerifyReq) (s : State) :
    floored r s = s.updAssoc r.anum (floorRaised r.role (ctlTagPn r.frame)) := raiseFloor_eq ..

section Timely

variable (htimely : ¬ctlTagPn r.frame ≤ (s.assoc r.anum).floorOf r.role)
include htimely

theorem applyVerdict_request (hrole : r.role = .current) : applyVerdict r false true s
    = handTrigger r.anum .request (leaveInbox r.port r.place (floored r s)) := by
  rw [hrole] at htimely
  simp only [applyVerdict, Bool.false_eq_true, Bool.true_eq_false, if_false, hrole, htimely, floored]

theorem applyVerdict_reply (hrole : r.role = .next) : applyVerdict r false true s
    = if attemptCheck (floored r s) r.anum r.frame then applyReply r.anum r.frame (leaveInbox r.port r.place (floored r s))
      else failCaptured r.port r.place .staleReplies (floored r s) := by
  rw [hrole] at htimely
  simp only [applyVerdict, Bool.false_eq_true, Bool.true_eq_false, if_false, hrole, htimely, floored]

end Timely

theorem attemptCheck_iff (hk : (s.assoc a).next = some k) : attemptCheck s a f = true ↔
    ∃ x, (s.assoc a).attempt = some x ∧ x.status = .issued ∧ x.number = ctlAttempt f
      ∧ (s.slot k).checkValue = ctlCheckValue f := by
  simp only [attemptCheck, hk]
  cases (s.assoc a).attempt with
  | none => simp
  | some x => simp [and_assoc]

theorem placeFree_applyVerdict (withdrawn pass : Bool) (r : VerifyReq) (s : State) :
    PlaceFree r.port r.place (applyVerdict r withdrawn pass s) := by
  unfold applyVerdict
  split_ifs
  · exact placeFree_failCaptured _ _ _ _
  · exact placeFree_failCaptured _ _ _ _
  · exact placeFree_failCaptured _ _ _ _
  · dsimp only
    split
    · exact placeFree_of_shrinks (placeFree_leaveInbox _ _ _) (handTrigger_inboxShrinks _ _ _)
    · split
      · exact placeFree_of_shrinks (placeFree_leaveInbox _ _ _) (applyReply_inboxShrinks _ _ _)
      · exact placeFree_failCaptured _ _ _ _

theorem exec_verifyComplete {copy : KeyCopy} {withdrawn : Bool} (hreset : s.pins.resetLow = false)
    (hlane : s.lane l = .busy (.verify r copy withdrawn)) : exec (.verifyComplete l) s
      = .next (arbitrate (applyVerdict r withdrawn (verifyPasses r copy) (freeLane l s))) := by
  refine (unlessHeld_released hreset _).trans ?_
  simp only [hlane]

/-- The frame is out of its inbox, the lane is free, and the floor has taken the frame's number. -/
def dealtWith (l : LaneNum) (r : VerifyReq) (s : State) : State := leaveInbox r.port r.place (floored r (freeLane l s))

theorem port_dealtWith (l : LaneNum) (r : VerifyReq) (s : State) (q : PortNum) :
    ∃ inbox, (dealtWith l r s).port q = { s.port q with inbox := inbox } := by
  rw [dealtWith, floored_eq, leaveInbox, State.port_updPort]
  split_ifs with h
  · subst h
    exact ⟨_, rfl⟩
  · exact ⟨_, rfl⟩

/-- A switch sees neither lanes nor inboxes. -/
theorem dealtWith_alike (l : LaneNum) (r : VerifyReq) (s : State) :
    SwitchAlike (s.updAssoc r.anum (floorRaised r.role (ctlTagPn r.frame))) (dealtWith l r s) := by
  have hport := port_dealtWith l r s
  refine ⟨?_, ?_, ?_, ?_, ?_, fun q => ?_, fun q => ?_, fun q => ?_⟩
  iterate 5
    rw [dealtWith, floored_eq]
    rfl
  iterate 3
    obtain ⟨_, h⟩ := hport q
    rw [h]
    rfl

theorem assoc_dealtWith (l : LaneNum) (r : VerifyReq) (s : State) :
    (dealtWith l r s).assoc r.anum = floorRaised r.role (ctlTagPn r.frame) (s.assoc r.anum) := by
  rw [(dealtWith_alike l r s).assoc, State.assoc_updAssoc_self]

/-- What a frame that is failed leaves (R149, R150). -/
theorem failCaptured_counts (p : PortNum) (place : Fin 4) (c : PortCounter) (s : State) :
    ((failCaptured p place c s).port p).counters = ((bumpPort p c 1 s).port p).counters := by
  simp only [failCaptured, bumpPort, leaveInbox, State.port_updPort_self]

/-! ## Replies (R152 to R154) -/

theorem applyReply_accept (h : (ctlResult f).toNat = 0) : applyReply a f s = cutOver a s := by
  simp only [applyReply, h]

theorem applyReply_notReady (h : (ctlResult f).toNat = 1) : applyReply a f s = endAttempt a s := by
  simp only [applyReply, h]

theorem applyReply_mismatch {x : Attempt} (h : (ctlResult f).toNat = 2) (hx : (s.assoc a).attempt = some x) :
    applyReply a f s = giveUp a .switchRefused (BitVec.ofNat 16 x.number) s := by
  simp only [applyReply, h, hx, Option.map_some, Option.getD_some]

theorem events_giveUp_alike (h : SwitchAlike s t) (a : Anum) (kind : EventKind) (detail : BitVec 16) :
    (giveUp a kind detail t).events = (raiseEvent kind (.assoc a) detail s).events := by
  rw [events_giveUp]
  refine events_raiseEvent_congr ?_ ?_ _ _ _
  exacts [h.events, h.eventMask]

theorem floorRaised_next (pn : Nat) (x : Assoc) : floorRaised .next pn x = { x with floorNext := pn } := rfl

section Replies

variable {w : State} (g : Grants (applyReply a f w) t)
include g

/-- ACCEPT cuts over (R152, R157). -/
theorem accepted_reply (hresult : (ctlResult f).toNat = 0) (hk : (w.assoc a).next = some k)
    (hcurrent : (w.assoc a).current ≠ some k) :
    (t.assoc a).sans = ((w.assoc a).switched k (w.slot k).epoch).withSwitchDone.sans
      ∧ t.slot k = { w.slot k with state := .active }
      ∧ (∀ j, (w.assoc a).current = some j → t.slot j = (w.slot j).outgoing
        ∧ ((w.slot j).inFlight = 0 → EventsOpen w → Listed .keyRetired (.slot j) t))
      ∧ (EventsOpen w → Listed .switchDone (.assoc a) t) := by
  rw [applyReply_accept hresult] at g
  refine ⟨?_, ?_, fun j hj => ?_, fun hopen => g.stands.listed (listed_switchDone_cutOver hk hopen)⟩
  · rw [g.sans, assoc_cutOver_self hk]
  · rw [g.slot, slot_cutOver_next hk hcurrent]
  · have hjk : j ≠ k := fun hjk => hcurrent (hjk ▸ hj)
    refine ⟨?_, fun hcount hopen => g.stands.listed (listed_keyRetired_cutOver hk hj hjk hcount hopen)⟩
    rw [g.slot, slot_cutOver_current hk hj hjk]

variable {x : Attempt} (hx : (w.assoc a).attempt = some x)
include hx

/-- NOT_READY below the last step begins the next attempt (R144, R153). -/
theorem notReady_reply_next (hresult : (ctlResult f).toNat = 1) (h : x.step < (w.port (w.assoc a).port).lastStep) :
    (t.assoc a).attempt = some { number := x.number + 1, step := x.step + 1, pulses := 2 ^ (x.step + 1), status := .queued }
      ∧ (t.assoc a).state = (w.assoc a).state ∧ (t.assoc a).floorNext = (w.assoc a).floorNext ∧ t.slots = w.slots
      ∧ (t.port (w.assoc a).port).controlQueue = (w.port (w.assoc a).port).controlQueue ++ [a] := by
  rw [applyReply_notReady hresult, endAttempt_next hx h] at g
  have hrecord : (nextAttempt a x w).assoc a = { w.assoc a with attempt := some x.following } := State.assoc_updAssoc_self ..
  obtain ⟨hstate, -, -, hattempt, -, hfloor⟩ := fields_of_sans (g.sans a)
  rw [hrecord] at hstate hattempt hfloor
  refine ⟨hattempt, hstate, hfloor, g.slots, ?_⟩
  rw [g.stands.controlQueue, nextAttempt, State.port_updPort_self]
  rfl

/-- NOT_READY at the last step gives the exchange up (R153, R155). -/
theorem notReady_reply_last (hresult : (ctlResult f).toNat = 1) (h : (w.port (w.assoc a).port).lastStep ≤ x.step) :
    (t.assoc a).sans = (gaveUp (w.assoc a)).sans ∧ t.events = (giveUp a .switchFailed 0 w).events ∧ t.slots = w.slots := by
  rw [applyReply_notReady hresult, endAttempt_giveUp hx h] at g
  exact ⟨(g.sans a).trans (congrArg _ (assoc_giveUp_self ..)), g.stands.events, g.slots.trans (slots_giveUp ..)⟩

/-- EPOCH_MISMATCH gives the exchange up (R154, R155). -/
theorem mismatched_reply (hresult : (ctlResult f).toNat = 2) : (t.assoc a).sans = (gaveUp (w.assoc a)).sans
    ∧ t.events = (giveUp a .switchRefused (BitVec.ofNat 16 x.number) w).events ∧ t.slots = w.slots := by
  rw [applyReply_mismatch hresult hx] at g
  exact ⟨(g.sans a).trans (congrArg _ (assoc_giveUp_self ..)), g.stands.events, g.slots.trans (slots_giveUp ..)⟩

end Replies

/-- Settles O24: the verdict's steps in order, then grants. -/
theorem verdictsTakeEffect : Obligations.VerdictsTakeEffect := by
  intro l r copy withdrawn s hreset hlane x pn floor nonce passes left only same raised gaveUp'
  have hpass : verifyPasses r copy = true ↔ passes := beq_iff_eq
  have hfloor : ((freeLane l s).assoc r.anum).floorOf r.role = floor := floorOf_eq x r.role
  have hraised : floorRaised r.role pn = raised := by
    funext y
    rfl
  have g := arbitrate_grants (applyVerdict r withdrawn (verifyPasses r copy) (freeLane l s))
  refine ⟨_, exec_verifyComplete hreset hlane, ?_, ?_⟩
  · obtain ⟨_, hport⟩ := g.port r.port
    intro y hy
    rw [hport] at hy
    exact placeFree_applyVerdict withdrawn (verifyPasses r copy) r (freeLane l s) y hy
  have failed {c : PortCounter} (happly : applyVerdict r withdrawn (verifyPasses r copy) (freeLane l s)
      = failCaptured r.port r.place c (freeLane l s)) :
      only c (arbitrate (applyVerdict r withdrawn (verifyPasses r copy) (freeLane l s)))
        ∧ same (arbitrate (applyVerdict r withdrawn (verifyPasses r copy) (freeLane l s))) := by
    rw [happly] at g ⊢
    obtain ⟨_, hport⟩ := g.port r.port
    refine ⟨?_, g.sans, g.slots, g.stands.events⟩
    show ((arbitrate _).port r.port).counters = _
    rw [hport, failCaptured_counts]
    rfl
  have hstate : SwitchAlike (s.updAssoc r.anum raised) (dealtWith l r s) := hraised ▸ dealtWith_alike l r s
  have hrecord : (dealtWith l r s).assoc r.anum = raised x := hraised ▸ assoc_dealtWith l r s
  refine ⟨fun hwithdrawn => failed ?_, fun hwithdrawn hfails => failed ?_, fun hwithdrawn hpasses hlate => failed ?_,
    fun hwithdrawn hpasses htimely hrole => ?_, fun hwithdrawn hpasses htimely hrole k hk => ?_⟩
  · rw [hwithdrawn, applyVerdict_withdrawn]
  · rw [hwithdrawn, eq_false_of_ne_true (mt hpass.mp hfails), applyVerdict_fails]
  · rw [hwithdrawn, hpass.mpr hpasses, applyVerdict_late (hfloor ▸ hlate)]
  · rw [hwithdrawn, hpass.mpr hpasses, applyVerdict_request (hfloor ▸ htimely.not_ge) hrole] at g ⊢
    exact triggerOutcome_alike (triggerOutcome_stands (handTrigger_outcome ..) g.stands) hstate
  · have hraisedNext (y : Assoc) : raised y = { y with floorNext := pn } := if_pos hrole
    have happly := applyVerdict_reply (s := freeLane l s) (r := r) (hfloor ▸ htimely.not_ge) hrole
    have hslot (j : SlotNum) : (dealtWith l r s).slot j = s.slot j := (hstate.slot j).trans (State.slot_updAssoc ..)
    have hfloored : (floored r (freeLane l s)).assoc r.anum = raised x := by
      rw [floored_eq, State.assoc_updAssoc_self, ← hraised]
      rfl
    have hkfloored : ((floored r (freeLane l s)).assoc r.anum).next = some k := by
      rw [hfloored, hraisedNext]
      exact hk
    have hcheck : attemptCheck (floored r (freeLane l s)) r.anum r.frame = true ↔ ∃ a, x.attempt = some a
        ∧ a.status = .issued ∧ a.number = ctlAttempt r.frame ∧ (s.slot k).checkValue = ctlCheckValue r.frame := by
      rw [attemptCheck_iff hkfloored, hfloored, hraisedNext, floored_eq, State.slot_updAssoc]
      rfl
    rw [hwithdrawn, hpass.mpr hpasses, happly] at g ⊢
    refine ⟨fun a ha hissued hnumber hvalue => ?_, fun hnone => ?_⟩
    · rw [if_pos (hcheck.mpr ⟨a, ha, hissued, hnumber, hvalue⟩)] at g ⊢
      change Grants (applyReply r.anum r.frame (dealtWith l r s)) _ at g
      have hslots : (dealtWith l r s).slots = s.slots := hstate.slots
      have hgiveUp (kind : EventKind) (detail : BitVec 16) : (giveUp r.anum kind detail (dealtWith l r s)).events
          = (raiseEvent kind (.assoc r.anum) detail s).events := by
        rw [events_giveUp_alike hstate]
        refine events_raiseEvent_congr ?_ ?_ _ _ _ <;> rfl
      have hopen : EventsOpen (dealtWith l r s) ↔ EventsOpen s := hstate.eventsOpen
      have hattempt : ((dealtWith l r s).assoc r.anum).attempt = some a := by
        rw [hrecord, hraisedNext]
        exact ha
      obtain ⟨inbox, hport⟩ := port_dealtWith l r s x.port
      have hrecordPort : ((dealtWith l r s).assoc r.anum).port = x.port := by
        rw [hrecord, hraisedNext]
      have hlastStep : ((dealtWith l r s).port ((dealtWith l r s).assoc r.anum).port).lastStep = (s.port x.port).lastStep := by
        rw [hrecordPort, hport]
      refine ⟨fun hresult hcurrent => ?_, fun hresult hstep => ?_, fun hresult hstep => ?_, fun hresult => ?_⟩
      · obtain ⟨hrec, hnext, hout, hdone⟩ := accepted_reply g hresult (k := k) (by rw [hrecord, hraisedNext]; exact hk)
          (by rw [hrecord, hraisedNext]; exact hcurrent)
        rw [hrecord] at hrec hout
        rw [hslot] at hrec hnext
        refine ⟨hrec, hnext, fun j hj => ?_, fun h => hdone (hopen.mpr h)⟩
        have hj' := hout j (by rw [hraisedNext]; exact hj)
        rw [hslot, hopen] at hj'
        exact hj'
      · obtain ⟨hnext, hrec, hfloor', hslots', hqueue⟩ := notReady_reply_next g hattempt hresult (hlastStep ▸ hstep)
        rw [hrecordPort, hport] at hqueue
        rw [hrecord, hraisedNext] at hrec hfloor'
        exact ⟨hnext, hrec, hfloor', hslots'.trans hslots, hqueue⟩
      · obtain ⟨hrec, hevents, hslots'⟩ := notReady_reply_last g hattempt hresult (hlastStep ▸ hstep)
        refine ⟨hrec.trans ?_, hevents.trans (hgiveUp _ _), hslots'.trans hslots⟩
        rw [hrecord]
        show (gaveUp (raised x)).sans = Assoc.sans { raised x with attempt := none, state := _, counters := _ }
        rw [hraisedNext]
        rfl
      · obtain ⟨hrec, hevents, hslots'⟩ := mismatched_reply g hattempt hresult
        refine ⟨hrec.trans ?_, hevents.trans (hgiveUp _ _), hslots'.trans hslots⟩
        rw [hrecord]
        show (gaveUp (raised x)).sans = Assoc.sans { raised x with attempt := none, state := _, counters := _ }
        rw [hraisedNext]
        rfl
    · have hfails : ¬attemptCheck (floored r (freeLane l s)) r.anum r.frame = true := fun h => by
        obtain ⟨a, ha, hchecks⟩ := hcheck.mp h
        exact hnone a ha hchecks
      rw [if_neg hfails] at g ⊢
      obtain ⟨_, hport⟩ := g.port r.port
      refine ⟨?_, ?_, ?_⟩
      · show ((arbitrate _).port r.port).counters = _
        rw [hport, failCaptured_counts, floored_eq]
        rfl
      · rw [g.sans]
        exact congrArg Assoc.sans hfloored
      · rw [g.slots, floored_eq]
        rfl

end Sys2Proof.Proofs
end

section
/-! SUPPORT. What a flush of the class queues and the departure of unsent heads leave of a port and of the slots (R76, R98,
R105, R111). -/

/-! One theorem is checked after another, as in the tests, which bounds the threads that the whole text takes. -/
set_option Elab.async false

namespace Sys2Proof.Proofs

open Sys2Proof Sys2Proof.Machine

variable {s t u : State} {p q : PortNum} {k : ClassNum} {c : PortCounter} {x y : Port} {inhibit : InhibitState}

/-! ## One class queue flushed -/

theorem row_holding_flushedClass (c : PortCounter) (x : Port) (k j : ClassNum) : row (flushedClass c x k).holding j
    = if j = k ∧ row x.queues j ≠ [] then x.holdsAt j 0 else row x.holding j := by
  unfold flushedClass
  split
  · next hempty =>
    rw [if_neg]
    rintro ⟨rfl, hne⟩
    exact hne hempty
  · next hne =>
    refine (row_holding_requeued j).trans (if_congr ⟨?_, fun h => h.1⟩ rfl rfl)
    rintro rfl
    exact ⟨rfl, hne⟩

theorem pauseOwed_flushedClass (c : PortCounter) (x : Port) (k : ClassNum) : (flushedClass c x k).pauseOwed = true
    ↔ x.pauseOwed = true ∨ row (flushedClass c x k).holding k ≠ row x.holding k := by
  rw [row_holding_flushedClass]
  unfold flushedClass
  split
  · next hempty => simp [hempty]
  · next hne =>
    rw [if_pos ⟨rfl, hne⟩, show (0 : Nat) = cellsAfter k (fun _ => []) x from rfl]
    simp only [requeued, Bool.or_eq_true, bne_iff_ne, ne_comm]

theorem row_refresh_flushedClass (c : PortCounter) (x : Port) (k j : ClassNum) : row (flushedClass c x k).refresh j
    = if j = k ∧ row x.holding j = false ∧ row (flushedClass c x k).holding j = true then 0 else row x.refresh j := by
  rw [row_holding_flushedClass]
  unfold flushedClass
  split
  · next hempty =>
    rw [if_neg]
    rintro ⟨rfl, hfalse, htrue⟩
    simp [hempty, hfalse] at htrue
  · next hne =>
    refine (row_refresh_requeued j).trans (if_congr ?_ rfl rfl)
    constructor
    · rintro ⟨rfl, hfalse, hholds⟩
      exact ⟨rfl, hfalse, (if_pos ⟨rfl, hne⟩).trans hholds⟩
    · rintro ⟨rfl, hfalse, hholds⟩
      exact ⟨rfl, hfalse, (if_pos ⟨rfl, hne⟩).symm.trans hholds⟩

theorem flow_flushedClass (c : PortCounter) (x : Port) (k : ClassNum) : (flushedClass c x k).flow = x.flow := by
  unfold flushedClass
  split <;> rfl

/-- A flush of one class leaves the threshold rule of the others as it was. -/
theorem holdsAt_flushedClass (c : PortCounter) (x : Port) {j k : ClassNum} (h : j ≠ k) (n : Nat) :
    (flushedClass c x k).holdsAt j n = x.holdsAt j n := by
  have hholding : row (flushedClass c x k).holding j = row x.holding j :=
    (row_holding_flushedClass ..).trans (if_neg fun hj => h hj.1)
  simp only [Port.holdsAt, flow_flushedClass, hholding]

theorem counters_flushedClass (c : PortCounter) (x : Port) (k : ClassNum) :
    (flushedClass c x k).counters = (Port.withDrops c (row x.queues k).length x).counters := by
  unfold flushedClass
  split
  · next hempty => rw [hempty, List.length_nil, withDrops_zero]
  · next hne =>
    have hpos : (row x.queues k).length ≠ 0 := fun h => hne (List.eq_nil_of_length_eq_zero h)
    simp only [Port.withDrops, drops, hpos, if_false]
    rfl

/-! ## All class queues flushed -/

/-- What the classes of a list leave of the holding indications, the pause frame owed and the refresh counts. -/
structure ClassesEmptied (ks : List ClassNum) (x y : Port) : Prop where
  holding : ∀ j, row y.holding j = if j ∈ ks ∧ row x.queues j ≠ [] then x.holdsAt j 0 else row x.holding j
  owed : y.pauseOwed = true ↔ x.pauseOwed = true ∨ ∃ j, row y.holding j ≠ row x.holding j
  refresh : ∀ j, row y.refresh j = if row x.holding j = false ∧ row y.holding j = true then 0 else row x.refresh j

theorem classesEmptied_foldl (c : PortCounter) : ∀ (ks : List ClassNum) (x : Port), ks.Nodup →
    ClassesEmptied ks x (ks.foldl (flushedClass c) x)
  | [], x, _ => by
    refine ⟨by simp, by simp, fun j => (if_neg ?_).symm⟩
    rintro ⟨hfalse, htrue⟩
    exact absurd (hfalse.symm.trans htrue) (by decide)
  | k :: ks, x, hnodup => by
    obtain ⟨hk, hks⟩ := List.nodup_cons.mp hnodup
    obtain ⟨hholding, howed, hrefresh⟩ := classesEmptied_foldl c ks (flushedClass c x k) hks
    rw [List.foldl_cons]
    generalize ks.foldl (flushedClass c) (flushedClass c x k) = y at *
    have hself : row y.holding k = row (flushedClass c x k).holding k :=
      (hholding k).trans (if_neg fun h => hk h.1)
    have hother {j : ClassNum} (hj : j ≠ k) : row (flushedClass c x k).holding j = row x.holding j :=
      (row_holding_flushedClass ..).trans (if_neg fun h => hj h.1)
    refine ⟨fun j => ?_, ?_, fun j => ?_⟩
    · by_cases hj : j = k
      · subst hj
        rw [hself, row_holding_flushedClass]
        simp
      · rw [hholding, hother hj, holdsAt_flushedClass c x hj, row_queues_flushedClass]
        simp [hj]
    · rw [howed, pauseOwed_flushedClass]
      constructor
      · rintro ((h | h) | ⟨j, hj⟩)
        · exact .inl h
        · exact .inr ⟨k, hself ▸ h⟩
        · by_cases hjk : j = k
          · exact absurd (hjk ▸ hself) hj
          · exact .inr ⟨j, hother hjk ▸ hj⟩
      · rintro (h | ⟨j, hj⟩)
        · exact .inl (.inl h)
        · by_cases hjk : j = k
          · subst hjk
            exact .inl (.inr (hself ▸ hj))
          · exact .inr ⟨j, by rwa [hother hjk]⟩
    · rw [hrefresh, row_refresh_flushedClass]
      by_cases hj : j = k
      · subst hj
        rw [hself]
        generalize row (flushedClass c x j).holding j = now
        cases now <;> simp
      · simp [hother hj, hj]

theorem classesDown_nodup : classesDown.Nodup := by decide

theorem mem_classesDown_all (j : ClassNum) : j ∈ classesDown := by
  revert j
  decide

/-- A flush does to the class queues what R105 says. -/
theorem queuesFlushed_flushedBy (c : PortCounter) (x : Port) : QueuesFlushed x (flushedBy c x) := by
  obtain ⟨hholding, howed, hrefresh⟩ := classesEmptied_foldl c classesDown x classesDown_nodup
  refine ⟨row_queues_flushedBy c x, fun j => (hholding j).trans ?_, howed, hrefresh⟩
  by_cases h : row x.queues j = []
  · simp [h]
  · simp [h, mem_classesDown_all]

/-- A flush counts each frame that it removes. -/
theorem counters_flushedBy (c : PortCounter) (x : Port) :
    (flushedBy c x).counters = (Port.withDrops c x.queued x).counters := by
  have hfold : ∀ (ks : List ClassNum) (x : Port), ks.Nodup → (ks.foldl (flushedClass c) x).counters
      = (Port.withDrops c (ks.map fun k => (row x.queues k).length).sum x).counters := by
    intro ks
    induction ks with
    | nil => exact fun x _ => congrArg Port.counters (withDrops_zero c x).symm
    | cons k ks ih =>
      intro x hnodup
      obtain ⟨hk, hks⟩ := List.nodup_cons.mp hnodup
      rw [List.foldl_cons, ih _ hks]
      have hsame : (ks.map fun j => (row (flushedClass c x k).queues j).length) = ks.map fun j => (row x.queues j).length :=
        List.map_congr_left fun j hj => by
          rw [row_queues_flushedClass, if_neg fun (h : j = k) => hk (h ▸ hj)]
      rw [hsame, List.map_cons, List.sum_cons, ← withDrops_withDrops]
      simp only [Port.withDrops, counters_flushedClass]
  refine (hfold classesDown x classesDown_nodup).trans ?_
  simp only [classesDown, List.map_cons, List.map_nil, List.sum_cons, List.sum_nil, Port.queued]
  congr 2
  omega

/-- What a flush leaves of a port beside its class queues and their indications. -/
theorem core_flushedBy (c : PortCounter) (x : Port) : (flushedBy c x).core = x.core
    ∧ (flushedBy c x).sequence = x.sequence ∧ (flushedBy c x).controlQueue = x.controlQueue
    ∧ (flushedBy c x).inbox = x.inbox := by
  refine foldl_keeps (fun y : Port => y.core = x.core ∧ y.sequence = x.sequence ∧ y.controlQueue = x.controlQueue
    ∧ y.inbox = x.inbox) _ (fun y k h => ?_) _ _ ⟨rfl, rfl, rfl, rfl⟩
  unfold flushedClass
  split
  · exact h
  · exact h

/-! ## Fields that the core of a port holds -/

theorem fields_of_core (h : y.core = x.core) : y.mode = x.mode ∧ y.link = x.link ∧ y.settings = x.settings
    ∧ y.flow = x.flow ∧ y.settleRemaining = x.settleRemaining ∧ y.campusTx = x.campusTx
    ∧ y.campusPause = x.campusPause := by
  simp only [Port.core, Port.mk.injEq] at h
  simp only [h, and_self]

theorem inhibitDrop_congr (h : y.core = x.core) (inhibit : InhibitState) : y.inhibitDrop inhibit = x.inhibitDrop inhibit := by
  obtain ⟨hmode, -⟩ := fields_of_core h
  funext e
  simp only [Port.inhibitDrop, hmode]

theorem linkDrop_congr (h : y.core = x.core) (inhibit : InhibitState) : y.linkDrop inhibit = x.linkDrop inhibit := by
  obtain ⟨hmode, hlink, hsettings, -⟩ := fields_of_core h
  funext e
  simp only [Port.linkDrop, inhibitDrop_congr h, hmode, hlink, hsettings]

theorem unsent_congr (h : y.core = x.core) (inhibit : InhibitState) : y.unsent inhibit = x.unsent inhibit := by
  funext e
  simp only [Port.unsent, inhibitDrop_congr h, linkDrop_congr h]

end Sys2Proof.Proofs
end

section
/-! SUPPORT. The unsent heads of a transform sequence leave: what becomes of the port and of the slots (R7, R16, R76, R98). -/

/-! One theorem is checked after another, as in the tests, which bounds the threads that the whole text takes. -/
set_option Elab.async false

namespace Sys2Proof.Proofs

open Sys2Proof Sys2Proof.Machine

variable {s t u : State} {p q : PortNum} {k : SlotNum} {c : PortCounter} {x y b : Port} {inhibit : InhibitState}

/-! ## How a head leaves -/

theorem headDiscard_nil (h : (s.port p).sequence = []) : headDiscard s p = none := by simp only [headDiscard, h]

/-- A head leaves by the rules of R98: as an inhibit drop, as a link-down flush, or not at all. -/
theorem headDiscard_cons {e : Entry} {es : List Entry} (h : (s.port p).sequence = e :: es) : headDiscard s p
    = if (s.port p).inhibitDrop s.inhibit e then some .inhibitDrops
      else if (s.port p).linkDrop s.inhibit e then some .linkDownFlush else none := by
  simp only [headDiscard, h, Port.linkDrop, Port.inhibitDrop, State.inhibited]
  by_cases hdone : e.status = .done
  · simp only [hdone, if_true, beq_self_eq_true, Bool.true_and]
    split
    · next h => simp only [h, if_true]
    · next h => simp only [Bool.eq_false_of_not_eq_true h, Bool.not_false, Bool.true_and, Bool.false_eq_true, if_false]
  · simp [hdone]

/-! ## The port without its unsent heads -/

/-- The entries at the head of a sequence that leave unsent. -/
def headsOut (inhibit : InhibitState) (x : Port) : List Entry := x.sequence.takeWhile (x.unsent inhibit)

/-- A port once its unsent heads have left, each counted (R98). -/
def withoutHeads (inhibit : InhibitState) (x : Port) : Port :=
  Port.withDrops .linkDownFlush ((headsOut inhibit x).countP (x.linkDrop inhibit))
    (Port.withDrops .inhibitDrops ((headsOut inhibit x).countP (x.inhibitDrop inhibit))
      { x with sequence := x.sequence.dropWhile (x.unsent inhibit) })

/-- The port counters in the order of R182. -/
def portCounterAt (i : Fin 32) : PortCounter :=
  row (#v[.framesIn, .octetsIn, .fcsDrops, .runtDrops, .oversizeDrops, .portOffDrops, .noMatchDrops, .steerDrops,
    .misdirectedDrops, .assocStateDrops, .bufferDrops 0, .bufferDrops 1, .bufferDrops 2, .bufferDrops 3, .passFrames,
    .protectedFramesOut, .octetsOut, .linkDownFlush, .inhibitDrops, .pauseFramesSent, .campusPauseReceived,
    .returnForwarded, .returnDrops, .returnFcsDrops, .controlSent, .controlCaptured, .inboxDrops, .foreignControl,
    .unknownChannel, .replyAuthFailures, .staleReplies, .overlaps] : Vector PortCounter 32) i

theorem portCounterAt_index (c : PortCounter) : portCounterAt c.index = c := by
  cases c with
  | bufferDrops k =>
    revert k
    decide
  | _ => rfl

/-- No two port counters have one place (R182). -/
theorem portCounter_index_eq_iff {c d : PortCounter} : c.index = d.index ↔ d = c :=
  ⟨fun h => by rw [← portCounterAt_index c, h, portCounterAt_index], fun h => by rw [h]⟩

theorem withDrops_comm {c d : PortCounter} (h : c.index ≠ d.index) (m n : Nat) (x : Port) :
    Port.withDrops c m (Port.withDrops d n x) = Port.withDrops d n (Port.withDrops c m x) := by
  simp only [Port.withDrops, Port.mk.injEq, true_and]
  refine ext_rows fun i => ?_
  simp only [row_updRow]
  grind

theorem not_linkDrop_of_inhibitDrop {e : Entry} (h : x.inhibitDrop inhibit e = true) : x.linkDrop inhibit e = false := by
  simp [Port.linkDrop, h]

theorem withoutHeads_of_kept (h : ∀ e ∈ x.sequence.head?, x.unsent inhibit e = false) : withoutHeads inhibit x = x := by
  have hout : headsOut inhibit x = [] ∧ x.sequence.dropWhile (x.unsent inhibit) = x.sequence := by
    unfold headsOut
    cases hseq : x.sequence with
    | nil => exact ⟨rfl, rfl⟩
    | cons e es =>
      have he := h e (by rw [hseq]; rfl)
      simp [he]
  obtain ⟨hout, hseq⟩ := hout
  simp only [withoutHeads, hout, hseq, List.countP_nil, withDrops_zero]

theorem withoutHeads_inhibitDrop {e : Entry} {es : List Entry} (hseq : x.sequence = e :: es)
    (h : x.inhibitDrop inhibit e = true) :
    withoutHeads inhibit (Port.withDrops .inhibitDrops 1 { x with sequence := es }) = withoutHeads inhibit x := by
  have hunsent : x.unsent inhibit e = true := by simp [Port.unsent, h]
  have hlink := not_linkDrop_of_inhibitDrop h
  unfold withoutHeads headsOut
  rw [hseq, List.takeWhile_cons_of_pos hunsent, List.dropWhile_cons_of_pos hunsent, List.countP_cons_of_pos h,
    List.countP_cons_of_neg (by simp [hlink]), Nat.add_comm _ 1, ← withDrops_withDrops]
  rfl

theorem withoutHeads_linkDrop {e : Entry} {es : List Entry} (hseq : x.sequence = e :: es)
    (h : x.linkDrop inhibit e = true) (hnot : x.inhibitDrop inhibit e = false) :
    withoutHeads inhibit (Port.withDrops .linkDownFlush 1 { x with sequence := es }) = withoutHeads inhibit x := by
  have hunsent : x.unsent inhibit e = true := by simp [Port.unsent, h]
  unfold withoutHeads headsOut
  rw [hseq, List.takeWhile_cons_of_pos hunsent, List.dropWhile_cons_of_pos hunsent, List.countP_cons_of_pos h,
    List.countP_cons_of_neg (by simp [hnot]), Nat.add_comm _ 1, ← withDrops_withDrops,
    withDrops_comm (c := .linkDownFlush) (d := .inhibitDrops) (by decide) 1]
  rfl

/-! ## The state without the unsent heads of a port -/

/-- The slots follow the entries: each entry that has left a sequence has released its slot once (R76). -/
def SlotsFollow (s t : State) : Prop :=
  ∀ k, ∃ n, entriesAgainst s k = entriesAgainst t k + n ∧ t.slot k = Slot.releasedTimes n (s.slot k)

theorem SlotsFollow.of_same (hslots : ∀ k, t.slot k = s.slot k)
    (h : ∀ p, (t.port p).sequence = (s.port p).sequence) : SlotsFollow s t :=
  fun k => ⟨0, (entriesAgainst_congr fun p => by rw [h p]).symm, hslots k⟩

theorem SlotsFollow.refl (s : State) : SlotsFollow s s := .of_same (fun _ => rfl) fun _ => rfl

theorem SlotsFollow.trans (h : SlotsFollow s t) (g : SlotsFollow t u) : SlotsFollow s u := by
  intro k
  obtain ⟨m, hm, hslot⟩ := h k
  obtain ⟨n, hn, gslot⟩ := g k
  exact ⟨m + n, by omega, by rw [gslot, hslot, releasedTimes_add]⟩

/-- A slot that no entry has left stands as it stood. -/
theorem SlotsFollow.stand (h : SlotsFollow s t) : SlotsStandBut (fun _ => False) s t := by
  intro k _ heq
  obtain ⟨n, hn, hslot⟩ := h k
  obtain rfl : n = 0 := by omega
  exact hslot

theorem slotsFollow_dropHead (p : PortNum) (s : State) : SlotsFollow s (dropHead p s) := by
  intro k
  have hone := entriesAgainst_of_one (s := s) (t := dropHead p s) (k := k) (p := p) fun q hq => by
    rw [port_dropHead, if_neg (Ne.symm hq)]
  have hself : ((dropHead p s).port p).sequence = (s.port p).sequence.tail := by rw [port_dropHead, if_pos rfl]
  have hsplit : against k (s.port p).sequence
      = against k ((s.port p).sequence.take 1) + against k (s.port p).sequence.tail := by
    rw [← against_append, ← List.drop_one, List.take_append_drop]
  rw [hself] at hone
  exact ⟨_, by omega, slot_dropHead p k s⟩

theorem slotsFollow_bumpPort (p : PortNum) (c : PortCounter) (n : Nat) (s : State) : SlotsFollow s (bumpPort p c n s) := by
  refine .of_same (fun _ => rfl) fun q => ?_
  rw [bumpPort, State.port_updPort]
  split
  · next hpq => rw [hpq]
  · rfl

/-- One head leaves and is counted. -/
theorem port_dropHead_bump (p q : PortNum) (c : PortCounter) (s : State) : (dropHead p (bumpPort p c 1 s)).port q
    = if p = q then Port.withDrops c 1 { s.port q with sequence := (s.port q).sequence.tail } else s.port q := by
  rw [port_dropHead, bumpPort_one, State.port_updPort]
  split
  · next hpq =>
    subst hpq
    rfl
  · rfl

theorem inhibit_dropHead_bump (p : PortNum) (c : PortCounter) (s : State) :
    (dropHead p (bumpPort p c 1 s)).inhibit = s.inhibit := by
  obtain ⟨_, _, _, _, _, _, h⟩ := (bumpPort_portFrame p c 1 s).trans (dropHead_portFrame p _)
  rw [h]

/-- After enough turns every unsent head has left. -/
theorem discardHeadsUpTo_leaves (p : PortNum) : ∀ (n : Nat) (s : State), (s.port p).sequence.length ≤ n →
    (∀ q, (discardHeadsUpTo n p s).port q = if p = q then withoutHeads s.inhibit (s.port q) else s.port q)
      ∧ SlotsFollow s (discardHeadsUpTo n p s)
  | 0, s, h => by
    have hnil : (s.port p).sequence = [] := List.eq_nil_of_length_eq_zero (Nat.le_zero.mp h)
    refine ⟨fun q => ?_, .refl s⟩
    split
    · next hpq =>
      subst hpq
      exact (withoutHeads_of_kept (x := s.port p) (by simp [hnil])).symm
    · rfl
  | n + 1, s, h => by
    have hstop (hkept : ∀ e ∈ (s.port p).sequence.head?, (s.port p).unsent s.inhibit e = false) (q : PortNum) :
        s.port q = if p = q then withoutHeads s.inhibit (s.port q) else s.port q := by
      split
      · next hpq =>
        subst hpq
        exact (withoutHeads_of_kept hkept).symm
      · rfl
    have hgo {c : PortCounter} {e : Entry} {es : List Entry} (hseq : (s.port p).sequence = e :: es)
        (hport : withoutHeads s.inhibit (Port.withDrops c 1 { s.port p with sequence := es })
          = withoutHeads s.inhibit (s.port p)) :
        (∀ q, (discardHeadsUpTo n p (dropHead p (bumpPort p c 1 s))).port q
            = if p = q then withoutHeads s.inhibit (s.port q) else s.port q)
          ∧ SlotsFollow s (discardHeadsUpTo n p (dropHead p (bumpPort p c 1 s))) := by
      have hself := (port_dropHead_bump p p c s).trans (if_pos rfl)
      rw [hseq, List.tail_cons] at hself
      obtain ⟨hports, hslots⟩ := discardHeadsUpTo_leaves p n (dropHead p (bumpPort p c 1 s)) (by
        rw [hself]
        have := hseq ▸ h
        exact Nat.le_of_succ_le_succ this)
      refine ⟨fun q => (hports q).trans ?_,
        (slotsFollow_bumpPort p c 1 s).trans ((slotsFollow_dropHead p _).trans hslots)⟩
      rw [inhibit_dropHead_bump]
      split
      · next hpq =>
        subst hpq
        rw [hself, hport]
      · next hpq => rw [port_dropHead_bump, if_neg hpq]
    unfold discardHeadsUpTo
    cases hseq : (s.port p).sequence with
    | nil =>
      rw [headDiscard_nil hseq]
      exact ⟨hstop (by simp [hseq]), .refl s⟩
    | cons e es =>
      rw [headDiscard_cons hseq]
      cases hinhibit : (s.port p).inhibitDrop s.inhibit e with
      | true => exact hgo hseq (withoutHeads_inhibitDrop hseq hinhibit)
      | false =>
        cases hlink : (s.port p).linkDrop s.inhibit e with
        | true => exact hgo hseq (withoutHeads_linkDrop hseq hlink hinhibit)
        | false => exact ⟨hstop (by simp [hseq, Port.unsent, hinhibit, hlink]), .refl s⟩

theorem port_discardHeads (p q : PortNum) (s : State) : (discardHeads p s).port q
    = if p = q then withoutHeads s.inhibit (s.port q) else s.port q :=
  (discardHeadsUpTo_leaves p _ s (Nat.le_refl _)).1 q

theorem slotsFollow_discardHeads (p : PortNum) (s : State) : SlotsFollow s (discardHeads p s) :=
  (discardHeadsUpTo_leaves p _ s (Nat.le_refl _)).2

/-! ## What is left of the port -/

theorem core_withoutHeads (inhibit : InhibitState) (x : Port) : (withoutHeads inhibit x).core = x.core
    ∧ (withoutHeads inhibit x).controlQueue = x.controlQueue ∧ (withoutHeads inhibit x).inbox = x.inbox
    ∧ QueuesKept x (withoutHeads inhibit x) := ⟨rfl, rfl, rfl, rfl, rfl, rfl, rfl⟩

theorem row_withoutHeads (d : PortCounter) (inhibit : InhibitState) (x : Port) :
    row (withoutHeads inhibit x).counters d.index
      = if d = .linkDownFlush then drops (row x.counters d.index) ((headsOut inhibit x).countP (x.linkDrop inhibit))
        else if d = .inhibitDrops then drops (row x.counters d.index) ((headsOut inhibit x).countP (x.inhibitDrop inhibit))
        else row x.counters d.index := by
  simp only [withoutHeads, row_withDrops, portCounter_index_eq_iff]
  split
  · next h => rw [if_neg (by rw [h]; decide)]
  · rfl

/-- The heads that leave a port `b` are counted beside the drops that `b` counts already over `x`. -/
theorem headsLeft_withoutHeads {m n : Nat} (hcore : ∀ e, b.unsent inhibit e = x.unsent inhibit e)
    (hlink : ∀ e, b.linkDrop inhibit e = x.linkDrop inhibit e)
    (hinhibit : ∀ e, b.inhibitDrop inhibit e = x.inhibitDrop inhibit e) (hsequence : b.sequence = x.sequence)
    (hm : row b.counters PortCounter.linkDownFlush.index = drops (row x.counters PortCounter.linkDownFlush.index) m)
    (hn : row b.counters PortCounter.inhibitDrops.index = drops (row x.counters PortCounter.inhibitDrops.index) n) :
    HeadsLeft x inhibit m n (withoutHeads inhibit b) := by
  have hout : headsOut inhibit b = x.sequence.takeWhile (x.unsent inhibit) := by
    rw [headsOut, hsequence, funext hcore]
  refine ⟨?_, ?_, ?_⟩
  · show b.sequence.dropWhile (b.unsent inhibit) = _
    rw [hsequence, funext hcore]
  · rw [row_withoutHeads, if_pos rfl, hout, hm, drops_drops, funext hlink]
  · rw [row_withoutHeads, if_neg (by decide), if_pos rfl, hout, hn, drops_drops, funext hinhibit]

end Sys2Proof.Proofs
end

section
/-! SUPPORT. The link-down flush followed by the departure of unsent heads, and links that come and go (R14 to R17, R109,
R115). -/

/-! One theorem is checked after another, as in the tests, which bounds the threads that the whole text takes. -/
set_option Elab.async false

namespace Sys2Proof.Proofs

open Sys2Proof Sys2Proof.Machine

variable {s t u : State} {p q : PortNum} {k : SlotNum} {c : PortCounter} {x y b : Port} {inhibit : InhibitState}

/-! ## A flush where it is in force, then the heads -/

/-- Two ports that agree in what a flush of the class queues and the departure of heads look at. -/
structure SameTraffic (x b : Port) : Prop where
  queues : QueuesKept x b
  flow : b.flow = x.flow
  sequence : b.sequence = x.sequence
  mode : b.mode = x.mode
  link : b.link = x.link
  settings : b.settings = x.settings

/-- A port once the link-down flush has been taken where it is in force, and its unsent heads have left. -/
def flushedThenTidied (inhibit : InhibitState) (flush : Bool) (x : Port) : Port :=
  withoutHeads inhibit (if flush then flushedBy .linkDownFlush x else x)

theorem flushes_iff : s.flushInForce p = true ↔ (s.port p).flushes s.inhibit := by
  rw [flushInForce_iff]
  rfl

theorem flushedThenTidied_true (inhibit : InhibitState) (x : Port) :
    flushedThenTidied inhibit true x = withoutHeads inhibit (flushedBy .linkDownFlush x) := rfl

theorem flushedThenTidied_false (inhibit : InhibitState) (x : Port) :
    flushedThenTidied inhibit false x = withoutHeads inhibit x := rfl

theorem queuesFlushed_withoutHeads (h : QueuesFlushed x y) : QueuesFlushed x (withoutHeads inhibit y) := by
  obtain ⟨-, -, -, hqueues, hholding, howed, hrefresh⟩ := core_withoutHeads inhibit y
  simpa only [QueuesFlushed, hqueues, hholding, howed, hrefresh] using h

theorem queuesKept_withoutHeads (h : QueuesKept x y) : QueuesKept x (withoutHeads inhibit y) := by
  obtain ⟨-, -, -, hqueues, hholding, howed, hrefresh⟩ := core_withoutHeads inhibit y
  simpa only [QueuesKept, hqueues, hholding, howed, hrefresh] using h

theorem port_linkDownFlush (p q : PortNum) (s : State) : (linkDownFlush p s).port q
    = if p = q then (if s.flushInForce p then flushedBy .linkDownFlush (s.port q) else s.port q) else s.port q := by
  unfold linkDownFlush
  split
  · rw [flushQueues_eq, State.port_updPort]
    split
    · next hpq => rw [hpq]
    · rfl
  · rw [ite_self]

theorem inhibit_linkDownFlush (p : PortNum) (s : State) : (linkDownFlush p s).inhibit = s.inhibit := by
  obtain ⟨_, _, _, _, _, _, h⟩ := linkDownFlush_portFrame p s
  rw [h]

theorem port_flushThenDiscard (p q : PortNum) (s : State) : (discardHeads p (linkDownFlush p s)).port q
    = if p = q then flushedThenTidied s.inhibit (s.flushInForce p) (s.port q) else s.port q := by
  rw [port_discardHeads, port_linkDownFlush, inhibit_linkDownFlush]
  split <;> rfl

theorem slotsFollow_linkDownFlush (p : PortNum) (s : State) : SlotsFollow s (linkDownFlush p s) := by
  refine .of_same (fun k => ?_) fun q => ?_
  · unfold linkDownFlush
    split
    · rw [flushQueues_eq, State.slot_updPort]
    · rfl
  · rw [port_linkDownFlush]
    split
    · split
      · exact (core_flushedBy _ _).2.1
      · rfl
    · rfl

theorem slotsFollow_flushThenDiscard (p : PortNum) (s : State) : SlotsFollow s (discardHeads p (linkDownFlush p s)) :=
  (slotsFollow_linkDownFlush p s).trans (slotsFollow_discardHeads p _)

theorem queuesFlushed_of_sameTraffic (h : SameTraffic x b) (c : PortCounter) : QueuesFlushed x (flushedBy c b) := by
  obtain ⟨⟨hqueues, hholding, howed, hrefresh⟩, hflow, -⟩ := h
  have hflushed := queuesFlushed_flushedBy c b
  simpa only [QueuesFlushed, Port.holdsAt, hqueues, hholding, howed, hrefresh, hflow] using hflushed

theorem queued_of_sameTraffic (h : SameTraffic x b) : b.queued = x.queued := by
  simp only [Port.queued, h.queues.1]

theorem inhibitDrop_of_sameTraffic (h : SameTraffic x b) : b.inhibitDrop inhibit = x.inhibitDrop inhibit := by
  funext e
  simp only [Port.inhibitDrop, h.mode]

theorem linkDrop_of_sameTraffic (h : SameTraffic x b) : b.linkDrop inhibit = x.linkDrop inhibit := by
  funext e
  simp only [Port.linkDrop, inhibitDrop_of_sameTraffic h, h.mode, h.link, h.settings]

/-- The heads that leave a port are counted beside the drops counted already. -/
theorem headsLeft_of_sameTraffic {m n : Nat} (h : SameTraffic x b)
    (hm : row b.counters PortCounter.linkDownFlush.index = drops (row x.counters PortCounter.linkDownFlush.index) m)
    (hn : row b.counters PortCounter.inhibitDrops.index = drops (row x.counters PortCounter.inhibitDrops.index) n) :
    HeadsLeft x inhibit m n (withoutHeads inhibit b) := by
  have hlink := linkDrop_of_sameTraffic (inhibit := inhibit) h
  have hinhibit := inhibitDrop_of_sameTraffic (inhibit := inhibit) h
  exact headsLeft_withoutHeads (fun e => by simp only [Port.unsent, hlink, hinhibit]) (congrFun hlink) (congrFun hinhibit)
    h.sequence hm hn

/-- The whole effect on the queues and the sequence, over the port `x` that the drops are counted from. -/
theorem flushedThenTidied_effect {m n : Nat} (h : SameTraffic x b)
    (hm : row b.counters PortCounter.linkDownFlush.index = drops (row x.counters PortCounter.linkDownFlush.index) m)
    (hn : row b.counters PortCounter.inhibitDrops.index = drops (row x.counters PortCounter.inhibitDrops.index) n) :
    (QueuesFlushed x (flushedThenTidied inhibit true b)
        ∧ HeadsLeft x inhibit (m + x.queued) n (flushedThenTidied inhibit true b))
      ∧ (QueuesKept x (flushedThenTidied inhibit false b) ∧ HeadsLeft x inhibit m n (flushedThenTidied inhibit false b)) := by
  rw [flushedThenTidied_true, flushedThenTidied_false]
  refine ⟨⟨queuesFlushed_withoutHeads (queuesFlushed_of_sameTraffic h .linkDownFlush), ?_⟩,
    queuesKept_withoutHeads h.queues, headsLeft_of_sameTraffic h hm hn⟩
  obtain ⟨hcore, hsequence, -, -⟩ := core_flushedBy .linkDownFlush b
  have hcounters := counters_flushedBy .linkDownFlush b
  have hrow (d : PortCounter) : row (flushedBy .linkDownFlush b).counters d.index
      = if PortCounter.linkDownFlush.index = d.index then drops (row b.counters d.index) b.queued
        else row b.counters d.index := by rw [hcounters, row_withDrops]
  refine headsLeft_withoutHeads (congrFun ?_) (congrFun ?_) (congrFun ?_) (hsequence.trans h.sequence) ?_ ?_
  · rw [unsent_congr hcore]
    funext e
    simp only [Port.unsent, linkDrop_of_sameTraffic h, inhibitDrop_of_sameTraffic h]
  · rw [linkDrop_congr hcore, linkDrop_of_sameTraffic h]
  · rw [inhibitDrop_congr hcore, inhibitDrop_of_sameTraffic h]
  · rw [hrow, if_pos rfl, hm, drops_drops, queued_of_sameTraffic h]
  · rw [hrow, if_neg (by decide), hn]

/-- What a flush and the departure of heads leave of the port. -/
theorem core_flushedThenTidied (inhibit : InhibitState) (flush : Bool) (x : Port) :
    (flushedThenTidied inhibit flush x).core = x.core
      ∧ (flushedThenTidied inhibit flush x).controlQueue = x.controlQueue
      ∧ (flushedThenTidied inhibit flush x).inbox = x.inbox
      ∧ SameCountersBut [.linkDownFlush, .inhibitDrops] x (flushedThenTidied inhibit flush x) := by
  have hheads (y : Port) (d : PortCounter) (hd : d ∉ [PortCounter.linkDownFlush, .inhibitDrops]) :
      row (withoutHeads inhibit y).counters d.index = row y.counters d.index := by
    simp only [List.mem_cons, List.not_mem_nil, or_false, not_or] at hd
    rw [row_withoutHeads, if_neg hd.1, if_neg hd.2]
  cases flush with
  | false =>
    rw [flushedThenTidied_false]
    obtain ⟨hcore, hcontrol, hinbox, -⟩ := core_withoutHeads inhibit x
    exact ⟨hcore, hcontrol, hinbox, hheads x⟩
  | true =>
    rw [flushedThenTidied_true]
    obtain ⟨hcore, -, hcontrol, hinbox⟩ := core_flushedBy .linkDownFlush x
    obtain ⟨gcore, gcontrol, ginbox, -⟩ := core_withoutHeads inhibit (flushedBy .linkDownFlush x)
    refine ⟨gcore.trans hcore, gcontrol.trans hcontrol, ginbox.trans hinbox, fun d hd => (hheads _ d hd).trans ?_⟩
    rw [counters_flushedBy, row_withDrops, if_neg]
    simp only [List.mem_cons, List.not_mem_nil, or_false, not_or] at hd
    exact fun h => hd.1 (portCounter_index_eq_iff.mp h)

end Sys2Proof.Proofs
end

section
/-! SUPPORT. What the event list keeps while other events are raised (R174, R175), and links that come and go (R14 to R17,
R109, R115). -/

/-! One theorem is checked after another, as in the tests, which bounds the threads that the whole text takes. -/
set_option Elab.async false

namespace Sys2Proof.Proofs

open Sys2Proof Sys2Proof.Machine

variable {s t u : State} {p q : PortNum} {k : SlotNum} {c : PortCounter} {x y b : Port} {inhibit : InhibitState}
variable {M N : EventKind → EventSource → Prop} {kind : EventKind} {source : EventSource} {detail : BitVec 16}

/-! ## Events that stand in their places -/

/-- Entries of the event list stay in their places unless their kind and source is one of those raised; only such entries
join the list, an event that was lost stays lost, and the mask stands (R174, R175). -/
structure EventsStand (M : EventKind → EventSource → Prop) (s t : State) : Prop where
  stay : ∀ (i : Nat) e, s.events[i]? = some e → ¬M e.kind e.source → t.events[i]? = some e
  old : ∀ e ∈ t.events, ¬M e.kind e.source → e ∈ s.events
  lost : s.eventsLost = true → t.eventsLost = true
  mask : t.eventMask = s.eventMask

theorem EventsStand.of_same (hevents : t.events = s.events) (hlost : t.eventsLost = s.eventsLost)
    (hmask : t.eventMask = s.eventMask) : EventsStand M s t :=
  ⟨fun _ _ h _ => hevents ▸ h, fun _ h _ => hevents ▸ h, fun h => hlost ▸ h, hmask⟩

theorem EventsStand.refl (s : State) : EventsStand M s s := .of_same rfl rfl rfl

theorem EventsStand.trans (h : EventsStand M s t) (g : EventsStand M t u) : EventsStand M s u :=
  ⟨fun i e hi he => g.stay i e (h.stay i e hi he) he, fun e hi he => h.old e (g.old e hi he) he, fun hl => g.lost (h.lost hl),
    g.mask.trans h.mask⟩

theorem EventsStand.mono (h : EventsStand M s t) (hM : ∀ kind source, M kind source → N kind source) : EventsStand N s t :=
  ⟨fun i e hi he => h.stay i e hi fun hm => he (hM _ _ hm), fun e hi he => h.old e hi fun hm => he (hM _ _ hm), h.lost, h.mask⟩

/-- An entry that is not of the kinds raised stays in the list. -/
theorem EventsStand.mem {e : Event} (h : EventsStand M s t) (he : e ∈ s.events) (hM : ¬M e.kind e.source) : e ∈ t.events := by
  obtain ⟨i, hi⟩ := List.mem_iff_getElem?.mp he
  exact List.mem_of_getElem? (h.stay i e hi hM)

theorem raiseEvent_eventsStand (hM : M kind source) (detail : BitVec 16) (s : State) :
    EventsStand M s (raiseEvent kind source detail s) := by
  have hother {e : Event} (he : ¬M e.kind e.source) : ¬(e.kind = kind ∧ e.source = source) := fun h =>
    he (by rw [h.1, h.2]; exact hM)
  obtain ⟨-, h⟩ | ⟨-, -, h⟩ | ⟨-, -, -, h⟩ | ⟨-, -, -, h⟩ := raiseEvent_cases kind source detail s <;> rw [h]
  · exact .refl s
  · have hmerged {e : Event} (he : ¬(e.kind = kind ∧ e.source = source)) : e.merged kind source = e := by
      simp [Event.merged, Event.sameAs, he]
    refine ⟨fun i e hi he => ?_, fun e hi he => ?_, id, rfl⟩
    · simp only [List.getElem?_map, hi, Option.map_some, hmerged (hother he)]
    · obtain ⟨g, hg, rfl⟩ := List.mem_map.mp hi
      have hsame : (g.merged kind source).kind = g.kind ∧ (g.merged kind source).source = g.source := by
        unfold Event.merged
        split <;> exact ⟨rfl, rfl⟩
      have hne := hother he
      rw [hsame.1, hsame.2] at hne
      rwa [hmerged hne]
  · refine ⟨fun i e hi _ => ?_, fun e hi he => ?_, id, rfl⟩
    · exact List.getElem?_append_left (List.getElem?_eq_some_iff.mp hi).1 ▸ hi
    · obtain hi | hi := List.mem_append.mp hi
      · exact hi
      · rw [List.mem_singleton.mp hi] at he
        exact absurd hM he
  · exact ⟨fun _ _ h _ => h, fun _ h _ => h, fun _ => rfl, rfl⟩

theorem foldl_eventsStand {α : Type} {f : State → α → State} (h : ∀ s x, EventsStand M s (f s x)) (xs : List α) (s : State) :
    EventsStand M s (xs.foldl f s) :=
  foldl_keeps (EventsStand M s) f (fun _ x ht => ht.trans (h _ x)) xs s (.refl s)

/-- An event that is new enters the list, or the list has no room and the event is lost. -/
theorem mem_raiseEvent_or_lost (hmask : s.eventMask = BitVec.allOnes 21)
    (hnew : ∀ e ∈ s.events, ¬(e.kind = kind ∧ e.source = source)) :
    { kind := kind, source := source, count := 1, detail := detail } ∈ (raiseEvent kind source detail s).events
      ∨ (raiseEvent kind source detail s).eventsLost = true := by
  have hbit : s.eventMask.getLsbD kind.code = true := by rw [hmask]; cases kind <;> rfl
  obtain ⟨hmasked, -⟩ | ⟨-, ⟨e, he, hsame⟩, h⟩ | ⟨-, -, -, h⟩ | ⟨-, -, hfull, h⟩ := raiseEvent_cases kind source detail s
  · simp [hbit] at hmasked
  · exact absurd hsame (hnew e he)
  · rw [h]
    exact .inl (List.mem_append_right _ (List.mem_singleton_self _))
  · rw [h]
    exact .inr rfl

/-! ## Slots retired -/

/-- A slot that ends its service is the only source of events of entries that leave (R78). -/
def Retires (kind : EventKind) (_ : EventSource) : Prop := kind = .keyRetired

theorem retireSlot_eventsStand (k : SlotNum) (s : State) : EventsStand Retires s (retireSlot k s) :=
  .trans (t := emptySlot k s) (.of_same rfl rfl rfl) (raiseEvent_eventsStand rfl ..)

theorem releaseEntry_eventsStand (e : Entry) (s : State) : EventsStand Retires s (releaseEntry e s) := by
  unfold releaseEntry
  split
  · next k _ =>
    obtain ⟨-, -, h⟩ | ⟨-, h⟩ := releaseSlot_cases k s <;> rw [h]
    · exact retireSlot_eventsStand ..
    · exact .of_same rfl rfl rfl
  · exact .refl s

theorem dropHead_eventsStand (p : PortNum) (s : State) : EventsStand Retires s (dropHead p s) := by
  unfold dropHead
  split
  · exact .refl s
  · exact .trans (t := s.updPort p _) (.of_same rfl rfl rfl) (releaseEntry_eventsStand ..)

theorem removeEntries_eventsStand (p : PortNum) (test : Entry → Bool) (c : PortCounter) (s : State) :
    EventsStand Retires s (removeEntries p test c s) :=
  .trans (t := s.updPort p _) (.of_same rfl rfl rfl)
    (foldl_eventsStand (fun s e => .trans (t := bumpPort p c 1 s) (.of_same rfl rfl rfl) (releaseEntry_eventsStand e _)) _ _)

theorem discardHeadsUpTo_eventsStand (p : PortNum) : ∀ (n : Nat) (s : State), EventsStand Retires s (discardHeadsUpTo n p s)
  | 0, s => .refl s
  | n + 1, s => by
    unfold discardHeadsUpTo
    split
    · next c _ =>
      exact .trans (t := bumpPort p c 1 s) (.of_same rfl rfl rfl)
        ((dropHead_eventsStand p _).trans (discardHeadsUpTo_eventsStand p n _))
    · exact .refl s

theorem discardHeads_eventsStand (p : PortNum) (s : State) : EventsStand Retires s (discardHeads p s) :=
  discardHeadsUpTo_eventsStand ..

theorem flushQueues_eventsStand (p : PortNum) (c : PortCounter) (s : State) : EventsStand M s (flushQueues p c s) := by
  rw [flushQueues_eq]
  exact .of_same rfl rfl rfl

theorem linkDownFlush_eventsStand (p : PortNum) (s : State) : EventsStand M s (linkDownFlush p s) := by
  unfold linkDownFlush
  split
  · exact flushQueues_eventsStand ..
  · exact .refl s

/-! ## The C-side link is lost (R14 to R16) -/

theorem setCampusPin_eq (p : PortNum) (good : Bool) (s : State) :
    setCampusPin p good s = { s with pins := { s.pins with campusLink := setRow s.pins.campusLink p good } } := rfl

/-- The frame in transmission is cut off, and counted (R15). -/
def withoutCampusTx (x : Port) : Port :=
  Port.withDrops .linkDownFlush (if x.campusTx = none then 0 else 1) { x with campusTx := none }

/-- The link is DOWN, and no campus pause stands (R14, R118). -/
def withoutLink (x : Port) : Port := { x with link := .down, campusPause := Vector.replicate 8 0 }

/-- A port whose link is lost, with the frame that was cut off counted. -/
def portCutOff (x : Port) : Port := withoutCampusTx (withoutLink x)

/-- The state in which the link of a port is DOWN and its transmitter cut off, before its queues are looked at. -/
def linkCut (p : PortNum) (s : State) : State :=
  cutCampusTx p (if (s.port p).link = .up then raiseEvent .linkDown (.port p) 0 (s.updPort p withoutLink)
    else s.updPort p withoutLink)

theorem loseLink_eq (p : PortNum) (s : State) : loseLink p s = discardHeads p (linkDownFlush p (linkCut p s)) := rfl

theorem cutCampusTx_eq (p : PortNum) (s : State) : cutCampusTx p s = s.updPort p withoutCampusTx := by
  unfold cutCampusTx
  split
  · next h =>
    rw [bumpPort_one, updPort_updPort]
    refine updPort_congr ?_
    simp only [withoutCampusTx, h, reduceCtorEq, if_false]
    rfl
  · next h =>
    refine (State.updPort_self s p ?_).symm
    simp only [withoutCampusTx, h, if_true, withDrops_zero]
    rw [← h]

theorem linkCut_eq (p : PortNum) (s : State) : ∃ events lost, linkCut p s
    = { s.updPort p portCutOff with events := events, eventsLost := lost } := by
  have hcut : (s.updPort p withoutLink).updPort p withoutCampusTx = s.updPort p portCutOff := updPort_updPort ..
  unfold linkCut
  rw [cutCampusTx_eq]
  split
  · obtain ⟨events, lost, h⟩ := raiseEvent_lists .linkDown (.port p) 0 (s.updPort p withoutLink)
    rw [h, ← hcut]
    exact ⟨events, lost, rfl⟩
  · rw [hcut]
    exact ⟨_, _, rfl⟩

theorem linkDown_linkCut (hup : (s.port p).link = .up) (hevents : s.events = []) (hmask : s.eventMask = BitVec.allOnes 21) :
    { kind := .linkDown, source := .port p, count := 1, detail := 0 } ∈ (linkCut p s).events := by
  have hraised := events_raiseEvent_new (kind := .linkDown) (source := .port p) (detail := 0)
    (s := s.updPort p withoutLink) hmask
    (by simp [State.updPort, hevents]) (by simp [State.updPort, hevents])
  unfold linkCut
  rw [if_pos hup, cutCampusTx_eq]
  show _ ∈ (raiseEvent .linkDown (.port p) 0 _).events
  rw [hraised]
  exact List.mem_append_right _ (List.mem_singleton_self _)

theorem exec_linkLost (hreset : s.pins.resetLow = false) (hlink : (s.port p).link ≠ .down) :
    exec (.linkLost p) s = .next (loseLink p (setCampusPin p false s)) := by
  show execLinkLost p s = _
  simp [execLinkLost, hreset, hlink]

theorem port_linkCut (p q : PortNum) (s : State) :
    (linkCut p s).port q = if p = q then portCutOff (s.port q) else s.port q := by
  obtain ⟨events, lost, h⟩ := linkCut_eq p s
  rw [h]
  show (s.updPort p portCutOff).port q = _
  rw [State.port_updPort]
  split
  · next hpq => rw [hpq]
  · rfl

theorem sameTraffic_portCutOff (x : Port) : SameTraffic { x with link := .down } (portCutOff x) :=
  ⟨⟨rfl, rfl, rfl, rfl⟩, rfl, rfl, rfl, rfl, rfl⟩

/-- The port and the slots once its link is lost. -/
theorem loseLink_effect (p : PortNum) (s : State) :
    (let t := loseLink p s
     let x : Port := { s.port p with link := .down }
     let cut := if (s.port p).campusTx = none then 0 else 1
     (x.flushes s.inhibit → QueuesFlushed x (t.port p) ∧ HeadsLeft x s.inhibit (cut + x.queued) 0 (t.port p))
      ∧ (¬x.flushes s.inhibit → QueuesKept x (t.port p) ∧ HeadsLeft x s.inhibit cut 0 (t.port p))
      ∧ SameCountersBut [.linkDownFlush, .inhibitDrops] (s.port p) (t.port p)
      ∧ (t.port p).core = (portCutOff (s.port p)).core
      ∧ (t.port p).controlQueue = (s.port p).controlQueue ∧ (t.port p).inbox = (s.port p).inbox
      ∧ SlotsFollow s t ∧ (∀ q, q ≠ p → t.port q = s.port q)
      ∧ t.assocs = s.assocs ∧ t.steering = s.steering ∧ t.pins = s.pins) := by
  obtain ⟨events, lost, hcut⟩ := linkCut_eq p s
  have hinhibit : (linkCut p s).inhibit = s.inhibit := by
    rw [hcut]
    rfl
  have hport (q : PortNum) : (loseLink p s).port q
      = if p = q then flushedThenTidied s.inhibit ((linkCut p s).flushInForce p) (portCutOff (s.port q)) else s.port q := by
    rw [loseLink_eq, port_flushThenDiscard, port_linkCut, hinhibit]
    split <;> rfl
  have hself := (hport p).trans (if_pos rfl)
  have hflushes : (linkCut p s).flushInForce p = true ↔ Port.flushes { s.port p with link := .down } s.inhibit := by
    rw [flushes_iff, port_linkCut, if_pos rfl, hinhibit]
    rfl
  obtain ⟨_, _, _, _, _, _, hframe⟩ :=
    (linkDownFlush_portFrame p (linkCut p s)).trans (discardHeads_portFrame p (linkDownFlush p (linkCut p s)))
  rw [← loseLink_eq, hcut] at hframe
  obtain ⟨hcore, hcontrol, hinbox, hcounters⟩ :=
    core_flushedThenTidied s.inhibit ((linkCut p s).flushInForce p) (portCutOff (s.port p))
  have hslots : SlotsFollow s (loseLink p s) := by
    refine .trans (t := linkCut p s) (.of_same (fun k => by rw [hcut]; rfl) fun q => ?_) (slotsFollow_flushThenDiscard p _)
    rw [port_linkCut]
    split <;> rfl
  intro t x cut
  have hdown : row (portCutOff (s.port p)).counters PortCounter.linkDownFlush.index
      = drops (row x.counters PortCounter.linkDownFlush.index) cut := (row_withDrops ..).trans (if_pos rfl)
  have hdrops : row (portCutOff (s.port p)).counters PortCounter.inhibitDrops.index
      = drops (row x.counters PortCounter.inhibitDrops.index) 0 := (row_withDrops ..).trans (if_neg (by decide))
  obtain ⟨hflushed, hkept⟩ :=
    flushedThenTidied_effect (inhibit := s.inhibit) (sameTraffic_portCutOff (s.port p)) hdown hdrops
  show (_ → QueuesFlushed x ((loseLink p s).port p) ∧ HeadsLeft x s.inhibit (cut + x.queued) 0 ((loseLink p s).port p)) ∧ _
  rw [hself]
  refine ⟨fun h => ?_, fun h => ?_, fun d hd => (hcounters d hd).trans ((row_withDrops ..).trans (if_neg fun h => ?_)),
    hcore, hcontrol, hinbox, hslots, fun q hq => (hport q).trans (if_neg hq.symm), ?_, ?_, ?_⟩
  · rw [hflushes.mpr h]
    exact hflushed
  · rw [Bool.eq_false_of_not_eq_true fun hf => h (hflushes.mp hf)]
    exact hkept
  · rw [portCounter_index_eq_iff.mp h] at hd
    simp at hd
  all_goals
    simp only [t, hframe]
    rfl

theorem linkLost_effect (hreset : s.pins.resetLow = false) (hlink : (s.port p).link ≠ .down) :
    ∃ t, exec (.linkLost p) s = .next t
      ∧ (t.port p).link = .down ∧ (t.port p).campusTx = none ∧ (∀ q, row (t.port p).campusPause q = 0)
      ∧ row t.pins.campusLink p = false
      ∧ ((s.port p).link = .up → s.events = [] → s.eventMask = BitVec.allOnes 21 →
          { kind := .linkDown, source := .port p, count := 1, detail := 0 } ∈ t.events)
      ∧ (let x : Port := { s.port p with link := .down }
         let cut := if (s.port p).campusTx = none then 0 else 1
         (x.flushes s.inhibit → QueuesFlushed x (t.port p) ∧ HeadsLeft x s.inhibit (cut + x.queued) 0 (t.port p))
         ∧ (¬x.flushes s.inhibit → QueuesKept x (t.port p) ∧ HeadsLeft x s.inhibit cut 0 (t.port p)))
      ∧ SameCountersBut [.linkDownFlush, .inhibitDrops] (s.port p) (t.port p)
      ∧ (t.port p).core
        = { s.port p with link := .down, campusTx := none, campusPause := Vector.replicate 8 0 }.core
      ∧ (t.port p).controlQueue = (s.port p).controlQueue ∧ (t.port p).inbox = (s.port p).inbox
      ∧ SlotsStandBut (fun _ => False) s t
      ∧ (∀ q, q ≠ p → t.port q = s.port q) ∧ t.assocs = s.assocs ∧ t.steering = s.steering := by
  obtain ⟨hflushed, hkept, hcounters, hcore, hcontrol, hinbox, hslots, hports, hassocs, hsteering, hpins⟩ :=
    loseLink_effect p (setCampusPin p false s)
  obtain ⟨-, hdown, -, -, -, htx, hpause⟩ := fields_of_core hcore
  refine ⟨_, exec_linkLost hreset hlink, hdown, htx, fun q => ?pause, ?pin, fun hup hevents hmask => ?event,
    ⟨hflushed, hkept⟩, hcounters, hcore, hcontrol, hinbox, hslots.stand, hports, hassocs, hsteering⟩
  case pause =>
    rw [hpause]
    exact row_replicate ..
  case pin =>
    rw [hpins]
    exact row_setRow_self ..
  case event =>
    rw [loseLink_eq]
    refine ((linkDownFlush_eventsStand p _).trans (discardHeads_eventsStand p _)).mem
      (linkDown_linkCut (s := setCampusPin p false s) hup hevents hmask) ?_
    simp [Retires]

/-! ## The R-side link (R115) -/

theorem rackLinkLost_effect (hreset : s.pins.resetLow = false) (hlink : row s.pins.rackLink p = true) :
    ∃ t, exec (.rackLinkLost p) s = .next t
      ∧ t.pins = { s.pins with rackLink := setRow s.pins.rackLink p false }
      ∧ t.port p = { s.port p with
          rackTx := none
          pauseOwed := (s.port p).pauseOwed || (match (s.port p).rackTx with | some (.pause _) => true | _ => false) }
      ∧ (∀ q, q ≠ p → t.port q = s.port q) ∧ { t with pins := s.pins, ports := s.ports } = s := by
  show ∃ t, execRackLinkLost p s = .next t ∧ _
  have hhigh : ¬s.pins.resetLow = true := by simp [hreset]
  have hgood : ¬row s.pins.rackLink p = false := by simp [hlink]
  cases htx : (s.port p).rackTx with
  | none =>
    have hexec : execRackLinkLost p s = .next (setRackPin p false s) := by
      simp only [execRackLinkLost, if_neg hhigh, if_neg hgood, htx]
    refine ⟨_, hexec, rfl, ?_, fun _ _ => rfl, rfl⟩
    simp only [Bool.or_false, ← htx]
    rfl
  | some tx =>
    cases tx with
    | pause frame =>
      have hexec : execRackLinkLost p s
          = .next ((setRackPin p false s).updPort p fun x => { x with rackTx := none, pauseOwed := true }) := by
        simp only [execRackLinkLost, if_neg hhigh, if_neg hgood, htx]
      refine ⟨_, hexec, rfl, ?_, fun q hq => ?_, rfl⟩
      · simp only [Bool.or_true]
        exact State.port_updPort_self ..
      · exact State.port_updPort_ne _ _ hq.symm
    | returned frame =>
      have hexec : execRackLinkLost p s
          = .next ((setRackPin p false s).updPort p fun x => { x with rackTx := none }) := by
        simp only [execRackLinkLost, if_neg hhigh, if_neg hgood, htx]
      refine ⟨_, hexec, rfl, ?_, fun q hq => ?_, rfl⟩
      · simp only [Bool.or_false]
        exact State.port_updPort_self ..
      · exact State.port_updPort_ne _ _ hq.symm

/-- Settles O14: the pieces of a lost link in the order in which the model takes them. -/
theorem linkChanges : Obligations.LinkChanges := by
  refine ⟨fun p s hreset => ⟨fun hdown => ?good, fun hsettling hlast => ?settled, fun hlink => linkLost_effect hreset hlink⟩,
    fun p s hreset => ⟨fun hlink => rackLinkLost_effect hreset hlink, fun hlink => ?rackGood⟩⟩
  case good =>
    show execLinkGood p s = _
    rw [execLinkGood, if_neg (by rw [hreset]; decide), if_pos hdown]
    rfl
  case settled =>
    show execLinkSettled p s = _
    rw [execLinkSettled, unlessHeld, if_neg (by rw [hreset]; decide), if_pos ⟨hsettling, hlast⟩]
    rfl
  case rackGood =>
    show execRackLinkGood p s = _
    rw [execRackLinkGood, if_neg (by rw [hreset]; decide), if_neg (by rw [hlink]; decide)]
    rfl

end Sys2Proof.Proofs
end

section
/-! SUPPORT. INHIBIT_ASSERT: the class queues, the marked heads and the exchanges under inhibit (R97, R105, R156, R187). -/

/-! One theorem is checked after another, as in the tests, which bounds the threads that the whole text takes. -/
set_option Elab.async false

namespace Sys2Proof.Proofs

open Sys2Proof Sys2Proof.Machine

variable {s t u : State} {p q : PortNum} {a b : Anum} {k : SlotNum} {c : PortCounter} {x y : Port}

/-! ## Folds over ports and associations -/

/-- A fold whose steps each act on a part of their own, by the same rule in every state that the fold meets, acts on each
part once. -/
theorem foldl_at {σ α β : Type} [DecidableEq α] {P : σ → Prop} {f : σ → α → σ} {g : σ → α → β} {h : α → β → β}
    (hP : ∀ s a, P s → P (f s a)) (hself : ∀ s a, P s → g (f s a) a = h a (g s a))
    (hne : ∀ s a b, b ≠ a → g (f s b) a = g s a) :
    ∀ (l : List α) (s : σ), l.Nodup → P s → ∀ a, g (l.foldl f s) a = if a ∈ l then h a (g s a) else g s a
  | [], s, _, _, a => by simp
  | b :: l, s, hnodup, hs, a => by
    obtain ⟨hb, hl⟩ := List.nodup_cons.mp hnodup
    rw [List.foldl_cons, foldl_at hP hself hne l _ hl (hP s b hs) a]
    by_cases hab : a = b
    · subst hab
      rw [if_neg hb, if_pos List.mem_cons_self, hself s a hs]
    · rw [hne s a b (Ne.symm hab)]
      simp [hab]

theorem nodup_allPorts : allPorts.Nodup := by decide

theorem mem_allPorts (p : PortNum) : p ∈ allPorts := by
  revert p
  decide

theorem nodup_allAnums : allAnums.Nodup := List.nodup_finRange 64

theorem mem_allAnums (a : Anum) : a ∈ allAnums := List.mem_finRange a

/-- What a fold over the ports does to each port. -/
theorem port_foldl {P : State → Prop} {f : State → PortNum → State} {h : Port → Port} (hP : ∀ s p, P s → P (f s p))
    (hself : ∀ s p, P s → (f s p).port p = h (s.port p)) (hne : ∀ s p q, q ≠ p → (f s q).port p = s.port p)
    (hs : P s) (p : PortNum) : (allPorts.foldl f s).port p = h (s.port p) :=
  (foldl_at (g := State.port) (h := fun _ => h) hP hself hne allPorts s nodup_allPorts hs p).trans
    (if_pos (mem_allPorts p))

/-! ## Frames -/

/-- The inhibit input touches ports, associations, slots with their lane work, and the event list (R187, R188). -/
def InhibitFrame (s t : State) : Prop :=
  ∃ ports assocs slots fifo lanes events lost, t = { s with
    ports := ports, assocs := assocs, slots := slots, expansionFifo := fifo, lanes := lanes, events := events
    eventsLost := lost }

theorem InhibitFrame.refl (s : State) : InhibitFrame s s := ⟨_, _, _, _, _, _, _, rfl⟩

theorem InhibitFrame.trans (h : InhibitFrame s t) (g : InhibitFrame t u) : InhibitFrame s u := by
  obtain ⟨_, _, _, _, _, _, _, rfl⟩ := h
  obtain ⟨_, _, _, _, _, _, _, rfl⟩ := g
  exact ⟨_, _, _, _, _, _, _, rfl⟩

theorem inhibitFrame_of_portFrame (h : PortFrame s t) : InhibitFrame s t := by
  obtain ⟨_, _, _, _, _, _, rfl⟩ := h
  exact ⟨_, _, _, _, _, _, _, rfl⟩

theorem foldl_inhibitFrame {α : Type} {f : State → α → State} (h : ∀ s x, InhibitFrame s (f s x)) (xs : List α) (s : State) :
    InhibitFrame s (xs.foldl f s) :=
  foldl_keeps (InhibitFrame s) f (fun _ x ht => ht.trans (h _ x)) xs s (.refl s)

theorem inhibit_of_inhibitFrame (h : InhibitFrame s t) : t.inhibit = s.inhibit := by
  obtain ⟨_, _, _, _, _, _, _, rfl⟩ := h
  rfl

theorem abandonExchange_inhibitFrame (cause : AbortCause) (s : State) (a : Anum) :
    InhibitFrame s (abandonExchange cause s a) := by
  obtain ⟨_, _, _, _, h⟩ := abandonExchange_lists cause s a
  exact ⟨_, _, _, _, _, _, _, h⟩

theorem inhibitFlush_portFrame (s : State) (p : PortNum) : PortFrame s (inhibitFlush s p) := by
  unfold inhibitFlush
  split
  · exact flushQueues_portFrame ..
  · exact .refl s

theorem markEntries_portFrame (s : State) (p : PortNum) : PortFrame s (markEntries s p) := updPort_portFrame ..

/-! ## The flush under inhibit -/

/-- A DISCARD port in PROTECT flushes its class queues (R187). -/
def inhibitFlushed (x : Port) : Port :=
  if x.mode = .protect ∧ x.settings.inhibitAction = .discard then flushedBy .inhibitDrops x else x

theorem inhibitFlush_eq (s : State) (p : PortNum) : inhibitFlush s p = s.updPort p inhibitFlushed := by
  unfold inhibitFlush
  split
  · next h =>
    rw [flushQueues_eq]
    exact updPort_congr (if_pos h).symm
  · next h => exact (State.updPort_self s p (if_neg h)).symm

theorem port_inhibitFlushes (s : State) (p : PortNum) :
    (allPorts.foldl inhibitFlush s).port p = inhibitFlushed (s.port p) := by
  refine port_foldl (P := fun _ => True) (fun _ _ _ => trivial) (fun s p _ => ?_) (fun s p q h => ?_) trivial p
  · rw [inhibitFlush_eq, State.port_updPort_self]
  · rw [inhibitFlush_eq, State.port_updPort_ne _ _ h]

/-! ## Marked entries -/

/-- The DONE entries of a port are marked (R97, R187). -/
def marked (x : Port) : Port := { x with sequence := x.sequence.map Entry.markDone }

theorem port_markEntries (s : State) (p : PortNum) : (allPorts.foldl markEntries s).port p = marked (s.port p) := by
  refine port_foldl (P := fun _ => True) (fun _ _ _ => trivial) (fun s p _ => ?_) (fun s p q h => ?_) trivial p
  · exact State.port_updPort_self ..
  · exact State.port_updPort_ne _ _ h

theorem inhibitDrop_markDone (x : Port) (inhibit : InhibitState) (e : Entry) :
    x.inhibitDrop inhibit e.markDone = (e.status == .done) := by
  unfold Entry.markDone
  split
  · next h => simp [Port.inhibitDrop, h]
  · next h => simp [Port.inhibitDrop, h]

theorem linkDrop_markDone (x : Port) (inhibit : InhibitState) (e : Entry) : x.linkDrop inhibit e.markDone = false := by
  have hstatus : e.markDone.status = e.status := by
    unfold Entry.markDone
    split <;> rfl
  rw [Port.linkDrop, inhibitDrop_markDone, hstatus]
  cases e.status == .done <;> rfl

/-- Marked heads leave as inhibit drops, whatever the port (R97, R98). -/
theorem unsent_markDone (x : Port) (inhibit : InhibitState) :
    x.unsent inhibit ∘ Entry.markDone = fun e => e.status == .done := by
  funext e
  simp only [Function.comp, Port.unsent, inhibitDrop_markDone, linkDrop_markDone, Bool.or_false]

theorem withoutHeads_marked {inhibit : InhibitState} {es : List Entry} (h : x.sequence = es.map Entry.markDone) :
    (withoutHeads inhibit x).sequence = (es.dropWhile fun e => e.status == .done).map Entry.markDone
      ∧ (withoutHeads inhibit x).counters
        = (Port.withDrops .inhibitDrops (es.takeWhile fun e => e.status == .done).length x).counters := by
  have hout : headsOut inhibit x = (es.takeWhile fun e => e.status == .done).map Entry.markDone := by
    rw [headsOut, h, List.takeWhile_map, unsent_markDone]
  have hlink : (headsOut inhibit x).countP (x.linkDrop inhibit) = 0 := by
    rw [hout, List.countP_map]
    exact List.countP_eq_zero.mpr fun e _ => by simp [linkDrop_markDone]
  have hinhibit : (headsOut inhibit x).countP (x.inhibitDrop inhibit)
      = (es.takeWhile fun e => e.status == .done).length := by
    rw [hout, List.countP_map]
    refine List.countP_eq_length.mpr fun e he => ?_
    simpa [inhibitDrop_markDone] using List.mem_takeWhile_imp he
  rw [withoutHeads, hlink, hinhibit, withDrops_zero]
  refine ⟨?_, rfl⟩
  show x.sequence.dropWhile (x.unsent inhibit) = _
  rw [h, List.dropWhile_map, unsent_markDone]

theorem against_markDone (k : SlotNum) (es : List Entry) : against k (es.map Entry.markDone) = against k es := by
  refine against_eq_of_body ?_
  rw [List.map_map]
  refine List.map_congr_left fun e _ => ?_
  simp only [Function.comp, Entry.markDone]
  split <;> rfl

/-! ## Exchanges abandoned -/

/-- The record once its exchange, if it has one, is abandoned (R156). -/
def unexchanged (x : Assoc) : Assoc := if x.attempt = none then x else exchangeEnded x

theorem assoc_abandonExchanges (cause : AbortCause) (s : State) (a : Anum) :
    (allAnums.foldl (abandonExchange cause) s).assoc a = unexchanged (s.assoc a) :=
  (foldl_at (P := fun _ => True) (g := State.assoc) (h := fun _ => unexchanged) (fun _ _ _ => trivial)
    (fun _ _ _ => assoc_abandonExchange_self) (fun _ _ _ h => assoc_abandonExchange_ne (Ne.symm h)) allAnums s
    nodup_allAnums trivial a).trans (if_pos (mem_allAnums a))

/-- An association has an exchange, and waits on a port if its notice does. -/
def exchangesOn (s : State) (p : PortNum) (a : Anum) : Bool := (s.assoc a).port == p && (s.assoc a).attempt.isSome

/-- A port with another control queue. -/
def withControlQueue (x : Port) (queue : List Anum) : Port := { x with controlQueue := queue }

theorem controlQueue_abandonExchange (cause : AbortCause) (s : State) (a : Anum) (p : PortNum) :
    (abandonExchange cause s a).port p = { s.port p with
      controlQueue := (s.port p).controlQueue.filter fun b => !(b == a && exchangesOn s p b) } := by
  rw [port_abandonExchange]
  split
  · next h =>
    have hon : exchangesOn s p a = true := by
      simp [exchangesOn, ← h.1, Option.isSome_iff_ne_none.mpr h.2]
    refine congrArg (withControlQueue (s.port p)) (List.filter_congr fun b _ => ?_)
    by_cases hb : b = a
    · simp [hb, hon]
    · simp [bne, beq_false_of_ne hb]
  · next h =>
    have hoff : exchangesOn s p a = false := by
      simp only [exchangesOn, Bool.and_eq_false_iff, beq_eq_false_iff_ne, Option.isSome_eq_false_iff, Option.isNone_iff_eq_none]
      by_contra hnot
      push Not at hnot
      exact h ⟨hnot.1.symm, hnot.2⟩
    refine congrArg (withControlQueue (s.port p)) ((List.filter_eq_self.mpr fun b _ => ?_).symm)
    by_cases hb : b = a
    · simp [hb, hoff]
    · simp [hb]

theorem exchangesOn_abandonExchange_ne {cause : AbortCause} (h : b ≠ a) (p : PortNum) :
    exchangesOn (abandonExchange cause s a) p b = exchangesOn s p b := by
  simp only [exchangesOn, assoc_abandonExchange_ne h]

/-- Of a port the ends of exchanges touch the control queue, which every association with an exchange leaves (R140). -/
theorem port_foldl_abandonExchange (cause : AbortCause) (p : PortNum) : ∀ (l : List Anum) (s : State), l.Nodup →
    (l.foldl (abandonExchange cause) s).port p = { s.port p with
      controlQueue := (s.port p).controlQueue.filter fun a => !(decide (a ∈ l) && exchangesOn s p a) }
  | [], s, _ => by simp
  | b :: l, s, hnodup => by
    obtain ⟨hb, hl⟩ := List.nodup_cons.mp hnodup
    rw [List.foldl_cons, port_foldl_abandonExchange cause p l _ hl, controlQueue_abandonExchange, List.filter_filter]
    refine congrArg (withControlQueue (s.port p)) (List.filter_congr fun a _ => ?_)
    by_cases hab : a = b
    · subst hab
      simp [hb]
    · rw [exchangesOn_abandonExchange_ne hab]
      simp [hab]

theorem port_abandonExchanges (cause : AbortCause) (s : State) (p : PortNum) :
    (allAnums.foldl (abandonExchange cause) s).port p = { s.port p with
      controlQueue := (s.port p).controlQueue.filter fun a => !exchangesOn s p a } := by
  rw [port_foldl_abandonExchange cause p allAnums s nodup_allAnums]
  simp only [mem_allAnums, decide_true, Bool.true_and]

/-! ### The events of exchanges abandoned -/

theorem abandonExchange_eventsStand {M : EventKind → EventSource → Prop} (hM : M .switchAborted (.assoc a))
    (cause : AbortCause) (s : State) : EventsStand M s (abandonExchange cause s a) := by
  by_cases h : (s.assoc a).attempt = none
  · rw [abandonExchange_none h]
    exact .refl s
  · rw [abandonExchange_eq h]
    exact .trans (t := endExchange a s) (.of_same rfl rfl rfl) (raiseEvent_eventsStand hM ..)

/-- The events that are not of an association. -/
def NotOf (a : Anum) (_ : EventKind) (source : EventSource) : Prop := source ≠ .assoc a

theorem foldl_abandonExchange_notOf (cause : AbortCause) (l : List Anum) (hl : a ∉ l) (s : State) :
    EventsStand (NotOf a) s (l.foldl (abandonExchange cause) s) ∧ (l.foldl (abandonExchange cause) s).assoc a = s.assoc a
      ∧ (l.foldl (abandonExchange cause) s).events.length ≤ s.events.length + l.length := by
  induction l generalizing s with
  | nil => exact ⟨.refl s, rfl, Nat.le_refl _⟩
  | cons b l ih =>
    obtain ⟨hab, hl⟩ := not_or.mp (mt List.mem_cons.mpr hl)
    obtain ⟨hstand, hassoc, hlength⟩ := ih hl (abandonExchange cause s b)
    have hstep : EventsStand (NotOf a) s (abandonExchange cause s b) :=
      abandonExchange_eventsStand (fun h => hab (EventSource.assoc.inj h).symm) cause s
    have hone := length_events_abandonExchange (cause := cause) (s := s) (a := b)
    refine ⟨hstep.trans hstand, hassoc.trans (assoc_abandonExchange_ne hab), ?_⟩
    rw [List.foldl_cons, List.length_cons]
    omega

/-- The exchange of one association ends in the middle of a fold: nothing of the association came before or comes after. -/
theorem abandonExchange_between (cause : AbortCause) {l : List Anum} (hnodup : l.Nodup) (ha : a ∈ l) (s : State) :
    ∃ u, EventsStand (NotOf a) s u ∧ u.assoc a = s.assoc a ∧ u.events.length + 1 ≤ s.events.length + l.length
      ∧ EventsStand (NotOf a) (abandonExchange cause u a) (l.foldl (abandonExchange cause) s) := by
  obtain ⟨before, after, rfl⟩ := List.append_of_mem ha
  obtain ⟨-, hafter, hapart⟩ := List.nodup_append.mp hnodup
  obtain ⟨hstand, hassoc, hlength⟩ :=
    foldl_abandonExchange_notOf cause before (fun h => hapart a h a List.mem_cons_self rfl) s
  obtain ⟨gstand, -⟩ := foldl_abandonExchange_notOf cause after (List.nodup_cons.mp hafter).1
    (abandonExchange cause (before.foldl (abandonExchange cause) s) a)
  rw [List.foldl_append, List.foldl_cons]
  refine ⟨_, hstand, hassoc, ?_, gstand⟩
  rw [List.length_append, List.length_cons]
  omega

/-- Every exchange abandoned is an event of its own, which the list takes or loses (R156, R175). -/
theorem switchAborted_abandonExchanges (cause : AbortCause) (hattempt : (s.assoc a).attempt ≠ none)
    (hmask : s.eventMask = BitVec.allOnes 21) (hnew : ∀ e ∈ s.events, ¬(e.kind = .switchAborted ∧ e.source = .assoc a)) :
    { kind := .switchAborted, source := .assoc a, count := 1, detail := cause.code }
        ∈ (allAnums.foldl (abandonExchange cause) s).events
      ∨ (allAnums.foldl (abandonExchange cause) s).eventsLost = true := by
  obtain ⟨u, hstand, hassoc, -, gstand⟩ := abandonExchange_between cause nodup_allAnums (mem_allAnums a) s
  have hraised : { kind := .switchAborted, source := .assoc a, count := 1, detail := cause.code }
        ∈ (abandonExchange cause u a).events ∨ (abandonExchange cause u a).eventsLost = true := by
    rw [abandonExchange_eq (hassoc ▸ hattempt)]
    refine mem_raiseEvent_or_lost (s := endExchange a u) (hstand.mask.trans hmask) fun e he hsame => ?_
    exact hnew e (hstand.old e he fun h => h hsame.2) hsame
  exact hraised.imp (fun h => gstand.mem h fun h => h rfl) gstand.lost

/-! ## INHIBIT_ASSERT -/

/-- The state in which the class queues are flushed and the DONE entries marked. -/
def inhibitMarked (s : State) : State :=
  allPorts.foldl markEntries (allPorts.foldl inhibitFlush (raiseEvent .inhibitOn .part 0 { s with inhibit := .asserted }))

/-- The state in which every exchange is abandoned too, before the marked heads leave. -/
def inhibitTaken (s : State) : State := allAnums.foldl (abandonExchange .inhibit) (inhibitMarked s)

theorem assertInhibit_eq (s : State) :
    assertInhibit s = allPorts.foldl (fun s p => discardHeads p s) (inhibitTaken s) := rfl

/-- A port after INHIBIT_ASSERT, before its marked heads leave. -/
def portInhibited (s : State) (p : PortNum) : Port :=
  withControlQueue (marked (inhibitFlushed (s.port p))) ((s.port p).controlQueue.filter fun a => !exchangesOn s p a)

theorem inhibitMarked_portFrame (s : State) : PortFrame { s with inhibit := .asserted } (inhibitMarked s) :=
  ((raiseEvent_portFrame ..).trans (foldl_portFrame _ inhibitFlush_portFrame _ _)).trans
    (foldl_portFrame _ markEntries_portFrame _ _)

theorem inhibitTaken_inhibitFrame (s : State) : InhibitFrame { s with inhibit := .asserted } (inhibitTaken s) :=
  (inhibitFrame_of_portFrame (inhibitMarked_portFrame s)).trans
    (foldl_inhibitFrame (abandonExchange_inhibitFrame .inhibit) _ _)

/-- Work on queues and sequences leaves the associations. -/
theorem assocs_of_portFrame (h : PortFrame s t) : t.assocs = s.assocs := by
  obtain ⟨_, _, _, _, _, _, rfl⟩ := h
  rfl

theorem assoc_inhibitMarked (s : State) (a : Anum) : (inhibitMarked s).assoc a = s.assoc a := by
  have hassocs := assocs_of_portFrame (inhibitMarked_portFrame s)
  rw [State.assoc, hassocs]
  rfl

theorem port_inhibitMarked (s : State) (p : PortNum) : (inhibitMarked s).port p = marked (inhibitFlushed (s.port p)) := by
  rw [inhibitMarked, port_markEntries, port_inhibitFlushes, State.port_raiseEvent]
  rfl

theorem controlQueue_inhibitFlushed (x : Port) : (inhibitFlushed x).controlQueue = x.controlQueue := by
  unfold inhibitFlushed
  split
  · exact (core_flushedBy .inhibitDrops x).2.2.1
  · rfl

theorem sequence_inhibitFlushed (x : Port) : (inhibitFlushed x).sequence = x.sequence := by
  unfold inhibitFlushed
  split
  · exact (core_flushedBy .inhibitDrops x).2.1
  · rfl

theorem inhibitFlushed_fields (x : Port) : (inhibitFlushed x).core = x.core ∧ (inhibitFlushed x).inbox = x.inbox
    ∧ (inhibitFlushed x).counters = (Port.withDrops .inhibitDrops
      (if x.mode = .protect ∧ x.settings.inhibitAction = .discard then x.queued else 0) x).counters := by
  unfold inhibitFlushed
  split
  · obtain ⟨hcore, -, -, hinbox⟩ := core_flushedBy .inhibitDrops x
    exact ⟨hcore, hinbox, counters_flushedBy ..⟩
  · exact ⟨rfl, rfl, by rw [withDrops_zero]⟩

theorem port_inhibitTaken (s : State) (p : PortNum) : (inhibitTaken s).port p = portInhibited s p := by
  rw [inhibitTaken, port_abandonExchanges, port_inhibitMarked]
  have hon : exchangesOn (inhibitMarked s) p = exchangesOn s p := funext fun a => by
    simp only [exchangesOn, assoc_inhibitMarked]
  rw [hon, portInhibited, withControlQueue, ← controlQueue_inhibitFlushed (s.port p)]
  rfl

theorem slots_inhibitTaken (s : State) : (inhibitTaken s).slots = s.slots := by
  have habandon (u : State) (a : Anum) : (abandonExchange .inhibit u a).slots = u.slots := by
    obtain ⟨_, _, _, _, h⟩ := abandonExchange_lists .inhibit u a
    rw [h]
  have hflush (u : State) (p : PortNum) : (inhibitFlush u p).slots = u.slots := by
    rw [inhibitFlush_eq]
    rfl
  obtain ⟨_, _, hraise⟩ := raiseEvent_lists .inhibitOn .part 0 { s with inhibit := .asserted }
  rw [inhibitTaken, foldl_same State.slots _ habandon, inhibitMarked, foldl_same State.slots markEntries fun _ _ => rfl,
    foldl_same State.slots _ hflush, hraise]

theorem discardAll_portFrame (s : State) : PortFrame s (allPorts.foldl (fun s p => discardHeads p s) s) :=
  foldl_portFrame _ (fun s p => discardHeads_portFrame p s) _ _

theorem port_discardAll (s : State) (p : PortNum) :
    (allPorts.foldl (fun s p => discardHeads p s) s).port p = withoutHeads s.inhibit (s.port p) := by
  refine port_foldl (P := fun t => t.inhibit = s.inhibit) (fun t p ht => ?_) (fun t p ht => ?_) (fun t p q h => ?_) rfl p
  · exact (inhibit_of_inhibitFrame (inhibitFrame_of_portFrame (discardHeads_portFrame p t))).trans ht
  · rw [port_discardHeads, if_pos rfl, ht]
  · rw [port_discardHeads, if_neg h]

theorem slotsFollow_discardAll (s : State) : SlotsFollow s (allPorts.foldl (fun s p => discardHeads p s) s) :=
  foldl_keeps (SlotsFollow s) _ (fun t p ht => ht.trans (slotsFollow_discardHeads p t)) _ _ (.refl s)

theorem discardAll_eventsStand (s : State) :
    EventsStand Retires s (allPorts.foldl (fun s p => discardHeads p s) s) :=
  foldl_eventsStand (fun s p => discardHeads_eventsStand p s) _ _

theorem port_assertInhibit (s : State) (p : PortNum) :
    (assertInhibit s).port p = withoutHeads .asserted (portInhibited s p) := by
  rw [assertInhibit_eq, port_discardAll, port_inhibitTaken, inhibit_of_inhibitFrame (inhibitTaken_inhibitFrame s)]

theorem queuesFlushed_marked (h : QueuesFlushed x y) (queue : List Anum) :
    QueuesFlushed x (withControlQueue (marked y) queue) := h

theorem queuesKept_marked (h : QueuesKept x y) (queue : List Anum) : QueuesKept x (withControlQueue (marked y) queue) := h

/-- What INHIBIT_ASSERT does to the queues, the sequence, the counters and the other fields of a port. -/
theorem port_assertInhibit_effect (s : State) (p : PortNum) :
    (((s.port p).mode = .protect ∧ (s.port p).settings.inhibitAction = .discard →
        QueuesFlushed (s.port p) ((assertInhibit s).port p))
      ∧ (¬((s.port p).mode = .protect ∧ (s.port p).settings.inhibitAction = .discard) →
        QueuesKept (s.port p) ((assertInhibit s).port p)))
    ∧ ((assertInhibit s).port p).sequence
      = ((s.port p).sequence.dropWhile fun e => e.status == .done).map Entry.markDone
    ∧ ((assertInhibit s).port p).counters = (Port.withDrops .inhibitDrops
        ((if (s.port p).mode = .protect ∧ (s.port p).settings.inhibitAction = .discard then (s.port p).queued else 0)
          + ((s.port p).sequence.takeWhile fun e => e.status == .done).length) (s.port p)).counters
    ∧ ((assertInhibit s).port p).controlQueue = (s.port p).controlQueue.filter (fun a => !exchangesOn s p a)
    ∧ ((assertInhibit s).port p).core = (s.port p).core ∧ ((assertInhibit s).port p).inbox = (s.port p).inbox := by
  rw [port_assertInhibit]
  obtain ⟨hcore, hinbox, hcounters⟩ := inhibitFlushed_fields (s.port p)
  obtain ⟨gcore, gcontrol, ginbox, -⟩ := core_withoutHeads .asserted (portInhibited s p)
  obtain ⟨hleft, hdrops⟩ := withoutHeads_marked (inhibit := .asserted) (x := portInhibited s p)
    (es := (s.port p).sequence) (congrArg (List.map Entry.markDone) (sequence_inhibitFlushed _))
  refine ⟨⟨fun h => queuesFlushed_withoutHeads ?_, fun h => queuesKept_withoutHeads ?_⟩, hleft, hdrops.trans ?_, gcontrol,
    gcore.trans hcore, ginbox.trans hinbox⟩
  · have hflush := queuesFlushed_flushedBy .inhibitDrops (s.port p)
    have hport : inhibitFlushed (s.port p) = flushedBy .inhibitDrops (s.port p) := by rw [inhibitFlushed, if_pos h]
    rw [portInhibited, hport]
    exact queuesFlushed_marked hflush _
  · have hkept : inhibitFlushed (s.port p) = s.port p := if_neg h
    rw [portInhibited, hkept]
    exact queuesKept_marked ⟨rfl, rfl, rfl, rfl⟩ _
  · rw [← withDrops_withDrops]
    simp only [Port.withDrops, portInhibited, withControlQueue, marked, hcounters]

theorem slotsFollow_assertInhibit (s : State) : SlotsFollow s (assertInhibit s) := by
  have htaken : SlotsFollow s (inhibitTaken s) := fun k => by
    refine ⟨0, ?_, ?_⟩
    · rw [Nat.add_zero]
      refine (entriesAgainst_congr fun p => ?_).symm
      rw [port_inhibitTaken]
      exact (against_markDone k _).trans (by rw [sequence_inhibitFlushed])
    · rw [State.slot, slots_inhibitTaken]
      rfl
  exact htaken.trans (slotsFollow_discardAll _)

theorem inhibitFlush_eventsStand {M : EventKind → EventSource → Prop} (s : State) (p : PortNum) :
    EventsStand M s (inhibitFlush s p) := by
  rw [inhibitFlush_eq]
  exact .of_same rfl rfl rfl

theorem markEntries_eventsStand {M : EventKind → EventSource → Prop} (s : State) (p : PortNum) :
    EventsStand M s (markEntries s p) := .of_same rfl rfl rfl

/-- INHIBIT_ON, and then only the ends of exchanges and of slots, are raised (R187). -/
theorem assertInhibit_eventsStand (s : State) : EventsStand (fun kind _ => kind = .switchAborted ∨ kind = .keyRetired)
    (raiseEvent .inhibitOn .part 0 { s with inhibit := .asserted }) (assertInhibit s) := by
  rw [assertInhibit_eq, inhibitTaken, inhibitMarked]
  refine .trans ?_ (.trans (foldl_eventsStand (fun u a => abandonExchange_eventsStand (.inl rfl) .inhibit u) _ _)
    ((discardAll_eventsStand _).mono fun _ _ h => .inr h))
  refine .trans (foldl_eventsStand inhibitFlush_eventsStand _ _) (foldl_eventsStand markEntries_eventsStand _ _)
theorem inhibitMarked_eventsStand (s : State) :
    EventsStand (fun kind _ => kind = .inhibitOn) s (inhibitMarked s) := by
  refine .trans (t := { s with inhibit := .asserted }) (.of_same rfl rfl rfl) (.trans (raiseEvent_eventsStand rfl ..)
    (.trans (foldl_eventsStand inhibitFlush_eventsStand _ _) (foldl_eventsStand markEntries_eventsStand _ _)))
/-- A port of the same core and inbox differs in its traffic and its counters alone. -/
theorem port_of_core (hcore : y.core = x.core) (hinbox : y.inbox = x.inbox) :
    { y with queues := x.queues, holding := x.holding, refresh := x.refresh, pauseOwed := x.pauseOwed, sequence := x.sequence
             controlQueue := x.controlQueue, counters := x.counters } = x := by
  cases x
  simp only [Port.core, Port.mk.injEq] at hcore
  simp only [hcore, hinbox]

theorem exec_inhibitAssert (hreset : s.pins.resetLow = false) (hreleased : s.inhibit = .released) :
    exec .inhibitAssert s = .next (assertInhibit (setInhibitPin true s)) := by
  show execInhibitAssert s = _
  rw [execInhibitAssert, if_neg (by rw [hreset]; decide), if_neg (by rw [hreleased]; decide)]

theorem assoc_assertInhibit (s : State) (a : Anum) : (assertInhibit s).assoc a = unexchanged (s.assoc a) := by
  have hassocs := assocs_of_portFrame (discardAll_portFrame (inhibitTaken s))
  rw [assertInhibit_eq, State.assoc, hassocs]
  show (inhibitTaken s).assoc a = _
  rw [inhibitTaken, assoc_abandonExchanges, assoc_inhibitMarked]

theorem assertInhibit_inhibitFrame (s : State) : InhibitFrame { s with inhibit := .asserted } (assertInhibit s) :=
  (inhibitTaken_inhibitFrame s).trans (inhibitFrame_of_portFrame (discardAll_portFrame _))

/-- Settles O7: the port after INHIBIT_ASSERT is put together from the flush, the marks, the exchanges abandoned and the heads
that leave. -/
theorem inhibitAsserts : Obligations.InhibitAsserts := by
  intro s hreset hreleased
  have hframe := assertInhibit_inhibitFrame (setInhibitPin true s)
  have hstand := assertInhibit_eventsStand (setInhibitPin true s)
  have hmarked := inhibitMarked_eventsStand (setInhibitPin true s)
  refine ⟨_, exec_inhibitAssert hreset hreleased, ?inhibit, ?pins, fun hbit hnew hroom => ?on, fun a => ?assoc,
    fun a hattempt hmask hnew => ?aborted, fun p => ?queues, fun p => ?sequence,
    fun p => ⟨?drops, fun c hc => ?counters⟩, fun p => ?control, fun p => ?port, fun k => ?slots, ?rest⟩
  case inhibit => exact inhibit_of_inhibitFrame hframe
  case pins =>
    obtain ⟨_, _, _, _, _, _, _, h⟩ := hframe
    rw [h]
    rfl
  case on =>
    refine hstand.mem ?_ (by simp)
    rw [events_raiseEvent_of_enabled (kind := .inhibitOn) (s := { setInhibitPin true s with inhibit := .asserted }) hbit
      (fun e he h => hnew e he h.1) hroom]
    exact List.mem_append_right _ (List.mem_singleton_self _)
  case assoc =>
    rw [assoc_assertInhibit]
    show (if _ then _ else exchangeEnded (s.assoc a)) = _
    refine if_congr Iff.rfl rfl ?_
    simp only [exchangeEnded]
    cases (s.assoc a).state <;> rfl
  case aborted =>
    rw [assertInhibit_eq, inhibitTaken]
    have hraised := switchAborted_abandonExchanges .inhibit (s := inhibitMarked (setInhibitPin true s)) (a := a)
      (by rw [assoc_inhibitMarked]; exact hattempt) (hmarked.mask.trans hmask)
      fun e he hsame => hnew e (hmarked.old e he (by simp [hsame.1])) hsame
    exact hraised.imp (fun h => (discardAll_eventsStand _).mem h (by simp [Retires])) (discardAll_eventsStand _).lost
  case queues => exact (port_assertInhibit_effect (setInhibitPin true s) p).1
  case sequence => exact (port_assertInhibit_effect (setInhibitPin true s) p).2.1
  case drops =>
    obtain ⟨-, -, hcounters, -⟩ := port_assertInhibit_effect (setInhibitPin true s) p
    rw [hcounters, row_withDrops, if_pos rfl]
    rfl
  case counters =>
    obtain ⟨-, -, hcounters, -⟩ := port_assertInhibit_effect (setInhibitPin true s) p
    rw [hcounters, row_withDrops, if_neg]
    · rfl
    · intro h
      rw [portCounter_index_eq_iff.mp h] at hc
      simp at hc
  case control =>
    obtain ⟨-, -, -, hcontrol, -⟩ := port_assertInhibit_effect (setInhibitPin true s) p
    exact hcontrol
  case port =>
    obtain ⟨-, -, -, -, hcore, hinbox⟩ := port_assertInhibit_effect (setInhibitPin true s) p
    exact port_of_core hcore hinbox
  case slots => exact (slotsFollow_assertInhibit (setInhibitPin true s)).stand k id
  case rest =>
    obtain ⟨_, _, _, _, _, _, _, h⟩ := hframe
    rw [h]
    rfl

end Sys2Proof.Proofs
end

section
/-! SUPPORT. Switches held pending that begin together (R132, R133, R136, R137), and INHIBIT_RELEASE (R188). -/

/-! One theorem is checked after another, as in the tests, which bounds the threads that the whole text takes. -/
set_option Elab.async false

namespace Sys2Proof.Proofs

open Sys2Proof Sys2Proof.Machine

variable {s t u : State} {p q : PortNum} {a b : Anum} {k j : SlotNum} {c : PortCounter} {x y : Port}

/-! ## What a switch that begins leaves of the ports, the events and the part -/

/-- The events of a switch that begins at once (R157, R77). -/
def Switches (kind : EventKind) (_ : EventSource) : Prop := kind = .keyRetired ∨ kind = .switchDone

/-- A switch that begins leaves of a port all but its inbox, the count of stale replies and the tail of its control queue; it
raises its own events alone, and nothing of the part as a whole changes. -/
structure Switching (s t : State) : Prop where
  ports : KeepsPorts s t
  stale : ∀ p, SameCountersBut [.staleReplies] (s.port p) (t.port p)
  queue : ∀ p, (s.port p).controlQueue <+: (t.port p).controlQueue
  events : EventsStand Switches s t
  listed : KeepsListed s t
  part : t.partState = s.partState ∧ t.faultList = s.faultList ∧ t.pins = s.pins

theorem Switching.refl (s : State) : Switching s s :=
  ⟨.refl s, fun _ _ _ => rfl, fun _ => List.prefix_refl _, .refl s, fun _ _ h => h, rfl, rfl, rfl⟩

theorem Switching.trans (h : Switching s t) (g : Switching t u) : Switching s u := by
  obtain ⟨hpart, hfaults, hpins⟩ := h.part
  obtain ⟨gpart, gfaults, gpins⟩ := g.part
  exact ⟨h.ports.trans g.ports, fun p c hc => (g.stale p c hc).trans (h.stale p c hc),
    fun p => (h.queue p).trans (g.queue p), h.events.trans g.events, h.listed.trans g.listed, gpart.trans hpart,
    gfaults.trans hfaults, gpins.trans hpins⟩

theorem updSlot_switching (k : SlotNum) (f : Slot → Slot) (s : State) : Switching s (s.updSlot k f) :=
  ⟨updSlot_keepsPorts .., fun _ _ _ => rfl, fun _ => List.prefix_refl _, .of_same rfl rfl rfl, keepsListed_of_events rfl,
    rfl, rfl, rfl⟩

theorem updAssoc_switching (a : Anum) (f : Assoc → Assoc) (s : State) : Switching s (s.updAssoc a f) :=
  ⟨updAssoc_keepsPorts .., fun _ _ _ => rfl, fun _ => List.prefix_refl _, .of_same rfl rfl rfl, keepsListed_of_events rfl,
    rfl, rfl, rfl⟩

theorem raiseEvent_switching {kind : EventKind} {source : EventSource} (h : Switches kind source) (detail : BitVec 16)
    (s : State) : Switching s (raiseEvent kind source detail s) := by
  refine ⟨raiseEvent_keepsPorts .., fun p c _ => ?_, fun p => ?_, raiseEvent_eventsStand h .., raiseEvent_keepsListed _ _ _ _,
    ?_⟩
  · rw [State.port_raiseEvent]
  · rw [State.port_raiseEvent]
  · obtain ⟨_, _, h⟩ := raiseEvent_lists kind source detail s
    rw [h]
    exact ⟨rfl, rfl, rfl⟩

theorem retireSlot_switching (k : SlotNum) (s : State) : Switching s (retireSlot k s) :=
  .trans (t := emptySlot k s)
    ⟨⟨fun _ => ⟨_, _, _, rfl⟩, rfl, rfl, rfl⟩, fun _ _ _ => rfl, fun _ => List.prefix_refl _, .of_same rfl rfl rfl,
      keepsListed_of_events rfl, rfl, rfl, rfl⟩
    (raiseEvent_switching (.inl rfl) ..)

theorem outgoingLeaves_switching (o : Option SlotNum) (s : State) : Switching s (outgoingLeaves o s) := by
  cases o with
  | none => exact .refl s
  | some j =>
    obtain ⟨-, h⟩ | ⟨-, h⟩ := leaveService_cases j s <;> rw [outgoingLeaves, h]
    · exact retireSlot_switching ..
    · exact updSlot_switching ..

theorem failCaptured_stale (p q : PortNum) (place : Fin 4) (s : State) :
    SameCountersBut [.staleReplies] (s.port q) ((failCaptured p place .staleReplies s).port q) := by
  intro c hc
  have hne : ¬PortCounter.staleReplies.index = c.index := fun h => by
    rw [portCounter_index_eq_iff.mp h] at hc
    simp at hc
  rw [failCaptured, bumpPort_one, State.port_updPort]
  split
  · next hpq =>
    rw [row_withDrops, if_neg hne, leaveInbox, State.port_updPort_self, hpq]
  · next hpq => rw [leaveInbox, State.port_updPort_ne _ _ hpq]

theorem withdrawVerifies_switching (a : Anum) (s : State) : Switching s (withdrawVerifies a s) := by
  obtain ⟨hport, _, _, _, hframe⟩ := withdrawVerifies_verifyFrame a s
  refine ⟨withdrawVerifies_keepsPorts a s, fun p => ?_, fun p => ?_, ?_, keepsListed_of_events (events_withdrawVerifies ..), ?_⟩
  · refine foldl_keeps (fun t : State => SameCountersBut [.staleReplies] (s.port p) (t.port p)) _ (fun t x h => ?_) _ _
      fun _ _ => rfl
    exact fun c hc => (failCaptured_stale _ p _ t c hc).trans (h c hc)
  · obtain ⟨_, _, h⟩ := hport p
    rw [h]
  · rw [hframe]
    exact .of_same rfl rfl rfl
  · rw [hframe]
    exact ⟨rfl, rfl, rfl⟩

theorem cutOver_switching (a : Anum) (s : State) : Switching s (cutOver a s) := by
  cases hk : (s.assoc a).next with
  | none =>
    simp only [cutOver, hk]
    exact .refl s
  | some k =>
    rw [cutOver_eq hk]
    exact ((updSlot_switching ..).trans ((updAssoc_switching ..).trans ((outgoingLeaves_switching ..).trans
      (updAssoc_switching ..)))).trans ((raiseEvent_switching (.inr rfl) ..).trans (withdrawVerifies_switching ..))

theorem beginSwitch_switching (a : Anum) (s : State) : Switching s (beginSwitch a s) := by
  cases hpolicy : (s.assoc a).confirmPolicy with
  | confirmed =>
    rw [beginSwitch_confirmed hpolicy]
    refine (updAssoc_switching ..).trans ⟨updQueue_keepsPorts _ (· ++ [a]) _, fun q c _ => ?_, fun q => ?_,
      .of_same rfl rfl rfl, keepsListed_of_events rfl, rfl, rfl, rfl⟩
    · rw [State.port_updPort]
      split
      · next hq => rw [hq]
      · rfl
    · rw [State.port_updPort]
      split
      · next hq =>
        rw [hq]
        exact List.prefix_append ..
      · exact List.prefix_refl _
  | unilateral =>
    rw [beginSwitch_unilateral hpolicy]
    exact (updAssoc_switching ..).trans (cutOver_switching ..)

/-! ## Pending switches of some ports -/

/-- A switch held pending on one of the given ports begins, if it can. -/
def beginOn (on : PortNum → Bool) (s : State) (a : Anum) : State :=
  if on (s.assoc a).port then beginIfPending s a else s

/-- The conditions of R132 on an association of one of the given ports. -/
def BeginsOn (on : PortNum → Bool) (s : State) (a : Anum) : Prop :=
  on (s.assoc a).port = true ∧ (s.assoc a).triggerPolicy = .auto ∧ (s.assoc a).switchPending = true
    ∧ SwitchCanStart s a (s.port (s.assoc a).port).mode s.inhibit

variable {on : PortNum → Bool}

theorem beginOn_begins (h : BeginsOn on s a) : beginOn on s a = beginSwitch a s := by
  obtain ⟨hon, hauto, hpending, hstart⟩ := h
  rw [beginOn, if_pos hon, beginIfPending_starts hauto hpending hstart]

theorem beginOn_stays (h : ¬BeginsOn on s a) : beginOn on s a = s := by
  unfold beginOn
  split
  · next hon =>
    refine if_neg fun ⟨hauto, hpending, hstart⟩ => h ⟨hon, hauto, hpending, canStart_iff.mp hstart⟩
  · rfl

theorem beginOn_switching (on : PortNum → Bool) (s : State) (a : Anum) : Switching s (beginOn on s a) := by
  by_cases h : BeginsOn on s a
  · rw [beginOn_begins h]
    exact beginSwitch_switching ..
  · rw [beginOn_stays h]
    exact .refl s

theorem beginOn_coherent (hs : Coherent s) (on : PortNum → Bool) (a : Anum) : Coherent (beginOn on s a) := by
  by_cases h : BeginsOn on s a
  · rw [beginOn_begins h]
    obtain ⟨-, -, -, hstart⟩ := h
    exact beginSwitch_coherent hs (canStart_iff.mpr hstart)
  · rwa [beginOn_stays h]

/-! ## One switch in a coherent state -/

/-- The slots of an association are its own (R66). -/
theorem slots_apart (hs : Coherent s) (hab : a ≠ b) (ha : (s.assoc a).current = some k ∨ (s.assoc a).next = some k) :
    ¬((s.assoc b).current = some k ∨ (s.assoc b).next = some k) := by
  have howner (c : Anum) (hc : (s.assoc c).current = some k ∨ (s.assoc c).next = some k) : (s.slot k).owner = some c := by
    obtain ⟨hcurrent, hnext, -, -⟩ := hs.2.1 c
    exact hc.elim (fun h => (hcurrent k h).2) fun h => (hnext k h).2
  intro hb
  exact hab (Option.some.inj ((howner a ha).symm.trans (howner b hb)))

theorem current_ne_next (hs : Coherent s) (hcurrent : (s.assoc a).current = some j) (hnext : (s.assoc a).next = some k) :
    j ≠ k := by
  obtain ⟨hactive, hready, -, -⟩ := hs.2.1 a
  rintro rfl
  obtain ⟨hstate, -⟩ := hactive j hcurrent
  obtain ⟨h | h, -⟩ := hready j hnext <;> simp [hstate] at h

theorem next_of_nextReady (h : s.nextReady a = true) : ∃ k, (s.assoc a).next = some k := by
  unfold State.nextReady at h
  split at h
  · next k hk => exact ⟨k, hk⟩
  · cases h

/-- An association whose next slot is taken into service by a switch under UNILATERAL. -/
def CutsOver (on : PortNum → Bool) (s : State) (a : Anum) (k : SlotNum) : Prop :=
  BeginsOn on s a ∧ (s.assoc a).confirmPolicy = .unilateral ∧ ((s.assoc a).current = some k ∨ (s.assoc a).next = some k)

/-- What becomes of one association whose switch begins, and of its slots. -/
structure BegunAt (on : PortNum → Bool) (a : Anum) (s t : State) : Prop where
  confirmed : BeginsOn on s a → (s.assoc a).confirmPolicy = .confirmed →
    t.assoc a = (s.assoc a).announced (s.port (s.assoc a).port).firstStep
  unilateral : ∀ k, BeginsOn on s a → (s.assoc a).confirmPolicy = .unilateral → (s.assoc a).next = some k →
    t.assoc a = ((s.assoc a).unflagged.switched k (s.slot k).epoch).withSwitchDone
      ∧ t.slot k = { s.slot k with state := .active }
      ∧ (∀ j, (s.assoc a).current = some j → t.slot j = (s.slot j).outgoing)
      ∧ (s.eventMask = BitVec.allOnes 21 → Listed .switchDone (.assoc a) t ∨ t.eventsLost = true)
  stays : ¬BeginsOn on s a → t.assoc a = s.assoc a

theorem listed_or_lost_raiseEvent {kind : EventKind} {source : EventSource} {detail : BitVec 16}
    (hmask : s.eventMask = BitVec.allOnes 21) : Listed kind source (raiseEvent kind source detail s)
      ∨ (raiseEvent kind source detail s).eventsLost = true := by
  by_cases hlisted : Listed kind source s
  · exact .inl (listed_raiseEvent_of_listed hlisted)
  · refine (mem_raiseEvent_or_lost hmask fun e he h => hlisted ⟨e, he, h⟩).imp_left fun h => ⟨_, h, rfl, rfl⟩

theorem switchDone_cutOver (hk : (s.assoc a).next = some k) (hmask : s.eventMask = BitVec.allOnes 21) :
    Listed .switchDone (.assoc a) (cutOver a s) ∨ (cutOver a s).eventsLost = true := by
  have hmasked : (switchedOver a k s).eventMask = BitVec.allOnes 21 := by
    refine (Switching.events ?_).mask.trans hmask
    exact (updSlot_switching ..).trans ((updAssoc_switching ..).trans ((outgoingLeaves_switching ..).trans
      (updAssoc_switching ..)))
  obtain ⟨-, _, _, _, hframe⟩ := withdrawVerifies_verifyFrame a
    (raiseEvent .switchDone (.assoc a) ((s.slot k).epoch.setWidth 16) (switchedOver a k s))
  rw [cutOver_eq hk, hframe]
  exact listed_or_lost_raiseEvent hmasked

theorem beginOn_begunAt (hs : Coherent s) (on : PortNum → Bool) (a : Anum) : BegunAt on a s (beginOn on s a) := by
  refine ⟨fun h hconfirmed => ?_, fun k h hunilateral hk => ?_, fun h => by rw [beginOn_stays h]⟩
  · rw [beginOn_begins h, beginSwitch_confirmed hconfirmed]
    exact State.assoc_updAssoc_self ..
  · have hx : (s.updAssoc a Assoc.unflagged).assoc a = (s.assoc a).unflagged := State.assoc_updAssoc_self ..
    have hnext : ((s.updAssoc a Assoc.unflagged).assoc a).next = some k := by
      rw [hx]
      exact hk
    have hcurrent : (s.assoc a).current ≠ some k := fun h => current_ne_next hs h hk rfl
    obtain ⟨-, -, hslot, hcurrents, -⟩ := cutOver_unflagged hk hcurrent
    rw [beginOn_begins h, beginSwitch_unilateral hunilateral]
    refine ⟨?_, hslot, fun j hj => (hcurrents j hj).1, fun hmask => switchDone_cutOver hnext hmask⟩
    rw [assoc_cutOver_self hnext, hx]
    rfl

theorem assoc_beginOn_ne (h : b ≠ a) : (beginOn on s a).assoc b = s.assoc b := by
  by_cases hbegins : BeginsOn on s a
  · rw [beginOn_begins hbegins]
    cases hpolicy : (s.assoc a).confirmPolicy with
    | confirmed =>
      rw [beginSwitch_confirmed hpolicy]
      exact State.assoc_updAssoc_ne _ _ h.symm
    | unilateral =>
      obtain ⟨-, -, -, -, -, hready, -⟩ := hbegins
      obtain ⟨k, hk⟩ := next_of_nextReady hready
      have hnext : ((s.updAssoc a Assoc.unflagged).assoc a).next = some k := by
        rw [State.assoc_updAssoc_self]
        exact hk
      rw [beginSwitch_unilateral hpolicy, assoc_cutOver_ne hnext h]
      exact State.assoc_updAssoc_ne _ _ h.symm
  · rw [beginOn_stays hbegins]

theorem slot_beginOn_other (hs : Coherent s) (h : ¬CutsOver on s a k) : (beginOn on s a).slot k = s.slot k := by
  by_cases hbegins : BeginsOn on s a
  · rw [beginOn_begins hbegins]
    cases hpolicy : (s.assoc a).confirmPolicy with
    | confirmed =>
      rw [beginSwitch_confirmed hpolicy]
      rfl
    | unilateral =>
      have hready := hbegins
      obtain ⟨-, -, -, -, -, hready, -⟩ := hready
      obtain ⟨j, hj⟩ := next_of_nextReady hready
      obtain ⟨-, -, -, -, hother, -⟩ := cutOver_unflagged hj fun h => current_ne_next hs h hj rfl
      rw [beginSwitch_unilateral hpolicy]
      refine hother k (fun hkj => h ⟨hbegins, hpolicy, .inr (hkj ▸ hj)⟩) fun hcurrent => h ⟨hbegins, hpolicy, .inl hcurrent⟩
  · rw [beginOn_stays hbegins]

/-! ## Many switches in a coherent state -/

/-- The beginning of one switch does not touch what another looks at. -/
theorem beginsOn_beginOn (hs : Coherent s) (h : b ≠ a) : BeginsOn on (beginOn on s a) b ↔ BeginsOn on s b := by
  have hassoc := assoc_beginOn_ne (on := on) (s := s) h
  have hport : ((beginOn on s a).port (s.assoc b).port).mode = (s.port (s.assoc b).port).mode := by
    obtain ⟨_, _, _, hp⟩ := (beginOn_switching on s a).ports.port (s.assoc b).port
    rw [hp]
  have hready : (beginOn on s a).nextReady b = s.nextReady b := by
    unfold State.nextReady
    rw [hassoc]
    cases hk : (s.assoc b).next with
    | none => rfl
    | some k =>
      have hslot := slot_beginOn_other (on := on) hs fun (hcuts : CutsOver on s a k) =>
        slots_apart hs h (.inr hk) hcuts.2.2
      simp only [hslot]
  simp only [BeginsOn, SwitchCanStart, hassoc, hport, hready, (beginOn_switching on s a).ports.inhibit]

/-- What a fold over associations does to each of them and to the slots. -/
structure Begun (on : PortNum → Bool) (l : List Anum) (s t : State) : Prop where
  coherent : Coherent t
  switching : Switching s t
  each : ∀ a ∈ l, BegunAt on a s t
  other : ∀ a, a ∉ l → t.assoc a = s.assoc a
  slots : ∀ k, (∀ a ∈ l, ¬CutsOver on s a k) → t.slot k = s.slot k

theorem firstStep_of_switching (h : Switching s t) (p : PortNum) : (t.port p).firstStep = (s.port p).firstStep := by
  obtain ⟨_, _, _, hp⟩ := h.ports.port p
  rw [hp]

theorem begun_foldl (on : PortNum → Bool) : ∀ (l : List Anum) (s : State), Coherent s → l.Nodup →
    Begun on l s (l.foldl (beginOn on) s)
  | [], s, hs, _ => ⟨hs, .refl s, nofun, fun _ _ => rfl, fun _ _ => rfl⟩
  | b :: l, s, hs, hnodup => by
    obtain ⟨hb, hl⟩ := List.nodup_cons.mp hnodup
    have hstep := beginOn_switching on s b
    have hself := beginOn_begunAt hs on b
    have hother {a : Anum} (ha : a ∈ l) : a ≠ b := fun h => hb (h ▸ ha)
    have hih := begun_foldl on l (beginOn on s b) (beginOn_coherent hs on b) hl
    rw [List.foldl_cons]
    generalize l.foldl (beginOn on) (beginOn on s b) = t at *
    have hcuts {a : Anum} {k : SlotNum} (ha : a ∈ l) : CutsOver on (beginOn on s b) a k ↔ CutsOver on s a k := by
      simp only [CutsOver, beginsOn_beginOn hs (hother ha), assoc_beginOn_ne (hother ha)]
    have hslotOf {a : Anum} {k : SlotNum} (ha : a ∈ l) (hk : (s.assoc a).current = some k ∨ (s.assoc a).next = some k) :
        (beginOn on s b).slot k = s.slot k :=
      slot_beginOn_other hs fun h => slots_apart hs (hother ha) hk h.2.2
    have hkept {k : SlotNum} (hk : (s.assoc b).current = some k ∨ (s.assoc b).next = some k) :
        t.slot k = (beginOn on s b).slot k :=
      hih.slots k fun a ha h => slots_apart hs (hother ha).symm hk ((hcuts ha).mp h).2.2
    refine ⟨hih.coherent, hstep.trans hih.switching, fun a ha => ?_, fun a ha => ?_, fun k hk => ?_⟩
    · obtain rfl | ha := List.mem_cons.mp ha
      · have hassoc := hih.other a hb
        refine ⟨fun h hc => hassoc.trans (hself.confirmed h hc), fun k h hu hk => ?_, fun h => hassoc.trans (hself.stays h)⟩
        obtain ⟨hrecord, hnext, hcurrent, hdone⟩ := hself.unilateral k h hu hk
        exact ⟨hassoc.trans hrecord, (hkept (.inr hk)).trans hnext, fun j hj => (hkept (.inl hj)).trans (hcurrent j hj),
          fun hmask => (hdone hmask).imp (hih.switching.listed _ _) hih.switching.events.lost⟩
      · obtain ⟨hconfirmed, hunilateral, hstays⟩ := hih.each a ha
        rw [beginsOn_beginOn hs (hother ha), assoc_beginOn_ne (hother ha)] at hconfirmed hunilateral hstays
        refine ⟨fun h hc => ?_, fun k h hu hk => ?_, hstays⟩
        · rw [hconfirmed h hc, firstStep_of_switching hstep]
        · obtain ⟨hrecord, hnext, hcurrent, hdone⟩ := hunilateral k h hu hk
          rw [hslotOf ha (.inr hk)] at hrecord hnext
          exact ⟨hrecord, hnext, fun j hj => by rw [hcurrent j hj, hslotOf ha (.inl hj)],
            fun hmask => hdone (hstep.events.mask.trans hmask)⟩
    · obtain ⟨hab, ha⟩ := not_or.mp (mt List.mem_cons.mpr ha)
      rw [hih.other a ha, assoc_beginOn_ne hab]
    · rw [hih.slots k fun a ha h => hk a (List.mem_cons_of_mem _ ha) ((hcuts ha).mp h),
        slot_beginOn_other hs (hk b List.mem_cons_self)]

end Sys2Proof.Proofs
end

section
/-! SUPPORT. INHIBIT_RELEASE (R188): the switches that begin, the flushes, and the heads that leave. -/

/-! One theorem is checked after another, as in the tests, which bounds the threads that the whole text takes. -/
set_option Elab.async false

namespace Sys2Proof.Proofs

open Sys2Proof Sys2Proof.Machine

variable {s t u : State} {p q : PortNum} {a b : Anum} {k j : SlotNum} {c : PortCounter} {x y : Port}

/-! ## Events that stay listed while entries leave -/

theorem releaseEntry_keepsListed (e : Entry) (s : State) : KeepsListed s (releaseEntry e s) := by
  unfold releaseEntry
  split
  · next k _ =>
    obtain ⟨-, -, h⟩ | ⟨-, h⟩ := releaseSlot_cases k s <;> rw [h]
    · exact (retireSlot_switching k s).listed
    · exact keepsListed_of_events rfl
  · exact keepsListed_of_events rfl

theorem dropHead_keepsListed (p : PortNum) (s : State) : KeepsListed s (dropHead p s) := by
  unfold dropHead
  split
  · exact keepsListed_of_events rfl
  · exact (releaseEntry_keepsListed _ _).after rfl

theorem discardHeadsUpTo_keepsListed (p : PortNum) : ∀ (n : Nat) (s : State), KeepsListed s (discardHeadsUpTo n p s)
  | 0, s => keepsListed_of_events rfl
  | n + 1, s => by
    unfold discardHeadsUpTo
    split
    · next c _ =>
      exact (KeepsListed.after (t := bumpPort p c 1 s) (dropHead_keepsListed p _) rfl).trans (discardHeadsUpTo_keepsListed p n _)
    · exact keepsListed_of_events rfl

theorem discardHeads_keepsListed (p : PortNum) (s : State) : KeepsListed s (discardHeads p s) :=
  discardHeadsUpTo_keepsListed p _ s

theorem linkDownFlush_keepsListed (p : PortNum) (s : State) : KeepsListed s (linkDownFlush p s) := by
  refine keepsListed_of_events ?_
  unfold linkDownFlush
  split
  · rw [flushQueues_eq]
    rfl
  · rfl

/-! ## The flush and the heads of every port -/

/-- The link-down flush is in force on a port under an inhibit state (R109). -/
def flushNow (inhibit : InhibitState) (x : Port) : Bool :=
  x.mode == .protect && x.settings.linkDownPolicy == .flush && x.link != .up && inhibit != .asserted

theorem flushNow_iff {inhibit : InhibitState} : flushNow inhibit x = true ↔ x.flushes inhibit := by
  cases inhibit <;> simp [flushNow, Port.flushes, and_assoc]

theorem flushInForce_eq (s : State) (p : PortNum) : s.flushInForce p = flushNow s.inhibit (s.port p) := by
  rw [Bool.eq_iff_iff, flushes_iff, flushNow_iff]

/-- Every port takes its flush where it is in force, and its unsent heads leave. -/
def tidyAll (s : State) : State := allPorts.foldl (fun s p => discardHeads p (linkDownFlush p s)) s

theorem flushThenDiscard_portFrame (p : PortNum) (s : State) : PortFrame s (discardHeads p (linkDownFlush p s)) :=
  (linkDownFlush_portFrame p s).trans (discardHeads_portFrame p _)

theorem tidyAll_portFrame (s : State) : PortFrame s (tidyAll s) :=
  foldl_portFrame _ (fun s p => flushThenDiscard_portFrame p s) _ _

theorem port_tidyAll (s : State) (p : PortNum) :
    (tidyAll s).port p = flushedThenTidied s.inhibit (flushNow s.inhibit (s.port p)) (s.port p) := by
  refine port_foldl (P := fun t => t.inhibit = s.inhibit)
    (h := fun x => flushedThenTidied s.inhibit (flushNow s.inhibit x) x)
    (fun t p ht => ?_) (fun t p ht => ?_) (fun t p q h => ?_) rfl p
  · exact (inhibit_of_inhibitFrame (inhibitFrame_of_portFrame (flushThenDiscard_portFrame p t))).trans ht
  · rw [port_flushThenDiscard, if_pos rfl, flushInForce_eq, ht]
  · rw [port_flushThenDiscard, if_neg h]

theorem slotsFollow_tidyAll (s : State) : SlotsFollow s (tidyAll s) :=
  foldl_keeps (SlotsFollow s) _ (fun t p ht => ht.trans (slotsFollow_flushThenDiscard p t)) _ _ (.refl s)

theorem tidyAll_eventsStand (s : State) : EventsStand Retires s (tidyAll s) :=
  foldl_eventsStand (fun s p => (linkDownFlush_eventsStand p s).trans (discardHeads_eventsStand p _)) _ _

theorem tidyAll_keepsListed (s : State) : KeepsListed s (tidyAll s) :=
  foldl_keeps (KeepsListed s) _
    (fun t p ht => ht.trans ((linkDownFlush_keepsListed p t).trans (discardHeads_keepsListed p _))) _ _
    (keepsListed_of_events rfl)

/-! ## Ports over which a switch has begun -/

/-- A switch leaves what a flush and the departure of heads look at (R133). -/
theorem sameTraffic_of_keepsPorts (h : KeepsPorts s t) (p : PortNum) : SameTraffic (s.port p) (t.port p) := by
  obtain ⟨_, _, _, hp⟩ := h.port p
  rw [hp]
  exact ⟨⟨rfl, rfl, rfl, rfl⟩, rfl, rfl, rfl, rfl, rfl⟩

theorem core_of_keepsPorts (h : KeepsPorts s t) (p : PortNum) : (t.port p).core = (s.port p).core := by
  obtain ⟨_, _, _, hp⟩ := h.port p
  rw [hp]
  rfl

theorem entriesAgainst_of_keepsPorts (h : KeepsPorts s t) (k : SlotNum) : entriesAgainst t k = entriesAgainst s k :=
  entriesAgainst_congr fun p => by rw [(sameTraffic_of_keepsPorts h p).sequence]

/-- The drops that a switch does not count. -/
theorem drops_of_stale (h : SameCountersBut [.staleReplies] x y) (hc : c ≠ .staleReplies) :
    row y.counters c.index = drops (row x.counters c.index) 0 := h c (by simpa using hc)

/-! ## INHIBIT_RELEASE -/

/-- The state in which INHIBIT is RELEASED and its event raised. -/
def released (s : State) : State := raiseEvent .inhibitOff .part 0 { s with inhibit := .released }

/-- The state in which the pending switches that can start have begun. -/
def releasedBegun (s : State) : State := allAnums.foldl (beginOn fun _ => true) (released s)

theorem releaseInhibit_eq (s : State) : releaseInhibit s = tidyAll (releasedBegun s) := by
  have hbegin : beginOn (fun _ => true) = beginIfPending := funext fun s => funext fun a => if_pos rfl
  rw [releasedBegun, hbegin]
  rfl

theorem exec_inhibitRelease (hreset : s.pins.resetLow = false) (hasserted : s.inhibit = .asserted) :
    exec .inhibitRelease s = .next (releaseInhibit (setInhibitPin false s)) := by
  show execInhibitRelease s = _
  rw [execInhibitRelease, if_neg (by rw [hreset]; decide), if_neg (by rw [hasserted]; decide)]

theorem released_coherent (hs : Coherent s) : Coherent (released s) :=
  (Quiet.trans (t := { s with inhibit := .released }) ⟨fun _ => rfl⟩ (raiseEvent_quiet ..)).coherent hs

theorem begun_released (hs : Coherent s) : Begun (fun _ => true) allAnums (released s) (releasedBegun s) :=
  begun_foldl _ allAnums _ (released_coherent hs) nodup_allAnums

/-- INHIBIT_OFF changes the event list alone. -/
theorem released_lists (s : State) : ∃ events lost,
    released s = { s with inhibit := .released, events := events, eventsLost := lost } :=
  raiseEvent_lists .inhibitOff .part 0 { s with inhibit := .released }

theorem beginsOn_released : BeginsOn (fun _ => true) (released s) a
    ↔ (s.assoc a).triggerPolicy = .auto ∧ (s.assoc a).switchPending = true
      ∧ SwitchCanStart s a (s.port (s.assoc a).port).mode .released := by
  obtain ⟨_, _, h⟩ := released_lists s
  rw [h]
  exact ⟨fun h => h.2, fun h => ⟨rfl, h⟩⟩

/-- An association waits in a control queue exactly while its record says so (R140). -/
theorem mem_controlQueue_iff (hs : Coherent s) (p : PortNum) (a : Anum) : a ∈ (s.port p).controlQueue
    ↔ (s.assoc a).port = p ∧ ((s.assoc a).attempt.any fun t => t.status == .queued) = true := (hs.2.2 p).2 a

/-- The record of a switch that has begun under CONFIRMED waits, with its notice QUEUED (R136). -/
theorem queued_of_announced (n : Nat) (x : Assoc) :
    ((x.announced n).attempt.any fun t => t.status == .queued) = true ∧ (x.announced n).port = x.port := ⟨rfl, rfl⟩

/-- Which associations wait after INHIBIT_RELEASE, from their records before and after (R136, R140). -/
theorem waits_after_begun {B : Prop} {n : Nat} {x' y : Assoc} (hattempt : B → x'.attempt = none)
    (hconfirmed : B → x'.confirmPolicy = .confirmed → y = x'.announced n)
    (hunilateral : B → x'.confirmPolicy = .unilateral → y.attempt = none) (hstays : ¬B → y = x') :
    (y.port = p ∧ (y.attempt.any fun t => t.status == .queued) = true)
      ↔ (x'.port = p ∧ (x'.attempt.any fun t => t.status == .queued) = true)
        ∨ B ∧ x'.confirmPolicy = .confirmed ∧ x'.port = p := by
  by_cases h : B
  · rw [hattempt h]
    cases hpolicy : x'.confirmPolicy with
    | confirmed =>
      rw [hconfirmed h hpolicy]
      obtain ⟨hqueued, hport⟩ := queued_of_announced n x'
      simp [hqueued, hport, h]
    | unilateral =>
      rw [hunilateral h hpolicy]
      simp
  · rw [hstays h]
    simp [h]

/-! ### The state after INHIBIT_RELEASE -/

theorem releasedBegun_switching (hs : Coherent s) : Switching (released s) (releasedBegun s) := (begun_released hs).switching

theorem port_released (s : State) (p : PortNum) : (released s).port p = s.port p := by
  obtain ⟨_, _, h⟩ := released_lists s
  rw [h]
  rfl

theorem assoc_released (s : State) (a : Anum) : (released s).assoc a = s.assoc a := by
  obtain ⟨_, _, h⟩ := released_lists s
  rw [h]
  rfl

theorem slot_released (s : State) (k : SlotNum) : (released s).slot k = s.slot k := by
  obtain ⟨_, _, h⟩ := released_lists s
  rw [h]
  rfl

theorem eventMask_released (s : State) : (released s).eventMask = s.eventMask := by
  obtain ⟨_, _, h⟩ := released_lists s
  rw [h]

theorem assoc_releaseInhibit (s : State) (a : Anum) : (releaseInhibit s).assoc a = (releasedBegun s).assoc a := by
  rw [releaseInhibit_eq, State.assoc, assocs_of_portFrame (tidyAll_portFrame (releasedBegun s))]
  rfl

/-- A slot that no entry has left is as the switches left it. -/
theorem slot_releaseInhibit (hs : Coherent s) (h : entriesAgainst (releaseInhibit s) k = entriesAgainst s k) :
    (releaseInhibit s).slot k = (releasedBegun s).slot k := by
  have hsame : entriesAgainst (releasedBegun s) k = entriesAgainst s k :=
    (entriesAgainst_of_keepsPorts (releasedBegun_switching hs).ports k).trans
      (entriesAgainst_congr fun p => by rw [port_released])
  rw [releaseInhibit_eq] at h ⊢
  exact (slotsFollow_tidyAll (releasedBegun s)).stand k id (h.trans hsame.symm)

theorem inhibit_releasedBegun (hs : Coherent s) : (releasedBegun s).inhibit = .released := by
  obtain ⟨_, _, h⟩ := released_lists s
  rw [(releasedBegun_switching hs).ports.inhibit, h]

theorem sameTraffic_releasedBegun (hs : Coherent s) (p : PortNum) : SameTraffic (s.port p) ((releasedBegun s).port p) := by
  have h := sameTraffic_of_keepsPorts (releasedBegun_switching hs).ports p
  rwa [port_released] at h

theorem port_releaseInhibit (hs : Coherent s) (p : PortNum) : (releaseInhibit s).port p
    = flushedThenTidied .released (flushNow .released (s.port p)) ((releasedBegun s).port p) := by
  have h := sameTraffic_releasedBegun hs p
  have hflush : flushNow .released ((releasedBegun s).port p) = flushNow .released (s.port p) := by
    rw [Bool.eq_iff_iff, flushNow_iff, flushNow_iff]
    simp only [Port.flushes, h.mode, h.settings, h.link]
  rw [releaseInhibit_eq, port_tidyAll, inhibit_releasedBegun hs, hflush]

/-- What INHIBIT_RELEASE does to the traffic, the counters and the other fields of a port. -/
theorem port_releaseInhibit_effect (hs : Coherent s) (p : PortNum) :
    ((s.port p).flushes .released → QueuesFlushed (s.port p) ((releaseInhibit s).port p)
        ∧ HeadsLeft (s.port p) .released (s.port p).queued 0 ((releaseInhibit s).port p))
      ∧ (¬(s.port p).flushes .released → QueuesKept (s.port p) ((releaseInhibit s).port p)
        ∧ HeadsLeft (s.port p) .released 0 0 ((releaseInhibit s).port p))
      ∧ SameCountersBut [.linkDownFlush, .inhibitDrops, .staleReplies] (s.port p) ((releaseInhibit s).port p)
      ∧ ((releaseInhibit s).port p).core = (s.port p).core := by
  have hswitching := releasedBegun_switching hs
  have hstale := hswitching.stale p
  have hcore := core_of_keepsPorts hswitching.ports p
  rw [port_released] at hstale hcore
  obtain ⟨hflushed, hkept⟩ := flushedThenTidied_effect (inhibit := .released) (sameTraffic_releasedBegun hs p)
    (drops_of_stale hstale (by decide)) (drops_of_stale hstale (by decide))
  obtain ⟨gcore, -, -, gcounters⟩ := core_flushedThenTidied .released (flushNow .released (s.port p))
    ((releasedBegun s).port p)
  rw [port_releaseInhibit hs]
  refine ⟨fun h => ?_, fun h => ?_, fun c hc => ?_, gcore.trans hcore⟩
  · rw [flushNow_iff.mpr h]
    rw [Nat.zero_add] at hflushed
    exact hflushed
  · rw [Bool.eq_false_of_not_eq_true fun hf => h (flushNow_iff.mp hf)]
    exact hkept
  · simp only [List.mem_cons, List.not_mem_nil, or_false, not_or] at hc
    exact (gcounters c (by simp [hc])).trans (hstale c (by simp [hc]))

theorem controlQueue_releaseInhibit (hs : Coherent s) (p : PortNum) :
    (s.port p).controlQueue <+: ((releaseInhibit s).port p).controlQueue := by
  have h := (releasedBegun_switching hs).queue p
  rw [port_released] at h
  rw [port_releaseInhibit hs, (core_flushedThenTidied ..).2.1]
  exact h

theorem releaseInhibit_eventsStand (hs : Coherent s) :
    EventsStand (fun kind _ => kind = .keyRetired ∨ kind = .switchDone) (released s) (releaseInhibit s) := by
  rw [releaseInhibit_eq]
  exact (releasedBegun_switching hs).events.trans ((tidyAll_eventsStand _).mono fun _ _ h => .inl h)

theorem pins_of_portFrame (h : PortFrame s t) : t.pins = s.pins := by
  obtain ⟨_, _, _, _, _, _, rfl⟩ := h
  rfl

theorem rest_released (s : State) : (released s).pins = s.pins ∧ (released s).steering = s.steering
    ∧ (released s).transportKey = s.transportKey ∧ (released s).partState = s.partState
    ∧ (released s).faultList = s.faultList := by
  obtain ⟨_, _, h⟩ := released_lists s
  rw [h]
  exact ⟨rfl, rfl, rfl, rfl, rfl⟩

theorem rest_releaseInhibit (hs : Coherent s) : (releaseInhibit s).pins = s.pins
    ∧ (releaseInhibit s).steering = s.steering ∧ (releaseInhibit s).transportKey = s.transportKey
    ∧ (releaseInhibit s).partState = s.partState ∧ (releaseInhibit s).faultList = s.faultList := by
  have htidied := tidyAll_portFrame (releasedBegun s)
  obtain ⟨tfaults, -, -, -, tpart, tsteering, tkey, -⟩ := portFrame_rest htidied
  obtain ⟨hpart, hfaults, hpins⟩ := (releasedBegun_switching hs).part
  obtain ⟨-, -, hsteering, hkey⟩ := (releasedBegun_switching hs).ports
  obtain ⟨rpins, rsteering, rkey, rpart, rfaults⟩ := rest_released s
  rw [releaseInhibit_eq]
  exact ⟨(pins_of_portFrame htidied).trans (hpins.trans rpins), tsteering.trans (hsteering.trans rsteering),
    tkey.trans (hkey.trans rkey), tpart.trans (hpart.trans rpart), tfaults.trans (hfaults.trans rfaults)⟩

theorem inhibit_releaseInhibit (hs : Coherent s) : (releaseInhibit s).inhibit = .released := by
  have htidied := inhibit_of_inhibitFrame (inhibitFrame_of_portFrame (tidyAll_portFrame (releasedBegun s)))
  rw [releaseInhibit_eq, htidied]
  exact inhibit_releasedBegun hs

/-- Settles O8: the switches begin one by one in a coherent state, and then every port takes its flush and loses its unsent
heads. -/
theorem inhibitReleases : Obligations.InhibitReleases := by
  intro s hs hreset hasserted begins
  let s₀ := setInhibitPin false s
  have hs₀ : Coherent s₀ := hs
  have hbegun := begun_released hs₀
  have hcoherent : Coherent (releaseInhibit s₀) := releaseInhibit_coherent hs₀
  have hwhen (a : Anum) : BeginsOn (fun _ => true) (released s₀) a ↔ begins a := beginsOn_released
  have hassoc (a : Anum) : (releaseInhibit s₀).assoc a = (releasedBegun s₀).assoc a := assoc_releaseInhibit s₀ a
  have hstays (a : Anum) (h : ¬begins a) : (releaseInhibit s₀).assoc a = s.assoc a := by
    rw [hassoc, (hbegun.each a (mem_allAnums a)).stays fun hb => h ((hwhen a).mp hb), assoc_released]
    rfl
  have hconfirmed (a : Anum) (h : begins a) (hc : (s.assoc a).confirmPolicy = .confirmed) :
      (releaseInhibit s₀).assoc a = (s.assoc a).announced (s.port (s.assoc a).port).firstStep := by
    have hbegins := (hbegun.each a (mem_allAnums a)).confirmed ((hwhen a).mpr h)
    rw [assoc_released, port_released] at hbegins
    rw [hassoc]
    exact hbegins hc
  have hunilateral (a : Anum) (k : SlotNum) (h : begins a) (hu : (s.assoc a).confirmPolicy = .unilateral)
      (hk : (s.assoc a).next = some k) :
      (releasedBegun s₀).assoc a = ((s.assoc a).unflagged.switched k (s.slot k).epoch).withSwitchDone
        ∧ (releasedBegun s₀).slot k = { s.slot k with state := .active }
        ∧ (∀ j, (s.assoc a).current = some j → (releasedBegun s₀).slot j = (s.slot j).outgoing)
        ∧ (s.eventMask = BitVec.allOnes 21 →
          Listed .switchDone (.assoc a) (releasedBegun s₀) ∨ (releasedBegun s₀).eventsLost = true) := by
    have hbegins := (hbegun.each a (mem_allAnums a)).unilateral k ((hwhen a).mpr h)
    simp only [assoc_released, slot_released, eventMask_released] at hbegins
    exact hbegins hu hk
  obtain ⟨hpins, hsteering, hkey, hpart, hfaults⟩ := rest_releaseInhibit hs₀
  refine ⟨_, exec_inhibitRelease hreset hasserted, inhibit_releaseInhibit hs₀, hpins, fun hbit hnew hroom => ?off, hconfirmed,
    fun a k h hu hk => ⟨?record, ?next, fun j hj heq => ?current, fun hmask => ?done⟩, hstays, fun k hk heq => ?slots,
    fun p => ⟨controlQueue_releaseInhibit hs₀ p, (hcoherent.2.2 p).1, fun a => ?waits⟩,
    fun p => ?ports, hsteering, hkey, hpart, hfaults⟩
  case off =>
    refine (releaseInhibit_eventsStand hs₀).stay _ _ ?_ (by simp)
    rw [released, events_raiseEvent_of_enabled (kind := .inhibitOff) (s := { s₀ with inhibit := .released }) hbit
      (fun e he h => hnew e he h.1) hroom]
    exact List.getElem?_concat_length
  case record => rw [hassoc, (hunilateral a k h hu hk).1]
  case next =>
    intro heq
    rw [slot_releaseInhibit hs₀ heq, (hunilateral a k h hu hk).2.1]
  case current =>
    obtain ⟨-, -, hcurrent, -⟩ := hunilateral a k h hu hk
    rw [slot_releaseInhibit hs₀ heq, hcurrent j hj]
  case done =>
    obtain ⟨-, -, -, hdone⟩ := hunilateral a k h hu hk
    rw [releaseInhibit_eq]
    exact (hdone hmask).imp (tidyAll_keepsListed _ _ _) (tidyAll_eventsStand _).lost
  case slots =>
    rw [slot_releaseInhibit hs₀ heq, hbegun.slots k fun a _ hcuts => hk ⟨a, (hwhen a).mp hcuts.1, ?_⟩, slot_released]
    · rfl
    · obtain ⟨-, hu, hslots⟩ := hcuts
      rw [assoc_released] at hu hslots
      exact ⟨hu, hslots⟩
  case waits =>
    rw [mem_controlQueue_iff hcoherent, mem_controlQueue_iff hs]
    refine waits_after_begun (fun h => h.2.2.2.1) (hconfirmed a) (fun h hu => ?_) (hstays a)
    obtain ⟨k, hk⟩ := next_of_nextReady h.2.2.2.2.1
    rw [hassoc, (hunilateral a k h hu hk).1]
    rfl
  case ports => exact port_releaseInhibit_effect hs₀ p

end Sys2Proof.Proofs

end

section
/-! SUPPORT. PORT_MODE to PROTECT (R5, R109, R132). -/

/-! One theorem is checked after another, as in the tests, which bounds the threads that the whole text takes. -/
set_option Elab.async false

namespace Sys2Proof.Proofs

open Sys2Proof Sys2Proof.Machine

variable {s t u : State} {p q : PortNum} {a b : Anum} {k j : SlotNum} {c : PortCounter} {x y z : Port} {w : Slot}

/-! ## Slots that entries leave -/

theorem released_of_not_draining (h : w.state ≠ .draining) : w.released = { w with inFlight := w.inFlight - 1 } :=
  if_neg fun hw => h hw.1

theorem releasedTimes_of_not_draining : ∀ (n : Nat) {w : Slot}, w.state ≠ .draining →
    Slot.releasedTimes n w = { w with inFlight := w.inFlight - n }
  | 0, _, _ => rfl
  | n + 1, w, h => by
    rw [releasedTimes_succ, released_of_not_draining h, releasedTimes_of_not_draining n (by exact h), Nat.sub_sub,
      Nat.add_comm 1 n]

/-- A slot that drains ends EMPTY or drains on. -/
theorem releasedTimes_of_draining : ∀ (n : Nat) {w : Slot}, w.state = .draining →
    (Slot.releasedTimes n w).state = .draining ∨ (Slot.releasedTimes n w).state = .empty
  | 0, _, h => .inl h
  | n + 1, w, h => by
    rw [releasedTimes_succ, Slot.released]
    split
    · rw [releasedTimes_of_not_draining n (by decide)]
      exact .inr rfl
    · exact releasedTimes_of_draining n (by exact h)

theorem releasedTimes_ready (n : Nat) (w : Slot) :
    ((Slot.releasedTimes n w).state == .ready) = (w.state == .ready) := by
  by_cases h : w.state = .draining
  · rw [h]
    obtain hw | hw := releasedTimes_of_draining n h
    · rw [hw]
    · rw [hw]
      rfl
  · rw [releasedTimes_of_not_draining n h]

/-- Entries that leave make no next slot READY, and none unready (R78, R131). -/
theorem nextReady_of_slotsFollow (h : SlotsFollow s t) (hassoc : t.assoc a = s.assoc a) :
    t.nextReady a = s.nextReady a := by
  unfold State.nextReady
  rw [hassoc]
  cases hk : (s.assoc a).next with
  | none => rfl
  | some k =>
    obtain ⟨n, -, hslot⟩ := h k
    simp only [hslot, releasedTimes_ready]

theorem epoch_of_slotsFollow (h : SlotsFollow s t) (hstate : (s.slot k).state = .ready) :
    (t.slot k).epoch = (s.slot k).epoch := by
  obtain ⟨n, -, hslot⟩ := h k
  rw [hslot, releasedTimes_of_not_draining n (by rw [hstate]; decide)]

theorem ready_of_nextReady (h : s.nextReady a = true) (hk : (s.assoc a).next = some k) : (s.slot k).state = .ready := by
  simpa [State.nextReady, hk] using h

/-! ## What stands over a switch that follows -/

theorem queuesFlushed_of_kept (h : QueuesFlushed x y) (g : QueuesKept y z) : QueuesFlushed x z := by
  obtain ⟨hqueues, hholding, howed, hrefresh⟩ := g
  simpa only [QueuesFlushed, hqueues, hholding, howed, hrefresh] using h

theorem queuesKept_trans (h : QueuesKept x y) (g : QueuesKept y z) : QueuesKept x z := by
  obtain ⟨hqueues, hholding, howed, hrefresh⟩ := g
  simpa only [QueuesKept, hqueues, hholding, howed, hrefresh] using h

theorem headsLeft_of_stale {inhibit : InhibitState} {m n : Nat} (h : HeadsLeft x inhibit m n y)
    (hsequence : z.sequence = y.sequence) (hstale : SameCountersBut [.staleReplies] y z) : HeadsLeft x inhibit m n z := by
  obtain ⟨hleft, hlink, hinhibit⟩ := h
  exact ⟨hsequence.trans hleft, (hstale _ (by decide)).trans hlink, (hstale _ (by decide)).trans hinhibit⟩

/-! ## The port that enters PROTECT -/

/-- The state in which a port is in PROTECT, has taken its flush and lost its unsent heads. -/
def protectedPort (p : PortNum) (s : State) : State :=
  discardHeads p (linkDownFlush p (s.updPort p fun x => { x with mode := .protect }))

theorem portProtect_eq (p : PortNum) (s : State) :
    portProtect p s = allAnums.foldl (beginOn (· == p)) (protectedPort p s) := by
  have hbegin : beginOn (· == p) = fun s a => if (s.assoc a).port = p then beginIfPending s a else s := by
    funext s a
    simp only [beginOn, beq_iff_eq]
  rw [hbegin]
  rfl

theorem protectedPort_coherent (hs : Coherent s) (p : PortNum) : Coherent (protectedPort p s) :=
  (Quiet.trans (t := s.updPort p fun x => { x with mode := .protect }) updPort_quiet
    ((linkDownFlush_quiet ..).trans (discardHeads_quiet ..))).coherent hs

theorem protectedPort_portFrame (p : PortNum) (s : State) : PortFrame s (protectedPort p s) :=
  (updPort_portFrame ..).trans (flushThenDiscard_portFrame p _)

theorem port_protectedPort (p : PortNum) (s : State) : (protectedPort p s).port p
    = flushedThenTidied s.inhibit (flushNow s.inhibit { s.port p with mode := .protect })
        { s.port p with mode := .protect } := by
  rw [protectedPort, port_flushThenDiscard, if_pos rfl, flushInForce_eq, State.port_updPort_self]
  rfl

theorem slotsFollow_protectedPort (p : PortNum) (s : State) : SlotsFollow s (protectedPort p s) := by
  refine .trans (t := s.updPort p fun x => { x with mode := .protect }) (.of_same (fun _ => rfl) fun q => ?_)
    (slotsFollow_flushThenDiscard p _)
  rw [State.port_updPort]
  split
  · next hpq => rw [hpq]
  · rfl

theorem assoc_protectedPort (p : PortNum) (s : State) (a : Anum) : (protectedPort p s).assoc a = s.assoc a := by
  rw [State.assoc, assocs_of_portFrame (protectedPort_portFrame p s)]
  rfl

theorem inhibit_protectedPort (p : PortNum) (s : State) : (protectedPort p s).inhibit = s.inhibit :=
  inhibit_of_inhibitFrame (inhibitFrame_of_portFrame (protectedPort_portFrame p s))

theorem mode_protectedPort (p : PortNum) (s : State) : ((protectedPort p s).port p).mode = .protect := by
  rw [port_protectedPort, (fields_of_core (core_flushedThenTidied ..).1).1]

theorem beginsOn_protectedPort : BeginsOn (· == p) (protectedPort p s) a
    ↔ (s.assoc a).port = p ∧ (s.assoc a).triggerPolicy = .auto ∧ (s.assoc a).switchPending = true
      ∧ SwitchCanStart s a .protect s.inhibit := by
  have hassoc := assoc_protectedPort p s a
  have hready : (protectedPort p s).nextReady a = s.nextReady a :=
    nextReady_of_slotsFollow (slotsFollow_protectedPort p s) hassoc
  simp only [BeginsOn, SwitchCanStart, hassoc, hready, inhibit_protectedPort, beq_iff_eq]
  refine and_congr_right fun hport => ?_
  simp only [hport, mode_protectedPort]

theorem begun_portProtect (hs : Coherent s) (p : PortNum) :
    Begun (· == p) allAnums (protectedPort p s) (portProtect p s) := by
  rw [portProtect_eq]
  exact begun_foldl _ allAnums _ (protectedPort_coherent hs p) nodup_allAnums

theorem entriesAgainst_portProtect (hs : Coherent s) (p : PortNum) (k : SlotNum) :
    entriesAgainst (portProtect p s) k = entriesAgainst (protectedPort p s) k :=
  entriesAgainst_of_keepsPorts (begun_portProtect hs p).switching.ports k

/-- A slot that no entry has left stands until a switch begins. -/
theorem slot_protectedPort (hs : Coherent s) (h : entriesAgainst (portProtect p s) k = entriesAgainst s k) :
    (protectedPort p s).slot k = s.slot k :=
  (slotsFollow_protectedPort p s).stand k id ((entriesAgainst_portProtect hs p k).symm.trans h)

/-- What PORT_MODE to PROTECT does to the traffic, the counters and the other fields of the port. -/
theorem port_portProtect_effect (hs : Coherent s) (p : PortNum) :
    let x : Port := { s.port p with mode := .protect }
    (x.flushes s.inhibit → QueuesFlushed x ((portProtect p s).port p)
        ∧ HeadsLeft x s.inhibit x.queued 0 ((portProtect p s).port p))
      ∧ (¬x.flushes s.inhibit → QueuesKept x ((portProtect p s).port p)
        ∧ HeadsLeft x s.inhibit 0 0 ((portProtect p s).port p))
      ∧ SameCountersBut [.linkDownFlush, .inhibitDrops, .staleReplies] x ((portProtect p s).port p)
      ∧ ((portProtect p s).port p).core = x.core := by
  intro x
  have hswitching := (begun_portProtect hs p).switching
  have hstale := hswitching.stale p
  have hcore := core_of_keepsPorts hswitching.ports p
  have htraffic := sameTraffic_of_keepsPorts hswitching.ports p
  generalize (portProtect p s).port p = z at *
  rw [port_protectedPort] at hstale hcore htraffic
  obtain ⟨hflushed, hkept⟩ := flushedThenTidied_effect (inhibit := s.inhibit) (x := x) (b := x) (m := 0) (n := 0)
    ⟨⟨rfl, rfl, rfl, rfl⟩, rfl, rfl, rfl, rfl, rfl⟩ rfl rfl
  obtain ⟨gcore, -, -, gcounters⟩ := core_flushedThenTidied s.inhibit (flushNow s.inhibit x) x
  refine ⟨fun h => ?_, fun h => ?_, fun c hc => ?_, hcore.trans gcore⟩
  · rw [flushNow_iff.mpr h] at hstale htraffic
    rw [Nat.zero_add] at hflushed
    exact ⟨queuesFlushed_of_kept hflushed.1 htraffic.queues, headsLeft_of_stale hflushed.2 htraffic.sequence hstale⟩
  · rw [Bool.eq_false_of_not_eq_true fun hf => h (flushNow_iff.mp hf)] at hstale htraffic
    exact ⟨queuesKept_trans hkept.1 htraffic.queues, headsLeft_of_stale hkept.2 htraffic.sequence hstale⟩
  · simp only [List.mem_cons, List.not_mem_nil, or_false, not_or] at hc
    exact (hstale c (by simp [hc])).trans (gcounters c (by simp [hc]))

/-- What PORT_MODE to PROTECT does to the associations and the slots. -/
theorem assoc_portProtect_effect (hs : Coherent s) (p : PortNum) :
    let begins (a : Anum) : Prop := (s.assoc a).port = p ∧ (s.assoc a).triggerPolicy = .auto
      ∧ (s.assoc a).switchPending = true ∧ SwitchCanStart s a .protect s.inhibit
    let t := portProtect p s
    (∀ a, begins a → (s.assoc a).confirmPolicy = .confirmed →
        t.assoc a = (s.assoc a).announced (s.port p).firstStep ∧ a ∈ (t.port p).controlQueue)
      ∧ (∀ a k, begins a → (s.assoc a).confirmPolicy = .unilateral → (s.assoc a).next = some k →
          t.assoc a = ((s.assoc a).unflagged.switched k (s.slot k).epoch).withSwitchDone
          ∧ (entriesAgainst t k = entriesAgainst s k → t.slot k = { s.slot k with state := .active })
          ∧ ∀ j, (s.assoc a).current = some j → entriesAgainst t j = entriesAgainst s j →
            t.slot j = (s.slot j).outgoing)
      ∧ (∀ a, ¬begins a → t.assoc a = s.assoc a)
      ∧ SlotsStandBut (fun k => ∃ a, begins a ∧ (s.assoc a).confirmPolicy = .unilateral
          ∧ ((s.assoc a).current = some k ∨ (s.assoc a).next = some k)) s t := by
  intro begins t
  have hbegun := begun_portProtect hs p
  have hcoherent : Coherent (portProtect p s) := portProtect_coherent p hs
  have hwhen (a : Anum) : BeginsOn (· == p) (protectedPort p s) a ↔ begins a := beginsOn_protectedPort
  have hstep : ((protectedPort p s).port p).firstStep = (s.port p).firstStep := by
    have hcore : ((protectedPort p s).port p).core = Port.core { s.port p with mode := .protect } := by
      rw [port_protectedPort, (core_flushedThenTidied ..).1]
    simp only [Port.core, Port.mk.injEq] at hcore
    simp only [hcore]
  refine ⟨fun a h hc => ?_, fun a k h hu hk => ?_, fun a h => ?_, fun k hk heq => ?_⟩
  · have hrecord := (hbegun.each a (mem_allAnums a)).confirmed ((hwhen a).mpr h)
    rw [assoc_protectedPort, h.1, hstep] at hrecord
    have hrecord := hrecord hc
    refine ⟨hrecord, (mem_controlQueue_iff hcoherent p a).mpr ?_⟩
    obtain ⟨hqueued, hport⟩ := queued_of_announced (s.port p).firstStep (s.assoc a)
    rw [hrecord]
    exact ⟨hport.trans h.1, hqueued⟩
  · have hrecord := (hbegun.each a (mem_allAnums a)).unilateral k ((hwhen a).mpr h)
    rw [assoc_protectedPort] at hrecord
    obtain ⟨hassoc, hnext, hcurrent, -⟩ := hrecord hu hk
    have hready := ready_of_nextReady h.2.2.2.2.2.1 hk
    rw [epoch_of_slotsFollow (slotsFollow_protectedPort p s) hready] at hassoc
    refine ⟨hassoc, fun heq => ?_, fun j hj heq => ?_⟩
    · rw [hnext, slot_protectedPort hs heq]
    · rw [hcurrent j hj, slot_protectedPort hs heq]
  · rw [(hbegun.each a (mem_allAnums a)).stays fun hb => h ((hwhen a).mp hb), assoc_protectedPort]
  · rw [hbegun.slots k fun a _ hcuts => hk ⟨a, (hwhen a).mp hcuts.1, ?_⟩, slot_protectedPort hs heq]
    obtain ⟨-, hu, hslots⟩ := hcuts
    rw [assoc_protectedPort] at hu hslots
    exact ⟨hu, hslots⟩

theorem steering_portProtect (hs : Coherent s) (p : PortNum) : (portProtect p s).steering = s.steering := by
  obtain ⟨-, -, -, -, -, hsteering, -⟩ := portFrame_rest (protectedPort_portFrame p s)
  exact (begun_portProtect hs p).switching.ports.steering.trans hsteering

end Sys2Proof.Proofs
end

section
/-! SUPPORT. PORT_MODE to OFF (R6, R7, R98, R156), and the whole request (R5). -/

/-! One theorem is checked after another, as in the tests, which bounds the threads that the whole text takes. -/
set_option Elab.async false

namespace Sys2Proof.Proofs

open Sys2Proof Sys2Proof.Machine

variable {s t u : State} {p q : PortNum} {a b : Anum} {k j : SlotNum} {c : PortCounter} {x y z : Port} {cause : AbortCause}

/-! ## The exchanges of one port -/

/-- The associations of a port, in ascending order. -/
def anumsOf (p : PortNum) (s : State) : List Anum := allAnums.filter fun a => (s.assoc a).port == p

theorem port_assoc_abandonExchange (a b : Anum) (s : State) :
    ((abandonExchange cause s a).assoc b).port = (s.assoc b).port := by
  by_cases h : b = a
  · subst h
    rw [assoc_abandonExchange_self]
    split <;> rfl
  · rw [assoc_abandonExchange_ne h]

/-- A fold that skips the associations of other ports is a fold over those of the port. -/
theorem foldl_abandonExchange_filter (p : PortNum) : ∀ (l : List Anum) (s : State),
    l.foldl (fun s a => if (s.assoc a).port = p then abandonExchange cause s a else s) s
      = (l.filter fun a => (s.assoc a).port == p).foldl (abandonExchange cause) s
  | [], _ => rfl
  | b :: l, s => by
    rw [List.foldl_cons, foldl_abandonExchange_filter p l]
    by_cases h : (s.assoc b).port = p
    · simp only [h, if_true, port_assoc_abandonExchange, List.filter_cons, beq_self_eq_true, List.foldl_cons]
    · simp only [h, if_false, List.filter_cons, beq_iff_eq]

theorem abandonPort_eq (p : PortNum) (s : State) :
    abandonPort p s = (anumsOf p s).foldl (abandonExchange .portOff) s := foldl_abandonExchange_filter p allAnums s

theorem nodup_anumsOf (p : PortNum) (s : State) : (anumsOf p s).Nodup := nodup_allAnums.filter _

theorem mem_anumsOf : a ∈ anumsOf p s ↔ (s.assoc a).port = p := by simp [anumsOf, mem_allAnums]

theorem length_anumsOf (p : PortNum) (s : State) : (anumsOf p s).length ≤ 64 :=
  (List.length_filter_le _ _).trans_eq (List.length_finRange (n := 64))

theorem assoc_abandonPort (p : PortNum) (s : State) (a : Anum) :
    (abandonPort p s).assoc a = if (s.assoc a).port = p then unexchanged (s.assoc a) else s.assoc a := by
  rw [abandonPort_eq]
  refine (foldl_at (P := fun _ => True) (g := State.assoc) (h := fun _ => unexchanged) (fun _ _ _ => trivial)
    (fun _ _ _ => assoc_abandonExchange_self) (fun _ _ _ h => assoc_abandonExchange_ne (Ne.symm h)) (anumsOf p s) s
    (nodup_anumsOf p s) trivial a).trans (if_congr mem_anumsOf rfl rfl)

/-- Every exchange of the port leaves its control queue. -/
theorem port_abandonPort_self (p : PortNum) (s : State) : (abandonPort p s).port p = { s.port p with
    controlQueue := (s.port p).controlQueue.filter fun a => !exchangesOn s p a } := by
  rw [abandonPort_eq, port_foldl_abandonExchange .portOff p _ s (nodup_anumsOf p s)]
  refine congrArg (withControlQueue (s.port p)) (List.filter_congr fun a _ => ?_)
  by_cases h : (s.assoc a).port = p
  · simp [mem_anumsOf, h]
  · simp [exchangesOn, h]

theorem port_abandonPort_ne (h : q ≠ p) (s : State) : (abandonPort p s).port q = s.port q := by
  rw [abandonPort_eq, port_foldl_abandonExchange .portOff q _ s (nodup_anumsOf p s)]
  have hself : ((s.port q).controlQueue.filter fun a => !(decide (a ∈ anumsOf p s) && exchangesOn s q a))
      = (s.port q).controlQueue := by
    refine List.filter_eq_self.mpr fun a _ => ?_
    by_cases ha : (s.assoc a).port = p
    · simp [exchangesOn, ha, Ne.symm h]
    · simp [mem_anumsOf, ha]
  rw [hself]

theorem abandonPort_inhibitFrame (p : PortNum) (s : State) : InhibitFrame s (abandonPort p s) := by
  rw [abandonPort_eq]
  exact foldl_inhibitFrame (abandonExchange_inhibitFrame .portOff) _ s

theorem slots_abandonPort (p : PortNum) (s : State) : (abandonPort p s).slots = s.slots := by
  rw [abandonPort_eq]
  refine foldl_same State.slots _ (fun u a => ?_) _ s
  obtain ⟨_, _, _, _, h⟩ := abandonExchange_lists .portOff u a
  rw [h]

/-- Into an empty list every exchange abandoned enters as an event of its own (R156, R175). -/
theorem switchAborted_abandonPort (hport : (s.assoc a).port = p) (hattempt : (s.assoc a).attempt ≠ none)
    (hevents : s.events = []) (hmask : s.eventMask = BitVec.allOnes 21) :
    { kind := .switchAborted, source := .assoc a, count := 1, detail := 0 } ∈ (abandonPort p s).events := by
  rw [abandonPort_eq]
  obtain ⟨u, hstand, hassoc, hlength, gstand⟩ :=
    abandonExchange_between .portOff (nodup_anumsOf p s) (mem_anumsOf.mpr hport) s
  have hroom := length_anumsOf p s
  rw [hevents, List.length_nil] at hlength
  refine gstand.mem ?_ fun h => h rfl
  rw [abandonExchange_eq (hassoc ▸ hattempt), events_raiseEvent_new (s := endExchange a u) (hstand.mask.trans hmask)]
  · exact List.mem_append_right _ (List.mem_singleton_self _)
  · intro e he hsame
    have hold := hstand.old e he fun h => h hsame.2
    rw [hevents] at hold
    cases hold
  · show u.events.length < 64
    omega

/-! ## Entries removed -/

theorem slotsFollow_removeEntries (p : PortNum) (test : Entry → Bool) (c : PortCounter) (s : State) :
    SlotsFollow s (removeEntries p test c s) := by
  intro k
  have hone := entriesAgainst_of_one (s := s) (t := removeEntries p test c s) (k := k) (p := p) fun q hq => by
    rw [port_removeEntries, if_neg (Ne.symm hq)]
  have hself : ((removeEntries p test c s).port p).sequence = (s.port p).sequence.filter fun e => !test e := by
    rw [port_removeEntries, if_pos rfl]
    rfl
  have hsplit := against_filter_add k test (s.port p).sequence
  rw [hself] at hone
  exact ⟨_, by omega, slot_removeEntries p test c k s⟩

/-! ## The port that leaves PROTECT -/

/-- The port is OFF, its class queues are flushed, and its exchanges abandoned. -/
def offEmptied (p : PortNum) (s : State) : State :=
  abandonPort p (flushQueues p .portOffDrops (s.updPort p fun x => { x with mode := .off }))

theorem portOff_eq (p : PortNum) (s : State) : portOff p s
    = discardHeads p (removeEntries p (fun e => e.status == .waitingLane) .portOffDrops (offEmptied p s)) := rfl

/-- A port with another sequence. -/
def withSequence (x : Port) (es : List Entry) : Port := { x with sequence := es }

theorem fields_withSequence (x : Port) (es : List Entry) : (withSequence x es).core = x.core
    ∧ (withSequence x es).inbox = x.inbox ∧ QueuesKept x (withSequence x es)
    ∧ (withSequence x es).counters = x.counters := ⟨rfl, rfl, ⟨rfl, rfl, rfl, rfl⟩, rfl⟩

theorem fields_withDrops (c : PortCounter) (n : Nat) (x : Port) : (Port.withDrops c n x).core = x.core
    ∧ (Port.withDrops c n x).inbox = x.inbox ∧ QueuesKept x (Port.withDrops c n x) := ⟨rfl, rfl, rfl, rfl, rfl, rfl⟩

theorem fields_withControlQueue (x : Port) (queue : List Anum) : (withControlQueue x queue).core = x.core
    ∧ (withControlQueue x queue).sequence = x.sequence ∧ (withControlQueue x queue).inbox = x.inbox
    ∧ QueuesKept x (withControlQueue x queue) ∧ (withControlQueue x queue).counters = x.counters
    ∧ (withControlQueue x queue).controlQueue = queue := ⟨rfl, rfl, rfl, ⟨rfl, rfl, rfl, rfl⟩, rfl, rfl⟩

/-- A port of which the waiting entries have left, once it is OFF and flushed. -/
def portEmptied (x : Port) : Port :=
  Port.withDrops .portOffDrops (x.sequence.countP fun e => e.status == .waitingLane)
    (withSequence (flushedBy .portOffDrops { x with mode := .off }) (x.sequence.filter fun e => e.status != .waitingLane))

theorem assoc_offFlushed (p : PortNum) (s : State) (a : Anum) :
    (flushQueues p .portOffDrops (s.updPort p fun x => { x with mode := .off })).assoc a = s.assoc a := by
  rw [flushQueues_eq]
  rfl

theorem port_offFlushed_self (p : PortNum) (s : State) :
    (flushQueues p .portOffDrops (s.updPort p fun x => { x with mode := .off })).port p
      = flushedBy .portOffDrops { s.port p with mode := .off } := by
  rw [flushQueues_eq, State.port_updPort_self, State.port_updPort_self]

theorem port_offFlushed_ne (h : q ≠ p) (s : State) :
    (flushQueues p .portOffDrops (s.updPort p fun x => { x with mode := .off })).port q = s.port q := by
  rw [flushQueues_eq, State.port_updPort_ne _ _ h.symm, State.port_updPort_ne _ _ h.symm]

theorem port_offEmptied_self (p : PortNum) (s : State) : (offEmptied p s).port p
    = withControlQueue (flushedBy .portOffDrops { s.port p with mode := .off })
        ((s.port p).controlQueue.filter fun a => !exchangesOn s p a) := by
  rw [offEmptied, port_abandonPort_self, port_offFlushed_self, (core_flushedBy ..).2.2.1]
  simp only [exchangesOn, assoc_offFlushed]
  rfl

theorem offEmptied_inhibitFrame (p : PortNum) (s : State) : InhibitFrame s (offEmptied p s) :=
  (inhibitFrame_of_portFrame ((updPort_portFrame p _ s).trans (flushQueues_portFrame p .portOffDrops _))).trans
    (abandonPort_inhibitFrame p _)

theorem portOff_inhibitFrame (p : PortNum) (s : State) : InhibitFrame s (portOff p s) := by
  rw [portOff_eq]
  exact (offEmptied_inhibitFrame p s).trans
    (inhibitFrame_of_portFrame ((removeEntries_portFrame ..).trans (discardHeads_portFrame p _)))

theorem slotsFollow_portOff (p : PortNum) (s : State) : SlotsFollow s (portOff p s) := by
  rw [portOff_eq]
  refine .trans (t := offEmptied p s) (.of_same (fun k => ?_) fun q => ?_)
    ((slotsFollow_removeEntries p _ _ _).trans (slotsFollow_discardHeads p _))
  · rw [State.slot, offEmptied, slots_abandonPort, flushQueues_eq]
    rfl
  · by_cases h : q = p
    · subst h
      rw [port_offEmptied_self, (fields_withControlQueue ..).2.1, (core_flushedBy ..).2.1]
    · rw [offEmptied, port_abandonPort_ne h, port_offFlushed_ne h]

theorem assoc_portOff (p : PortNum) (s : State) (a : Anum) :
    (portOff p s).assoc a = if (s.assoc a).port = p then unexchanged (s.assoc a) else s.assoc a := by
  have hleave := assocs_of_portFrame
    ((removeEntries_portFrame p (fun e => e.status == .waitingLane) .portOffDrops (offEmptied p s)).trans
      (discardHeads_portFrame p _))
  rw [portOff_eq, State.assoc, hleave]
  show (offEmptied p s).assoc a = _
  rw [offEmptied, assoc_abandonPort, assoc_offFlushed]

theorem port_portOff_ne (h : q ≠ p) (s : State) : (portOff p s).port q = s.port q := by
  rw [portOff_eq, port_discardHeads, if_neg h.symm, port_removeEntries, if_neg h.symm, offEmptied, port_abandonPort_ne h,
    port_offFlushed_ne h]

theorem emptied_withControlQueue (x : Port) (queue : List Anum) :
    Port.withDrops .portOffDrops (x.sequence.countP fun e => e.status == .waitingLane)
        { withControlQueue (flushedBy .portOffDrops { x with mode := .off }) queue with
          sequence := x.sequence.filter fun e => !(e.status == .waitingLane) }
      = withControlQueue (portEmptied x) queue := by
  unfold portEmptied
  generalize flushedBy .portOffDrops { x with mode := .off } = y
  rfl

theorem port_portOff_self (p : PortNum) (s : State) : (portOff p s).port p = withoutHeads s.inhibit
    (withControlQueue (portEmptied (s.port p)) ((s.port p).controlQueue.filter fun a => !exchangesOn s p a)) := by
  have hinhibit : (removeEntries p (fun e => e.status == .waitingLane) .portOffDrops (offEmptied p s)).inhibit
      = s.inhibit :=
    inhibit_of_inhibitFrame ((offEmptied_inhibitFrame p s).trans (inhibitFrame_of_portFrame (removeEntries_portFrame ..)))
  have hsequence : ((offEmptied p s).port p).sequence = (s.port p).sequence := by
    rw [port_offEmptied_self, (fields_withControlQueue ..).2.1, (core_flushedBy ..).2.1]
  rw [portOff_eq, port_discardHeads, if_pos rfl, hinhibit, port_removeEntries, if_pos rfl, hsequence, port_offEmptied_self]
  exact congrArg (withoutHeads s.inhibit) (emptied_withControlQueue _ _)

theorem core_portEmptied (x : Port) : (portEmptied x).core = Port.core { x with mode := .off }
    ∧ (portEmptied x).inbox = x.inbox ∧ QueuesFlushed x (portEmptied x)
    ∧ (portEmptied x).counters = (Port.withDrops .portOffDrops
        (x.queued + x.sequence.countP fun e => e.status == .waitingLane) x).counters := by
  obtain ⟨hcore, -, -, hinbox⟩ := core_flushedBy .portOffDrops { x with mode := .off }
  have hflushed := queuesFlushed_flushedBy .portOffDrops { x with mode := .off }
  have hcounters := counters_flushedBy .portOffDrops { x with mode := .off }
  unfold portEmptied
  generalize flushedBy .portOffDrops { x with mode := .off } = y at *
  refine ⟨hcore, hinbox, hflushed, ?_⟩
  rw [← withDrops_withDrops]
  simp only [withSequence, Port.withDrops, hcounters]
  rfl

theorem sequence_portEmptied (x : Port) :
    (portEmptied x).sequence = x.sequence.filter fun e => e.status != .waitingLane := by
  unfold portEmptied
  generalize flushedBy .portOffDrops { x with mode := .off } = y
  rfl

/-- The counters of a port that has been switched OFF, before its unsent heads leave. -/
def CountsOff (x y : Port) : Prop :=
  ∀ c : PortCounter, row y.counters c.index = if PortCounter.portOffDrops.index = c.index then
    drops (row x.counters c.index) (x.queued + x.sequence.countP fun e => e.status == .waitingLane)
    else row x.counters c.index

theorem countsOff_portEmptied (x : Port) (queue : List Anum) : CountsOff x (withControlQueue (portEmptied x) queue) := by
  obtain ⟨-, -, -, hcounters⟩ := core_portEmptied x
  intro c
  rw [(fields_withControlQueue ..).2.2.2.2.1, hcounters, row_withDrops]

/-- The heads that leave a port that has been switched OFF. -/
theorem withoutHeads_off {inhibit : InhibitState} (hcore : y.core = x.core) (hsequence : y.sequence = x.sequence)
    (hcounts : CountsOff z y) (hsame : x.counters = z.counters) :
    HeadsLeft x inhibit 0 0 (withoutHeads inhibit y)
      ∧ row (withoutHeads inhibit y).counters PortCounter.portOffDrops.index
        = drops (row z.counters PortCounter.portOffDrops.index)
            (z.queued + z.sequence.countP fun e => e.status == .waitingLane)
      ∧ SameCountersBut [.portOffDrops, .linkDownFlush, .inhibitDrops] z (withoutHeads inhibit y) := by
  refine ⟨headsLeft_withoutHeads (congrFun (unsent_congr hcore inhibit)) (congrFun (linkDrop_congr hcore inhibit))
    (congrFun (inhibitDrop_congr hcore inhibit)) hsequence ?_ ?_, ?_, fun c hc => ?_⟩
  · rw [hcounts, if_neg (by decide), hsame, drops_zero]
  · rw [hcounts, if_neg (by decide), hsame, drops_zero]
  · rw [row_withoutHeads, if_neg (by decide), if_neg (by decide), hcounts, if_pos rfl]
  · simp only [List.mem_cons, List.not_mem_nil, or_false, not_or] at hc
    rw [row_withoutHeads, if_neg hc.2.1, if_neg hc.2.2, hcounts,
      if_neg fun h => hc.1 (portCounter_index_eq_iff.mp h)]

/-- What PORT_MODE to OFF does to the traffic, the counters and the other fields of the port. -/
theorem port_portOff_effect (p : PortNum) (s : State) :
    let x : Port := { s.port p with
      mode := .off, sequence := (s.port p).sequence.filter fun e => e.status != .waitingLane }
    ((portOff p s).port p).core = x.core ∧ QueuesFlushed x ((portOff p s).port p)
      ∧ (HeadsLeft x s.inhibit 0 0 ((portOff p s).port p)
        ∧ row ((portOff p s).port p).counters PortCounter.portOffDrops.index
          = drops (row (s.port p).counters PortCounter.portOffDrops.index)
              ((s.port p).queued + (s.port p).sequence.countP fun e => e.status == .waitingLane)
        ∧ SameCountersBut [.portOffDrops, .linkDownFlush, .inhibitDrops] (s.port p) ((portOff p s).port p))
      ∧ ((portOff p s).port p).inbox = (s.port p).inbox
      ∧ ((portOff p s).port p).controlQueue = (s.port p).controlQueue.filter fun a => !exchangesOn s p a := by
  intro x
  obtain ⟨hcore, hinbox, hflushed, -⟩ := core_portEmptied (s.port p)
  have hsequence := sequence_portEmptied (s.port p)
  rw [port_portOff_self]
  have hcounts := countsOff_portEmptied (s.port p) ((s.port p).controlQueue.filter fun a => !exchangesOn s p a)
  obtain ⟨fcore, fsequence, finbox, fkept, -, fqueue⟩ := fields_withControlQueue (portEmptied (s.port p))
    ((s.port p).controlQueue.filter fun a => !exchangesOn s p a)
  generalize withControlQueue (portEmptied (s.port p)) ((s.port p).controlQueue.filter fun a => !exchangesOn s p a) = y
    at *
  obtain ⟨gcore, gcontrol, ginbox, -⟩ := core_withoutHeads s.inhibit y
  have hoff : y.core = x.core := fcore.trans hcore
  exact ⟨gcore.trans hoff, queuesFlushed_withoutHeads (queuesFlushed_of_kept hflushed fkept),
    withoutHeads_off hoff (fsequence.trans hsequence) hcounts rfl, ginbox.trans (finbox.trans hinbox), gcontrol.trans fqueue⟩

theorem steering_portOff (p : PortNum) (s : State) : (portOff p s).steering = s.steering := by
  obtain ⟨_, _, _, _, _, _, _, h⟩ := portOff_inhibitFrame p s
  rw [h]

/-- The aborts of R156 stay in the list while slots are retired. -/
theorem switchAborted_portOff (hport : (s.assoc a).port = p) (hattempt : (s.assoc a).attempt ≠ none)
    (hevents : s.events = []) (hmask : s.eventMask = BitVec.allOnes 21) :
    { kind := .switchAborted, source := .assoc a, count := 1, detail := 0 } ∈ (portOff p s).events := by
  have hstand : EventsStand (fun _ _ => False) s
      (flushQueues p .portOffDrops (s.updPort p fun x => { x with mode := .off })) :=
    .trans (t := s.updPort p fun x => { x with mode := .off }) (.of_same rfl rfl rfl) (flushQueues_eventsStand ..)
  have hnil : (flushQueues p .portOffDrops (s.updPort p fun x => { x with mode := .off })).events = [] :=
    List.eq_nil_iff_forall_not_mem.mpr fun e he => by
      have := hstand.old e he id
      rw [hevents] at this
      cases this
  rw [portOff_eq]
  refine ((removeEntries_eventsStand ..).trans (discardHeads_eventsStand p _)).mem ?_ (by simp [Retires])
  refine switchAborted_abandonPort ?_ ?_ hnil (hstand.mask.trans hmask) <;> rw [assoc_offFlushed]
  exacts [hport, hattempt]

/-! ## The request (R5) -/

variable {tag port mode : Byte} {fields : Bytes} {status : Status}

theorem exec_portMode_done (h : TakesRequests s) (hserve : servePortMode port mode (counted s) = done fields t) :
    exec (.portMode tag port mode) s = .next (owingOk 0x84 tag fields t) :=
  requestArrives_done (kind := .portMode) h (by decide) hserve

theorem exec_portMode_refused (h : TakesRequests s)
    (hserve : servePortMode port mode (counted s) = refuse status (counted s)) (hstatus : status ≠ .ok) :
    exec (.portMode tag port mode) s = .next (owingRefusal 0x84 tag status.code (counted s)) :=
  requestArrives_refused (kind := .portMode) h (by decide) hserve hstatus

theorem servePortMode_same {m : PortMode} (hp : port.toNat = p.val) (hm : PortMode.ofCode mode = some m)
    (hmode : (s.port p).mode = m) : servePortMode port mode s = done [m.code] s := by
  simp only [servePortMode, inRange_eq_some_iff.mpr hp, hm, if_pos hmode]

theorem servePortMode_toOff (hp : port.toNat = p.val) (hmode : (s.port p).mode = .protect) :
    servePortMode port 0 s = done [0] (portOff p s) := by
  have hne : ¬(s.port p).mode = .off := by simp [hmode]
  simp only [servePortMode, inRange_eq_some_iff.mpr hp, show PortMode.ofCode 0 = some .off from rfl, if_neg hne]
  rfl

theorem servePortMode_toProtect (hp : port.toNat = p.val) (hmode : (s.port p).mode = .off)
    (hgood : row s.hwFaults.buffers p = false) : servePortMode port 1 s = done [1] (portProtect p s) := by
  have hne : ¬(s.port p).mode = .protect := by simp [hmode]
  have hfault : ¬row s.hwFaults.buffers p = true := by simp [hgood]
  simp only [servePortMode, inRange_eq_some_iff.mpr hp, show PortMode.ofCode 1 = some .protect from rfl, if_neg hne,
    if_neg hfault]
  rfl

theorem servePortMode_faulted (hp : port.toNat = p.val) (hmode : (s.port p).mode = .off)
    (hfault : row s.hwFaults.buffers p = true) : servePortMode port 1 s = refuse .faulted s := by
  have hne : ¬(s.port p).mode = .protect := by simp [hmode]
  simp only [servePortMode, inRange_eq_some_iff.mpr hp, show PortMode.ofCode 1 = some .protect from rfl, if_neg hne,
    if_pos hfault]

/-- Settles O40: PORT_MODE to PROTECT and to OFF, each from what its parts do. -/
theorem portModeChanges : Obligations.PortModeChanges := by
  have hoff : PortMode.ofCode 0 = some .off := rfl
  have hprotect : PortMode.ofCode 1 = some .protect := rfl
  refine ⟨fun tag b mode s htakes hbad => exec_portMode_refused (status := .badValue) htakes ?bad (by decide),
    fun tag b p s htakes hb => ⟨fun h => ?offOff, fun h => ?onOn, fun h hfault => ?faulted, fun hs h hfault => ?toProtect,
      fun h => ?toOff⟩⟩
  case bad =>
    obtain h | h := hbad
    · rw [servePortMode, inRange_eq_none h]
    · have hnone : PortMode.ofCode mode = none := List.getElem?_eq_none_iff.mpr h
      rw [servePortMode, hnone]
      cases inRange 4 b <;> rfl
  case offOff => exact exec_portMode_done htakes (servePortMode_same hb hoff h)
  case onOn => exact exec_portMode_done htakes (servePortMode_same hb hprotect h)
  case faulted =>
    exact exec_portMode_refused (status := .faulted) htakes (servePortMode_faulted (s := counted s) hb h hfault) (by decide)
  case toProtect =>
    have hexec := exec_portMode_done (tag := tag) htakes (servePortMode_toProtect (s := counted s) hb h hfault)
    have hcounted : Coherent (counted s) := hs
    obtain ⟨hflushed, hkept, hcounters, hcore⟩ := port_portProtect_effect hcounted p
    obtain ⟨hconfirmed, hunilateral, hstays, hslots⟩ := assoc_portProtect_effect hcounted p
    have hsteering := steering_portProtect hcounted p
    intro begins x
    generalize portProtect p (counted s) = t at *
    exact ⟨_, hexec, rfl, hcore, hconfirmed, hunilateral, hstays, hslots, hflushed, hkept, hcounters,
      hsteering⟩
  case toOff =>
    have hexec := exec_portMode_done (tag := tag) htakes (servePortMode_toOff (s := counted s) hb h)
    obtain ⟨hcore, hflushed, ⟨hheads, hdrops, hcounters⟩, hinbox, hcontrol⟩ := port_portOff_effect p (counted s)
    have hassoc := assoc_portOff p (counted s)
    have hports (q : PortNum) (hq : q ≠ p) := port_portOff_ne hq (counted s)
    have haborted (a : Anum) := switchAborted_portOff (s := counted s) (p := p) (a := a)
    have hslots := (slotsFollow_portOff p (counted s)).stand
    have hsteering := steering_portOff p (counted s)
    intro x
    generalize portOff p (counted s) = t at *
    refine ⟨_, hexec, rfl, hcore, hflushed, hheads, hdrops, hcounters, hinbox, hslots,
      fun a hport hattempt => ⟨?record, ?queue, haborted a hport hattempt⟩, fun a ha => ?other, hports, hsteering⟩
    case record =>
      refine (hassoc a).trans ((if_pos hport).trans ((if_neg hattempt).trans ?_))
      show exchangeEnded (s.assoc a) = _
      simp only [exchangeEnded]
      cases (s.assoc a).state <;> rfl
    case queue =>
      show a ∉ (t.port p).controlQueue
      rw [hcontrol]
      intro hmem
      obtain ⟨-, hnot⟩ := List.mem_filter.mp hmem
      have hon : exchangesOn (counted s) p a = true := by
        show ((s.assoc a).port == p && (s.assoc a).attempt.isSome) = true
        simp [hport, Option.isSome_iff_ne_none.mpr hattempt]
      rw [hon] at hnot
      cases hnot
    case other =>
      refine (hassoc a).trans ?_
      split
      · next hport => exact if_pos (ha.resolve_left fun hne => hne hport)
      · rfl

end Sys2Proof.Proofs
end

section
/-! SUPPORT. What the users of a fine pulse touch, one after another (R124): links, the scrubber, attempt timers, the gap limit
and lifetimes. -/

/-! One theorem is checked after another, as in the tests, which bounds the threads that the whole text takes. -/
set_option Elab.async false

namespace Sys2Proof.Proofs

open Sys2Proof Sys2Proof.Machine

variable {s t u : State} {p q : PortNum} {a b : Anum} {k j : SlotNum} {c : PortCounter} {x y : Port} {scale : LifetimeScale}

/-! ## The frame of a pulse's users -/

/-- What the users of a pulse touch, the scrubber's own pointer and record and the receiver apart. -/
def UserFrame (s t : State) : Prop :=
  ∃ ports assocs slots fifo lanes verify events lost, t = { s with
    ports := ports, assocs := assocs, slots := slots, expansionFifo := fifo, lanes := lanes, verifyQueue := verify
    events := events, eventsLost := lost }

theorem UserFrame.refl (s : State) : UserFrame s s := ⟨_, _, _, _, _, _, _, _, rfl⟩

theorem UserFrame.trans (h : UserFrame s t) (g : UserFrame t u) : UserFrame s u := by
  obtain ⟨_, _, _, _, _, _, _, _, rfl⟩ := h
  obtain ⟨_, _, _, _, _, _, _, _, rfl⟩ := g
  exact ⟨_, _, _, _, _, _, _, _, rfl⟩

theorem foldl_userFrame {α : Type} {f : State → α → State} (h : ∀ s x, UserFrame s (f s x)) (xs : List α) (s : State) :
    UserFrame s (xs.foldl f s) :=
  foldl_keeps (UserFrame s) f (fun _ x ht => ht.trans (h _ x)) xs s (.refl s)

theorem userFrame_of_inhibitFrame (h : InhibitFrame s t) : UserFrame s t := by
  obtain ⟨_, _, _, _, _, _, _, rfl⟩ := h
  exact ⟨_, _, _, _, _, _, _, _, rfl⟩

theorem userFrame_of_portFrame (h : PortFrame s t) : UserFrame s t := userFrame_of_inhibitFrame (inhibitFrame_of_portFrame h)

theorem updAssoc_userFrame (a : Anum) (f : Assoc → Assoc) (s : State) : UserFrame s (s.updAssoc a f) :=
  ⟨_, _, _, _, _, _, _, _, rfl⟩

theorem updSlot_userFrame (k : SlotNum) (f : Slot → Slot) (s : State) : UserFrame s (s.updSlot k f) :=
  ⟨_, _, _, _, _, _, _, _, rfl⟩

theorem raiseEvent_userFrame (kind : EventKind) (source : EventSource) (detail : BitVec 16) (s : State) :
    UserFrame s (raiseEvent kind source detail s) := userFrame_of_portFrame (raiseEvent_portFrame ..)

theorem withdrawVerifies_userFrame (a : Anum) (s : State) : UserFrame s (withdrawVerifies a s) := by
  obtain ⟨-, _, _, _, h⟩ := withdrawVerifies_verifyFrame a s
  rw [h]
  exact ⟨_, _, _, _, _, _, _, _, rfl⟩

theorem cutOver_userFrame (a : Anum) (s : State) : UserFrame s (cutOver a s) := by
  cases hk : (s.assoc a).next with
  | none =>
    simp only [cutOver, hk]
    exact .refl s
  | some k =>
    rw [cutOver_eq hk]
    exact ((updSlot_userFrame ..).trans ((updAssoc_userFrame ..).trans
      ((userFrame_of_portFrame (outgoingLeaves_slotFrame ..).portFrame).trans (updAssoc_userFrame ..)))).trans
      ((raiseEvent_userFrame ..).trans (withdrawVerifies_userFrame ..))

theorem beginSwitch_userFrame (a : Anum) (s : State) : UserFrame s (beginSwitch a s) := by
  cases hpolicy : (s.assoc a).confirmPolicy with
  | confirmed =>
    rw [beginSwitch_confirmed hpolicy]
    exact (updAssoc_userFrame ..).trans (userFrame_of_portFrame (updPort_portFrame ..))
  | unilateral =>
    rw [beginSwitch_unilateral hpolicy]
    exact (updAssoc_userFrame ..).trans (cutOver_userFrame ..)

theorem handTrigger_userFrame (a : Anum) (kind : TriggerKind) (s : State) : UserFrame s (handTrigger a kind s) := by
  unfold handTrigger
  dsimp only
  split
  · split
    · split_ifs
      · exact beginSwitch_userFrame a s
      · exact updAssoc_userFrame ..
      · exact (updAssoc_userFrame ..).trans (raiseEvent_userFrame ..)
    · split_ifs
      · exact .refl s
      · exact (updAssoc_userFrame ..).trans (raiseEvent_userFrame ..)
  · exact .refl s

theorem endAttempt_userFrame (a : Anum) (s : State) : UserFrame s (endAttempt a s) := by
  cases hx : (s.assoc a).attempt with
  | none =>
    simp only [endAttempt, hx]
    exact .refl s
  | some x =>
    by_cases h : x.step < (s.port (s.assoc a).port).lastStep
    · rw [endAttempt_next hx h]
      exact (updAssoc_userFrame ..).trans (userFrame_of_portFrame (updPort_portFrame ..))
    · rw [endAttempt_giveUp hx (Nat.le_of_not_lt h), giveUp_eq]
      exact .trans (t := leaveControlQueue a s) (userFrame_of_portFrame (updPort_portFrame ..))
        ((updAssoc_userFrame ..).trans (raiseEvent_userFrame ..))

theorem settlePulse_portFrame (s : State) (p : PortNum) : PortFrame s (settlePulse s p) := by
  unfold settlePulse
  split_ifs
  · exact (updPort_portFrame ..).trans (raiseEvent_portFrame ..)
  · exact updPort_portFrame ..
  · exact .refl s

/-- The three things that a fine pulse can do to an attempt (R143, R144). -/
theorem attemptPulse_cases (s : State) (a : Anum) :
    (attemptPulse s a = endAttempt a s ∧ ∃ x, (s.assoc a).attempt = some x ∧ x.status = .issued ∧ x.pulses ≤ 1)
      ∨ (∃ x, (s.assoc a).attempt = some x ∧ x.status = .issued ∧ 1 < x.pulses
        ∧ attemptPulse s a = s.updAssoc a fun y => { y with attempt := some { x with pulses := x.pulses - 1 } })
      ∨ (attemptPulse s a = s ∧ ∀ x, (s.assoc a).attempt = some x → x.status ≠ .issued) := by
  cases hx : (s.assoc a).attempt with
  | none => exact .inr (.inr ⟨by simp only [attemptPulse, hx], nofun⟩)
  | some x =>
    by_cases hissued : x.status = .issued
    · by_cases hlast : x.pulses ≤ 1
      · exact .inl ⟨by simp only [attemptPulse, hx, hissued, hlast, if_true], x, rfl, hissued, hlast⟩
      · exact .inr (.inl ⟨x, rfl, hissued, Nat.lt_of_not_le hlast,
          by simp only [attemptPulse, hx, hissued, hlast, if_true, if_false]⟩)
    · exact .inr (.inr ⟨by simp only [attemptPulse, hx, hissued, if_false], fun y hy => Option.some.inj hy ▸ hissued⟩)

theorem attemptPulse_userFrame (s : State) (a : Anum) : UserFrame s (attemptPulse s a) := by
  obtain ⟨h, -⟩ | ⟨_, -, -, -, h⟩ | ⟨h, -⟩ := attemptPulse_cases s a <;> rw [h]
  · exact endAttempt_userFrame ..
  · exact updAssoc_userFrame ..
  · exact .refl s

/-- The lifetime of an association counts at pulses of a scale (R127). -/
def Ages (scale : LifetimeScale) (x : Assoc) : Prop :=
  x.lifetimeScale = scale ∧ x.state.inService = true ∧ 0 < x.lifetimeReload

/-- The record once its lifetime has counted one pulse (R127). -/
def Assoc.aged (x : Assoc) : Assoc := { x with lifetimeRemaining := x.lifetimeRemaining - 1 }

/-- The three things that a pulse can do to a lifetime (R127). -/
theorem lifetimePulse_cases (scale : LifetimeScale) (s : State) (a : Anum) :
    (Ages scale (s.assoc a) ∧ (s.assoc a).lifetimeRemaining ≤ 1
        ∧ lifetimePulse scale s a = handTrigger a .expiry (s.updAssoc a Assoc.aged))
      ∨ (Ages scale (s.assoc a) ∧ 1 < (s.assoc a).lifetimeRemaining
        ∧ lifetimePulse scale s a = s.updAssoc a Assoc.aged)
      ∨ (¬Ages scale (s.assoc a) ∧ lifetimePulse scale s a = s) := by
  by_cases hages : Ages scale (s.assoc a)
  · by_cases hlast : (s.assoc a).lifetimeRemaining ≤ 1
    · exact .inl ⟨hages, hlast, (if_pos hages).trans (if_pos hlast)⟩
    · exact .inr (.inl ⟨hages, Nat.lt_of_not_le hlast, (if_pos hages).trans (if_neg hlast)⟩)
  · exact .inr (.inr ⟨hages, if_neg hages⟩)

theorem lifetimePulse_userFrame (scale : LifetimeScale) (s : State) (a : Anum) :
    UserFrame s (lifetimePulse scale s a) := by
  obtain ⟨-, -, h⟩ | ⟨-, -, h⟩ | ⟨-, h⟩ := lifetimePulse_cases scale s a <;> rw [h]
  · exact (updAssoc_userFrame ..).trans (handTrigger_userFrame ..)
  · exact updAssoc_userFrame ..
  · exact .refl s

theorem abandonExchange_userFrame (cause : AbortCause) (s : State) (a : Anum) : UserFrame s (abandonExchange cause s a) :=
  userFrame_of_inhibitFrame (abandonExchange_inhibitFrame ..)

/-- The state in which the current slot of an association is lost, and its exchange abandoned (R58, R156). -/
def currentDropped (a : Anum) (s : State) : State :=
  abandonExchange .currentKeyLost (s.updAssoc a fun x => { x with current := none }) a

theorem loseCurrent_eq (a : Anum) (s : State) : loseCurrent a s = withdrawVerifies a (raiseEvent .assocFaulted (.assoc a) 0
    ((currentDropped a s).updAssoc a fun x => { x.clearFlags with state := .faulted })) := rfl

/-- The state in which the next slot of an association is lost, and its exchange abandoned (R59, R156). -/
def nextDropped (a : Anum) (s : State) : State :=
  abandonExchange .nextKeyLost (s.updAssoc a fun x => { x with next := none }) a

/-- A key is wanted for a switch that is held pending under AUTO (R134). -/
theorem loseNext_wanted {kind : TriggerKind} (hauto : ((nextDropped a s).assoc a).triggerPolicy = .auto)
    (hpending : ((nextDropped a s).assoc a).switchPending = true)
    (hkind : ((nextDropped a s).assoc a).pendingKind = some kind) : loseNext a s
      = withdrawVerifies a (raiseEvent .keyWanted (.assoc a) (kind.code.setWidth 16) (nextDropped a s)) := by
  unfold nextDropped at hauto hpending hkind
  simp only [loseNext, hauto, hpending, hkind]
  rfl

theorem loseNext_cases (a : Anum) (s : State) : loseNext a s = withdrawVerifies a (nextDropped a s)
    ∨ ∃ detail, loseNext a s = withdrawVerifies a (raiseEvent .keyWanted (.assoc a) detail (nextDropped a s)) := by
  cases hauto : ((nextDropped a s).assoc a).triggerPolicy with
  | manual =>
    unfold nextDropped at hauto
    exact .inl (by simp only [loseNext, hauto]; rfl)
  | auto =>
    cases hpending : ((nextDropped a s).assoc a).switchPending with
    | false =>
      unfold nextDropped at hauto hpending
      exact .inl (by simp only [loseNext, hauto, hpending]; rfl)
    | true =>
      cases hkind : ((nextDropped a s).assoc a).pendingKind with
      | none =>
        unfold nextDropped at hauto hpending hkind
        exact .inl (by simp only [loseNext, hauto, hpending, hkind]; rfl)
      | some kind => exact .inr ⟨_, loseNext_wanted hauto hpending hkind⟩

theorem currentDropped_userFrame (a : Anum) (s : State) : UserFrame s (currentDropped a s) :=
  (updAssoc_userFrame ..).trans (abandonExchange_userFrame ..)

theorem nextDropped_userFrame (a : Anum) (s : State) : UserFrame s (nextDropped a s) :=
  (updAssoc_userFrame ..).trans (abandonExchange_userFrame ..)

theorem loseCurrent_userFrame (a : Anum) (s : State) : UserFrame s (loseCurrent a s) := by
  rw [loseCurrent_eq]
  exact (currentDropped_userFrame a s).trans
    ((updAssoc_userFrame ..).trans ((raiseEvent_userFrame ..).trans (withdrawVerifies_userFrame ..)))

theorem loseNext_userFrame (a : Anum) (s : State) : UserFrame s (loseNext a s) := by
  obtain h | ⟨_, h⟩ := loseNext_cases a s <;> rw [h]
  · exact (nextDropped_userFrame a s).trans (withdrawVerifies_userFrame ..)
  · exact (nextDropped_userFrame a s).trans ((raiseEvent_userFrame ..).trans (withdrawVerifies_userFrame ..))

theorem loseKey_userFrame (was : Slot) (k : SlotNum) (s : State) : UserFrame s (loseKey was k s) := by
  unfold loseKey
  split
  · split
    · exact loseCurrent_userFrame ..
    · exact .refl s
  · split
    · exact loseNext_userFrame ..
    · exact .refl s
  · exact .refl s

/-- The state in which a slot has failed its scrub, and is counted. -/
def scrubFailed (k : SlotNum) (s : State) : State :=
  countScrubFault (raiseEvent .scrubFault (.slot k) (scrubDetail (s.slot k).state) (s.updSlot k Slot.faulted))

theorem scrubFailure_eq (k : SlotNum) (s : State) :
    scrubFailure k s = loseKey (s.slot k) k (condemnEntries k (scrubFailed k s)) := rfl

theorem scrubFailure_frame (k : SlotNum) (s : State) :
    UserFrame { s with hwFaults := { s.hwFaults with scrubFaults := min (s.hwFaults.scrubFaults + 1) 255 } }
      (scrubFailure k s) := by
  obtain ⟨_, _, hraise⟩ := raiseEvent_lists .scrubFault (.slot k) (scrubDetail (s.slot k).state) (s.updSlot k Slot.faulted)
  have hfailed : UserFrame { s with hwFaults := { s.hwFaults with scrubFaults := min (s.hwFaults.scrubFaults + 1) 255 } }
      (scrubFailed k s) := by
    rw [scrubFailed, hraise]
    exact ⟨_, _, _, _, _, _, _, _, rfl⟩
  rw [scrubFailure_eq]
  exact hfailed.trans ((userFrame_of_portFrame (condemnEntries_portFrame ..)).trans (loseKey_userFrame ..))

theorem scrub_failing (h : (s.slot s.scrubPointer).state.scrubbed = true) (hbad : (s.slot s.scrubPointer).intact = false) :
    scrub s = { scrubFailure s.scrubPointer s with scrubPointer := s.scrubPointer + 1 } := by
  simp [scrub, h, hbad]

theorem scrub_passing (h : ScrubPasses s) : scrub s = { s with scrubPointer := s.scrubPointer + 1 } := by
  unfold scrub
  dsimp only
  rw [if_neg]
  intro hfails
  obtain ⟨hscrubbed, hbad⟩ := Bool.and_eq_true_iff.mp hfails
  rw [h hscrubbed] at hbad
  cases hbad

/-- A scrub touches the scrubber's record and pointer beside what every user of the pulse may touch. -/
theorem scrub_frame (s : State) :
    ∃ hw, UserFrame { s with hwFaults := hw, scrubPointer := s.scrubPointer + 1 } (scrub s) := by
  by_cases h : (s.slot s.scrubPointer).state.scrubbed = true ∧ (s.slot s.scrubPointer).intact = false
  · obtain ⟨_, _, _, _, _, _, _, _, hframe⟩ := scrubFailure_frame s.scrubPointer s
    rw [scrub_failing h.1 h.2, hframe]
    exact ⟨_, _, _, _, _, _, _, _, _, rfl⟩
  · have hpasses : ScrubPasses s := fun hs => Bool.not_eq_false _ ▸ fun hb => h ⟨hs, hb⟩
    rw [scrub_passing hpasses]
    exact ⟨_, .refl _⟩

/-! ## The cores of the ports -/

/-- Of each port only its traffic, its queues and its counters have changed. -/
structure CoresStand (s t : State) : Prop where
  core : ∀ p, (t.port p).core = (s.port p).core

theorem CoresStand.refl (s : State) : CoresStand s s := ⟨fun _ => rfl⟩

theorem CoresStand.trans (h : CoresStand s t) (g : CoresStand t u) : CoresStand s u := ⟨fun p => (g.core p).trans (h.core p)⟩

theorem foldl_coresStand {α : Type} {f : State → α → State} (h : ∀ s x, CoresStand s (f s x)) (xs : List α) (s : State) :
    CoresStand s (xs.foldl f s) :=
  foldl_keeps (CoresStand s) f (fun _ x ht => ht.trans (h _ x)) xs s (.refl s)

theorem coresStand_of_ports (h : ∀ p, t.port p = s.port p) : CoresStand s t := ⟨fun p => by rw [h p]⟩

theorem raiseEvent_coresStand (kind : EventKind) (source : EventSource) (detail : BitVec 16) (s : State) :
    CoresStand s (raiseEvent kind source detail s) := coresStand_of_ports fun _ => State.port_raiseEvent ..

theorem updAssoc_coresStand (a : Anum) (f : Assoc → Assoc) (s : State) : CoresStand s (s.updAssoc a f) := ⟨fun _ => rfl⟩

theorem updPort_coresStand (p : PortNum) {f : Port → Port} (hf : ∀ x, (f x).core = x.core) (s : State) :
    CoresStand s (s.updPort p f) := by
  refine ⟨fun q => ?_⟩
  rw [State.port_updPort]
  split
  · next h => rw [hf, h]
  · rfl

theorem keepsPorts_coresStand (h : KeepsPorts s t) : CoresStand s t := ⟨core_of_keepsPorts h⟩

theorem abandonExchange_coresStand (cause : AbortCause) (s : State) (a : Anum) :
    CoresStand s (abandonExchange cause s a) := by
  refine ⟨fun p => ?_⟩
  rw [port_abandonExchange]
  rfl

theorem endAttempt_coresStand (a : Anum) (s : State) : CoresStand s (endAttempt a s) := by
  cases hx : (s.assoc a).attempt with
  | none =>
    simp only [endAttempt, hx]
    exact .refl s
  | some x =>
    by_cases h : x.step < (s.port (s.assoc a).port).lastStep
    · rw [endAttempt_next hx h]
      exact (updAssoc_coresStand ..).trans
        (updPort_coresStand _ (f := fun y => { y with controlQueue := y.controlQueue ++ [a] }) (fun _ => rfl) _)
    · rw [endAttempt_giveUp hx (Nat.le_of_not_lt h), giveUp_eq]
      exact .trans (t := leaveControlQueue a s)
        (updPort_coresStand _ (f := fun y => { y with controlQueue := y.controlQueue.filter (· != a) }) (fun _ => rfl) _)
        ((updAssoc_coresStand ..).trans (raiseEvent_coresStand ..))

theorem attemptPulse_coresStand (s : State) (a : Anum) : CoresStand s (attemptPulse s a) := by
  obtain ⟨h, -⟩ | ⟨_, -, -, -, h⟩ | ⟨h, -⟩ := attemptPulse_cases s a <;> rw [h]
  · exact endAttempt_coresStand ..
  · exact updAssoc_coresStand ..
  · exact .refl s

theorem lifetimePulse_keepsPorts (scale : LifetimeScale) (s : State) (a : Anum) :
    KeepsPorts s (lifetimePulse scale s a) := by
  obtain ⟨-, -, h⟩ | ⟨-, -, h⟩ | ⟨-, h⟩ := lifetimePulse_cases scale s a <;> rw [h]
  · exact (updAssoc_keepsPorts ..).trans (handTrigger_keepsPorts ..)
  · exact updAssoc_keepsPorts ..
  · exact .refl s

theorem removeEntries_coresStand (p : PortNum) (test : Entry → Bool) (c : PortCounter) (s : State) :
    CoresStand s (removeEntries p test c s) := by
  refine ⟨fun q => ?_⟩
  rw [port_removeEntries]
  split <;> rfl

theorem discardHeads_coresStand (p : PortNum) (s : State) : CoresStand s (discardHeads p s) := by
  refine ⟨fun q => ?_⟩
  rw [port_discardHeads]
  split <;> rfl

theorem settlePasses_coresStand (p : PortNum) (s : State) : CoresStand s (settlePasses p s) :=
  updPort_coresStand p (f := fun x => { x with sequence := finishPasses s.inhibited x.sequence }) (fun _ => rfl) s

theorem condemnOnPort_coresStand (k : SlotNum) (s : State) (p : PortNum) : CoresStand s (condemnOnPort k s p) :=
  (removeEntries_coresStand ..).trans ((settlePasses_coresStand ..).trans (discardHeads_coresStand ..))

theorem loseCurrent_coresStand (a : Anum) (s : State) : CoresStand s (loseCurrent a s) := by
  have hdropped : CoresStand s (currentDropped a s) := .trans (updAssoc_coresStand ..) (abandonExchange_coresStand ..)
  rw [loseCurrent_eq]
  exact hdropped.trans ((updAssoc_coresStand ..).trans ((raiseEvent_coresStand ..).trans
    (keepsPorts_coresStand (withdrawVerifies_keepsPorts ..))))

theorem loseNext_coresStand (a : Anum) (s : State) : CoresStand s (loseNext a s) := by
  have hdropped : CoresStand s (nextDropped a s) := .trans (updAssoc_coresStand ..) (abandonExchange_coresStand ..)
  have hwithdraw (u : State) : CoresStand u (withdrawVerifies a u) := keepsPorts_coresStand (withdrawVerifies_keepsPorts a u)
  obtain h | ⟨_, h⟩ := loseNext_cases a s <;> rw [h]
  · exact hdropped.trans (hwithdraw _)
  · exact hdropped.trans ((raiseEvent_coresStand ..).trans (hwithdraw _))

theorem loseKey_coresStand (was : Slot) (k : SlotNum) (s : State) : CoresStand s (loseKey was k s) := by
  unfold loseKey
  split
  · split
    · exact loseCurrent_coresStand ..
    · exact .refl s
  · split
    · exact loseNext_coresStand ..
    · exact .refl s
  · exact .refl s

theorem scrubFailed_coresStand (k : SlotNum) (s : State) : CoresStand s (scrubFailed k s) := by
  have hraise := raiseEvent_coresStand .scrubFault (.slot k) (scrubDetail (s.slot k).state) (s.updSlot k Slot.faulted)
  exact ⟨hraise.core⟩

theorem scrub_coresStand (s : State) : CoresStand s (scrub s) := by
  by_cases h : (s.slot s.scrubPointer).state.scrubbed = true ∧ (s.slot s.scrubPointer).intact = false
  · rw [scrub_failing h.1 h.2]
    have hfailure : CoresStand s (scrubFailure s.scrubPointer s) := by
      rw [scrubFailure_eq]
      exact (scrubFailed_coresStand ..).trans
        ((foldl_coresStand (condemnOnPort_coresStand _) allPorts _).trans (loseKey_coresStand ..))
    exact ⟨hfailure.core⟩
  · have hpasses : ScrubPasses s := fun hs => Bool.not_eq_false _ ▸ fun hb => h ⟨hs, hb⟩
    rw [scrub_passing hpasses]
    exact ⟨fun _ => rfl⟩

end Sys2Proof.Proofs
end

section
/-! SUPPORT. FINE_PULSE and COARSE_PULSE: the counts that go on (R14, R80, R124, R127, R143, R164). -/

/-! One theorem is checked after another, as in the tests, which bounds the threads that the whole text takes. -/
set_option Elab.async false

namespace Sys2Proof.Proofs

open Sys2Proof Sys2Proof.Machine

variable {s t u : State} {p q : PortNum} {a b : Anum} {k j : SlotNum} {x y : Assoc} {scale : LifetimeScale}

/-! ## Pulses that reach other associations -/

theorem assoc_beginSwitch_ne (h : b ≠ a) : (beginSwitch a s).assoc b = s.assoc b := by
  cases hpolicy : (s.assoc a).confirmPolicy with
  | confirmed =>
    rw [beginSwitch_confirmed hpolicy]
    exact State.assoc_updAssoc_ne _ _ h.symm
  | unilateral =>
    rw [beginSwitch_unilateral hpolicy]
    cases hk : ((s.updAssoc a Assoc.unflagged).assoc a).next with
    | none =>
      simp only [cutOver, hk]
      exact State.assoc_updAssoc_ne _ _ h.symm
    | some k =>
      rw [assoc_cutOver_ne hk h]
      exact State.assoc_updAssoc_ne _ _ h.symm

theorem assoc_handTrigger_ne (h : b ≠ a) (kind : TriggerKind) : (handTrigger a kind s).assoc b = s.assoc b := by
  have hset : (setPending a kind s).assoc b = s.assoc b := State.assoc_updAssoc_ne _ _ h.symm
  unfold handTrigger
  dsimp only
  split
  · split
    · split_ifs
      · exact assoc_beginSwitch_ne h
      · exact hset
      · rw [State.assoc_raiseEvent, hset]
    · split_ifs
      · rfl
      · rw [State.assoc_raiseEvent, State.assoc_updAssoc_ne _ _ h.symm]
  · rfl

theorem assoc_lifetimePulse_ne (h : b ≠ a) (scale : LifetimeScale) : (lifetimePulse scale s a).assoc b = s.assoc b := by
  obtain ⟨-, -, hp⟩ | ⟨-, -, hp⟩ | ⟨-, hp⟩ := lifetimePulse_cases scale s a <;> rw [hp]
  · rw [assoc_handTrigger_ne h, State.assoc_updAssoc_ne _ _ h.symm]
  · rw [State.assoc_updAssoc_ne _ _ h.symm]

theorem assoc_endAttempt_ne (h : b ≠ a) : (endAttempt a s).assoc b = s.assoc b := by
  cases hx : (s.assoc a).attempt with
  | none => simp only [endAttempt, hx]
  | some x =>
    by_cases hstep : x.step < (s.port (s.assoc a).port).lastStep
    · rw [endAttempt_next hx hstep]
      exact State.assoc_updAssoc_ne _ _ h.symm
    · rw [endAttempt_giveUp hx (Nat.le_of_not_lt hstep), assoc_giveUp_ne _ _ _ h]

theorem assoc_attemptPulse_ne (h : b ≠ a) : (attemptPulse s a).assoc b = s.assoc b := by
  obtain ⟨hp, -⟩ | ⟨_, -, -, -, hp⟩ | ⟨hp, -⟩ := attemptPulse_cases s a <;> rw [hp]
  · exact assoc_endAttempt_ne h
  · rw [State.assoc_updAssoc_ne _ _ h.symm]

/-- A part of the state that one step of a fold alone acts on, is after the fold what that step makes of it. -/
theorem foldl_once {σ α β : Type} {P : σ → Prop} {f : σ → α → σ} {g : σ → β} {a : α} (hP : ∀ s b, P s → P (f s b))
    (hne : ∀ s b, b ≠ a → g (f s b) = g s) {l : List α} (hl : l.Nodup) (ha : a ∈ l) {s : σ} (hs : P s) :
    ∃ u, P u ∧ g u = g s ∧ g (l.foldl f s) = g (f u a) := by
  obtain ⟨before, after, rfl⟩ := List.append_of_mem ha
  obtain ⟨-, hafter, hapart⟩ := List.nodup_append.mp hl
  have hkeeps (l : List α) (hl : a ∉ l) (s : σ) : g (l.foldl f s) = g s :=
    List.foldlRecOn l f (motive := fun t => g t = g s) rfl fun t ht b hb => (hne t b fun h => hl (h ▸ hb)).trans ht
  refine ⟨before.foldl f s, foldl_keeps P f hP before s hs,
    hkeeps before (fun h => hapart a h a List.mem_cons_self rfl) s, ?_⟩
  rw [List.foldl_append, List.foldl_cons, hkeeps after (List.nodup_cons.mp hafter).1]

theorem assoc_attemptPulses (s : State) (a : Anum) : ∃ u, u.assoc a = s.assoc a
    ∧ (allAnums.foldl attemptPulse s).assoc a = (attemptPulse u a).assoc a := by
  obtain ⟨u, -, h⟩ := foldl_once (P := fun _ => True) (g := fun s : State => s.assoc a) (a := a) (fun _ _ h => h)
    (fun s b hb => assoc_attemptPulse_ne (s := s) hb.symm) nodup_allAnums (mem_allAnums a) (s := s) trivial
  exact ⟨u, h⟩

theorem assoc_lifetimePulses (scale : LifetimeScale) (s : State) (a : Anum) : ∃ u, u.assoc a = s.assoc a
    ∧ (allAnums.foldl (lifetimePulse scale) s).assoc a = (lifetimePulse scale u a).assoc a := by
  obtain ⟨u, -, h⟩ := foldl_once (P := fun _ => True) (g := fun s : State => s.assoc a) (a := a) (fun _ _ h => h)
    (fun s b hb => assoc_lifetimePulse_ne (s := s) hb.symm scale) nodup_allAnums (mem_allAnums a) (s := s) trivial
  exact ⟨u, h⟩

/-! ## Pulses that reach an association -/

/-- Two records whose lifetimes count alike (R127). -/
structure SameLife (x y : Assoc) : Prop where
  scale : y.lifetimeScale = x.lifetimeScale
  reload : y.lifetimeReload = x.lifetimeReload
  remaining : y.lifetimeRemaining = x.lifetimeRemaining
  service : y.state.inService = x.state.inService

theorem SameLife.ages (h : SameLife x y) : Ages scale y ↔ Ages scale x := by
  rw [Ages, Ages, h.scale, h.reload, h.service]

theorem inService_afterGiveUp (z : AssocState) : (if z = .switching then AssocState.running else z).inService = z.inService := by
  cases z <;> rfl

/-- A pulse of an attempt timer leaves the lifetime (R143, R155). -/
theorem attemptPulse_sameLife (s : State) (a : Anum) : SameLife (s.assoc a) ((attemptPulse s a).assoc a) := by
  obtain ⟨hp, x, hx, -, -⟩ | ⟨_, -, -, -, hp⟩ | ⟨hp, -⟩ := attemptPulse_cases s a <;> rw [hp]
  · by_cases hstep : x.step < (s.port (s.assoc a).port).lastStep
    · rw [endAttempt_next hx hstep, nextAttempt, State.assoc_updPort, State.assoc_updAssoc_self]
      exact ⟨rfl, rfl, rfl, rfl⟩
    · rw [endAttempt_giveUp hx (Nat.le_of_not_lt hstep), assoc_giveUp_self]
      exact ⟨rfl, rfl, rfl, inService_afterGiveUp _⟩
  · rw [State.assoc_updAssoc_self]
    exact ⟨rfl, rfl, rfl, rfl⟩
  · exact ⟨rfl, rfl, rfl, rfl⟩

/-- A pulse of a lifetime leaves an attempt record (R130). -/
theorem attempt_lifetimePulse {x : Attempt} (h : (s.assoc a).attempt = some x) (scale : LifetimeScale) :
    ((lifetimePulse scale s a).assoc a).attempt = some x := by
  have haged : (s.updAssoc a Assoc.aged).assoc a = Assoc.aged (s.assoc a) := State.assoc_updAssoc_self ..
  have hattempt : ((s.updAssoc a Assoc.aged).assoc a).attempt = some x := by
    rw [haged]
    exact h
  obtain ⟨-, -, hp⟩ | ⟨-, -, hp⟩ | ⟨-, hp⟩ := lifetimePulse_cases scale s a <;> rw [hp]
  · rw [handTrigger_ignored, hattempt]
    intro htriggers
    rw [Triggerable, hattempt] at htriggers
    cases htriggers.2
  · exact hattempt
  · exact h

theorem lifetimePulse_counts (hages : Ages scale (s.assoc a)) (h : 1 < (s.assoc a).lifetimeRemaining) :
    (lifetimePulse scale s a).assoc a = Assoc.aged (s.assoc a) := by
  obtain ⟨-, hlast, -⟩ | ⟨-, -, hp⟩ | ⟨hnot, -⟩ := lifetimePulse_cases scale s a
  · omega
  · rw [hp, State.assoc_updAssoc_self]
  · exact absurd hages hnot

theorem lifetimePulse_rests (hages : ¬Ages scale (s.assoc a)) : (lifetimePulse scale s a).assoc a = s.assoc a := by
  obtain ⟨h, -⟩ | ⟨h, -⟩ | ⟨-, hp⟩ := lifetimePulse_cases scale s a
  · exact absurd h hages
  · exact absurd h hages
  · rw [hp]

/-! ## Links that settle -/

/-- A port after a fine pulse has reached its link (R14). -/
def settledOnce (x : Port) : Port :=
  if x.link = .settling then
    if x.settleRemaining ≤ 1 then { x with link := .up, settleRemaining := 0 }
    else { x with settleRemaining := x.settleRemaining - 1 }
  else x

theorem port_settlePulse_self (s : State) (p : PortNum) : (settlePulse s p).port p = settledOnce (s.port p) := by
  unfold settlePulse settledOnce
  split_ifs
  · rw [linkUp, State.port_raiseEvent, State.port_updPort_self]
  · rw [State.port_updPort_self]
  · rfl

theorem port_settlePulse_ne (s : State) (h : q ≠ p) : (settlePulse s p).port q = s.port q := by
  unfold settlePulse
  split_ifs
  · rw [linkUp, State.port_raiseEvent, State.port_updPort_ne _ _ h.symm]
  · rw [State.port_updPort_ne _ _ h.symm]
  · rfl

/-- The links of all ports have taken the pulse. -/
def linksPulsed (s : State) : State := allPorts.foldl settlePulse s

theorem port_linksPulsed (s : State) (p : PortNum) : (linksPulsed s).port p = settledOnce (s.port p) :=
  port_foldl (P := fun _ => True) (fun _ _ _ => trivial) (fun s p _ => port_settlePulse_self s p)
    (fun s _ _ h => port_settlePulse_ne s h.symm) trivial p

/-- The links touch the ports and the event list (R14). -/
def LinksFrame (s t : State) : Prop :=
  ∃ ports events lost, t = { s with ports := ports, events := events, eventsLost := lost }

theorem LinksFrame.refl (s : State) : LinksFrame s s := ⟨_, _, _, rfl⟩

theorem LinksFrame.trans (h : LinksFrame s t) (g : LinksFrame t u) : LinksFrame s u := by
  obtain ⟨_, _, _, rfl⟩ := h
  obtain ⟨_, _, _, rfl⟩ := g
  exact ⟨_, _, _, rfl⟩

theorem settlePulse_linksFrame (s : State) (p : PortNum) : LinksFrame s (settlePulse s p) := by
  unfold settlePulse
  split_ifs
  · obtain ⟨events, lost, h⟩ := raiseEvent_lists .linkUp (.port p) 0
      (s.updPort p fun x => { x with link := .up, settleRemaining := 0 })
    exact ⟨_, _, _, h⟩
  · exact ⟨_, _, _, rfl⟩
  · exact ⟨_, _, _, rfl⟩

theorem linksPulsed_linksFrame (s : State) : LinksFrame s (linksPulsed s) :=
  foldl_keeps (LinksFrame s) settlePulse (fun t p ht => ht.trans (settlePulse_linksFrame t p)) allPorts s (.refl s)

/-! ## The stages of a fine pulse -/

/-- The state after the links, the scrubber and the attempt timers. -/
def timersPulsed (s : State) : State := allAnums.foldl attemptPulse (scrub (linksPulsed s))

/-- The divider at a fine pulse (R124). -/
def divided (s : State) : State := { s with clockCount := 0, fineCount := (s.fineCount + 1) % 1024 }

/-- The state after all users of the fine pulse. -/
def finePulsed (s : State) : State := allAnums.foldl (lifetimePulse .fine) (gapPulse (timersPulsed (divided s)))

theorem finePulse_eq (s : State) : finePulse s = if (s.fineCount + 1) % 1024 = 0 then
    allAnums.foldl (lifetimePulse .coarse) (finePulsed s) else finePulsed s := rfl

/-- The gap limit touches the receiver, the fault list and the event list (R164). -/
theorem gapPulse_frame (s : State) : ∃ faults events lost, gapPulse s = { s with
    receiver := (gapPulse s).receiver, faultList := faults, events := events, eventsLost := lost } := by
  unfold gapPulse
  split
  · split
    · unfold abandonRecord recordFault
      obtain ⟨events, lost, h⟩ := raiseEvent_lists .mgmtFault .part _ _
      rw [h]
      exact ⟨_, _, _, rfl⟩
    · exact ⟨_, _, _, rfl⟩
  · exact ⟨_, _, _, rfl⟩

theorem receiver_gapPulse_hunt (h : s.receiver = .hunt) : (gapPulse s).receiver = .hunt := by
  simp only [gapPulse, h]

theorem receiver_gapPulse_ends {got : Bytes} {gap : Nat} (h : s.receiver = .record got gap) (hgap : gap ≤ 1) :
    (gapPulse s).receiver = .hunt := by
  simp only [gapPulse, h, hgap, if_true, abandonRecord, recordFault]
  obtain ⟨_, _, hraise⟩ := raiseEvent_lists .mgmtFault .part (FaultKind.framing.code.setWidth 16)
    { s with
      receiver := .hunt
      faultList := (if s.faultList.length < Config.faultCapacity then s.faultList else s.faultList.drop 1)
        ++ [{ kind := .framing, tag := got[3]?, requestCount := s.requestCount }] }
  exact (congrArg State.receiver hraise).trans rfl

theorem receiver_gapPulse_counts {got : Bytes} {gap : Nat} (h : s.receiver = .record got gap) (hgap : 1 < gap) :
    (gapPulse s).receiver = .record got (gap - 1) := by
  simp only [gapPulse, h, hgap.not_ge, if_false]

/-! ## What stands through a fine pulse -/

/-- The parts of the state that no user of a pulse touches (R124). -/
structure PartStands (s t : State) : Prop where
  clockCount : t.clockCount = s.clockCount
  fineCount : t.fineCount = s.fineCount
  steering : t.steering = s.steering
  transportKey : t.transportKey = s.transportKey
  partState : t.partState = s.partState
  inhibit : t.inhibit = s.inhibit
  pins : t.pins = s.pins
  replyOwed : t.replyOwed = s.replyOwed
  busyOwed : t.busyOwed = s.busyOwed

theorem PartStands.trans (h : PartStands s t) (g : PartStands t u) : PartStands s u :=
  ⟨g.clockCount.trans h.clockCount, g.fineCount.trans h.fineCount, g.steering.trans h.steering,
    g.transportKey.trans h.transportKey, g.partState.trans h.partState, g.inhibit.trans h.inhibit, g.pins.trans h.pins,
    g.replyOwed.trans h.replyOwed, g.busyOwed.trans h.busyOwed⟩

/-- What a user of the pulse leaves: the part, the scrub pointer and the receiver. -/
theorem userFrame_stands (h : UserFrame s t) :
    PartStands s t ∧ t.scrubPointer = s.scrubPointer ∧ t.receiver = s.receiver ∧ t.hwFaults = s.hwFaults := by
  obtain ⟨_, _, _, _, _, _, _, _, rfl⟩ := h
  exact ⟨⟨rfl, rfl, rfl, rfl, rfl, rfl, rfl, rfl, rfl⟩, rfl, rfl, rfl⟩

theorem linksFrame_stands (h : LinksFrame s t) : PartStands s t ∧ t.scrubPointer = s.scrubPointer
    ∧ t.receiver = s.receiver ∧ t.assocs = s.assocs ∧ t.slots = s.slots ∧ t.hwFaults = s.hwFaults := by
  obtain ⟨_, _, _, rfl⟩ := h
  exact ⟨⟨rfl, rfl, rfl, rfl, rfl, rfl, rfl, rfl, rfl⟩, rfl, rfl, rfl, rfl, rfl⟩

theorem scrub_stands (s : State) :
    PartStands s (scrub s) ∧ (scrub s).scrubPointer = s.scrubPointer + 1 ∧ (scrub s).receiver = s.receiver := by
  obtain ⟨_, h⟩ := scrub_frame s
  obtain ⟨hpart, hpointer, hreceiver, -⟩ := userFrame_stands h
  exact ⟨.trans (t := { s with hwFaults := _, scrubPointer := s.scrubPointer + 1 })
    ⟨rfl, rfl, rfl, rfl, rfl, rfl, rfl, rfl, rfl⟩ hpart, hpointer, hreceiver⟩

theorem gapPulse_stands (s : State) : PartStands s (gapPulse s) ∧ (gapPulse s).scrubPointer = s.scrubPointer
    ∧ (gapPulse s).assocs = s.assocs ∧ (gapPulse s).ports = s.ports ∧ (gapPulse s).slots = s.slots
    ∧ (gapPulse s).hwFaults = s.hwFaults := by
  obtain ⟨_, _, _, h⟩ := gapPulse_frame s
  generalize (gapPulse s).receiver = receiver at h
  rw [h]
  exact ⟨⟨rfl, rfl, rfl, rfl, rfl, rfl, rfl, rfl, rfl⟩, rfl, rfl, rfl, rfl, rfl⟩

theorem timersPulsed_stands (s : State) : PartStands s (timersPulsed s)
    ∧ (timersPulsed s).scrubPointer = s.scrubPointer + 1 ∧ (timersPulsed s).receiver = s.receiver := by
  obtain ⟨hlinks, lpointer, lreceiver, -⟩ := linksFrame_stands (linksPulsed_linksFrame s)
  obtain ⟨hscrub, spointer, sreceiver⟩ := scrub_stands (linksPulsed s)
  obtain ⟨htimers, tpointer, treceiver, -⟩ :=
    userFrame_stands (foldl_userFrame attemptPulse_userFrame allAnums (scrub (linksPulsed s)))
  exact ⟨hlinks.trans (hscrub.trans htimers), tpointer.trans (spointer.trans (by rw [lpointer])),
    treceiver.trans (sreceiver.trans lreceiver)⟩

theorem lifetimes_userFrame (s : State) : UserFrame (gapPulse (timersPulsed (divided s))) (finePulse s) := by
  have hfine : UserFrame (gapPulse (timersPulsed (divided s))) (finePulsed s) :=
    foldl_userFrame (lifetimePulse_userFrame .fine) allAnums _
  rw [finePulse_eq]
  split
  · exact hfine.trans (foldl_userFrame (lifetimePulse_userFrame .coarse) allAnums _)
  · exact hfine

theorem finePulse_stands (s : State) : PartStands (divided s) (finePulse s)
    ∧ (finePulse s).scrubPointer = s.scrubPointer + 1
    ∧ (finePulse s).receiver = (gapPulse (timersPulsed (divided s))).receiver := by
  obtain ⟨htimers, tpointer, -⟩ := timersPulsed_stands (divided s)
  obtain ⟨hgap, gpointer, -⟩ := gapPulse_stands (timersPulsed (divided s))
  obtain ⟨hlives, lpointer, lreceiver, -⟩ := userFrame_stands (lifetimes_userFrame s)
  exact ⟨htimers.trans (hgap.trans hlives), lpointer.trans (gpointer.trans tpointer), lreceiver⟩

theorem finePulse_coresStand (s : State) : CoresStand (linksPulsed (divided s)) (finePulse s) := by
  have htimers : CoresStand (linksPulsed (divided s)) (timersPulsed (divided s)) :=
    (scrub_coresStand _).trans (foldl_coresStand attemptPulse_coresStand allAnums _)
  have hgap : CoresStand (timersPulsed (divided s)) (gapPulse (timersPulsed (divided s))) := by
    obtain ⟨-, -, -, hports, -⟩ := gapPulse_stands (timersPulsed (divided s))
    exact coresStand_of_ports fun p => by rw [State.port, hports]; rfl
  have hlife (scale : LifetimeScale) (u : State) : CoresStand u (allAnums.foldl (lifetimePulse scale) u) :=
    foldl_coresStand (fun v a => keepsPorts_coresStand (lifetimePulse_keepsPorts scale v a)) allAnums u
  have hfine : CoresStand (linksPulsed (divided s)) (finePulsed s) := htimers.trans (hgap.trans (hlife ..))
  rw [finePulse_eq]
  split
  · exact hfine.trans (hlife ..)
  · exact hfine

/-- The link of a port after a fine pulse (R14). -/
theorem link_finePulse (s : State) (p : PortNum) : ((finePulse s).port p).link = (settledOnce (s.port p)).link
    ∧ ((finePulse s).port p).settleRemaining = (settledOnce (s.port p)).settleRemaining := by
  obtain ⟨-, hlink, -, -, hremaining, -⟩ := fields_of_core ((finePulse_coresStand s).core p)
  rw [port_linksPulsed] at hlink hremaining
  exact ⟨hlink, hremaining⟩

/-! ## The record of an association after a fine pulse -/

theorem assoc_scrub_passing (h : ScrubPasses s) (a : Anum) : (scrub s).assoc a = s.assoc a := by
  rw [scrub_passing h]
  rfl

theorem assoc_linksPulsed (s : State) (a : Anum) : (linksPulsed s).assoc a = s.assoc a := by
  obtain ⟨-, -, -, hassocs, -⟩ := linksFrame_stands (linksPulsed_linksFrame s)
  rw [State.assoc, hassocs]
  rfl

theorem scrubPasses_linksPulsed (h : ScrubPasses s) : ScrubPasses (linksPulsed s) := by
  obtain ⟨-, hpointer, -, -, hslots, -⟩ := linksFrame_stands (linksPulsed_linksFrame s)
  rw [ScrubPasses, State.slot, hpointer, hslots]
  exact h

/-- The record after its attempt timer, and after the two lifetimes that may count, from what the scrubber leaves of it. -/
theorem assoc_finePulse (s : State) (a : Anum) : ∃ u v w : State,
    u.assoc a = (scrub (linksPulsed (divided s))).assoc a
    ∧ v.assoc a = (attemptPulse u a).assoc a
    ∧ w.assoc a = (lifetimePulse .fine v a).assoc a
    ∧ (finePulse s).assoc a = if (s.fineCount + 1) % 1024 = 0 then (lifetimePulse .coarse w a).assoc a else w.assoc a := by
  obtain ⟨u, hu, htimers⟩ := assoc_attemptPulses (scrub (linksPulsed (divided s))) a
  obtain ⟨-, -, gassocs, -⟩ := gapPulse_stands (timersPulsed (divided s))
  obtain ⟨v, hv, hfine⟩ := assoc_lifetimePulses .fine (gapPulse (timersPulsed (divided s))) a
  have hgap : (gapPulse (timersPulsed (divided s))).assoc a = (timersPulsed (divided s)).assoc a := by
    rw [State.assoc, gassocs]
    rfl
  obtain ⟨w, hw, hcoarse⟩ := assoc_lifetimePulses .coarse (finePulsed s) a
  refine ⟨u, v, w, hu, hv.trans (hgap.trans htimers), hw.trans hfine, ?_⟩
  rw [finePulse_eq, apply_ite (State.assoc · a), hcoarse, ← hw]

theorem assoc_scrubbed_passing (h : ScrubPasses s) (a : Anum) :
    (scrub (linksPulsed (divided s))).assoc a = s.assoc a :=
  (assoc_scrub_passing (scrubPasses_linksPulsed (s := divided s) h) a).trans (assoc_linksPulsed (divided s) a)

/-- An attempt whose timer goes on, or does not run, stands at its place after the whole pulse (R143). -/
theorem attempt_finePulse {x : Attempt} (hpasses : ScrubPasses s)
    (h : ∀ u : State, u.assoc a = s.assoc a → ((attemptPulse u a).assoc a).attempt = some x) :
    ((finePulse s).assoc a).attempt = some x := by
  obtain ⟨u, v, w, hu, hv, hw, hpulse⟩ := assoc_finePulse s a
  rw [assoc_scrubbed_passing hpasses] at hu
  have hwx : (w.assoc a).attempt = some x := by
    rw [hw]
    refine attempt_lifetimePulse ?_ _
    rw [hv]
    exact h u hu
  rw [hpulse]
  split
  · exact attempt_lifetimePulse hwx _
  · exact hwx

/-- Lifetime remaining after a fine pulse, where it does not run out (R127). -/
theorem lifetimeRemaining_finePulse (hpasses : ScrubPasses s) (hages : Ages scale (s.assoc a))
    (hmore : 1 < (s.assoc a).lifetimeRemaining) :
    ((finePulse s).assoc a).lifetimeRemaining = (s.assoc a).lifetimeRemaining
      - (if scale = .fine ∨ (s.fineCount + 1) % 1024 = 0 then 1 else 0) := by
  obtain ⟨u, v, w, hu, hv, hw, hpulse⟩ := assoc_finePulse s a
  rw [assoc_scrubbed_passing hpasses] at hu
  have hlife : SameLife (s.assoc a) (v.assoc a) := by
    rw [hv, ← hu]
    exact attemptPulse_sameLife u a
  have hapart {x : Assoc} (hx : Ages scale x) {other : LifetimeScale} (hne : scale ≠ other) : ¬Ages other x :=
    fun h => hne (hx.1.symm.trans h.1)
  have hv' : Ages scale (v.assoc a) := hlife.ages.mpr hages
  cases scale with
  | fine =>
    have haged : w.assoc a = Assoc.aged (v.assoc a) := hw.trans (lifetimePulse_counts hv' (by rw [hlife.remaining]; exact hmore))
    have hwAges : Ages .fine (w.assoc a) := by
      rw [haged]
      exact hv'
    rw [hpulse, lifetimePulse_rests (hapart hwAges (by decide)), ite_self, haged]
    simp only [Assoc.aged, hlife.remaining, true_or, if_true]
  | coarse =>
    have hsame : w.assoc a = v.assoc a := hw.trans (lifetimePulse_rests (hapart hv' (by decide)))
    rw [hpulse]
    split
    · next hzero =>
      rw [lifetimePulse_counts (by rw [hsame]; exact hv') (by rw [hsame, hlife.remaining]; exact hmore), hsame]
      simp only [Assoc.aged, hlife.remaining, hzero, or_true, if_true]
    · next hnot =>
      rw [hsame, hlife.remaining]
      simp [hnot]

/-! ## FINE_PULSE and COARSE_PULSE -/

theorem exec_finePulse {drift : Option KeyDrift} (hreset : s.pins.resetLow = false)
    (hdue : ¬(s.partState = .testing ∧ s.fineCount = 32)) :
    exec (.finePulse drift) s = .next (finePulse (applyDrift drift s)) := by
  show execFinePulse drift s = _
  rw [execFinePulse, unlessHeld_released hreset, endDueSelfTest_of_not_due hdue]

theorem exec_finePulse_none (hreset : s.pins.resetLow = false) (hdue : ¬(s.partState = .testing ∧ s.fineCount = 32)) :
    exec (.finePulse none) s = .next (finePulse s) := exec_finePulse hreset hdue

theorem exec_coarsePulse {drift : Option KeyDrift} (hreset : s.pins.resetLow = false) (h : s.fineCount = 1023) :
    exec (.coarsePulse drift) s = .next (finePulse (applyDrift drift s)) := by
  show execCoarsePulse drift s = _
  rw [execCoarsePulse, unlessHeld_released hreset, h]
  rfl

theorem fineCount_applyDrift (drift : Option KeyDrift) (s : State) : (applyDrift drift s).fineCount = s.fineCount := by
  cases drift <;> rfl

/-- Settles O9: each count of the pulse by the user that it reaches. -/
theorem finePulseReachesItsUsers : Obligations.FinePulseReachesItsUsers := by
  refine ⟨fun s hreset hdue => ?_, fun drift s hreset h => ?_⟩
  · obtain ⟨hpart, hpointer, hreceiver⟩ := finePulse_stands s
    obtain ⟨-, -, hwas⟩ := timersPulsed_stands (divided s)
    refine ⟨_, exec_finePulse_none hreset hdue, hpart.clockCount, hpart.fineCount, hpointer, fun p hsettling hlast => ?ends,
      fun p hsettling hmore => ?counts, fun p hnot => ?rests, fun h => ?hunts, fun got gap h hmore => ?gapCounts,
      fun got gap h hlast => ?gapEnds, fun hpasses => ⟨fun a x hx hissued hmore => ?attempt, fun a x hx hqueued => ?queued,
      fun a hscale hservice hreload hmore => ?fine, fun a hscale hservice hreload hmore => ?coarse⟩,
      hpart.steering, hpart.transportKey, hpart.partState, hpart.inhibit, hpart.pins, hpart.replyOwed, hpart.busyOwed⟩
    case ends =>
      refine (link_finePulse s p).1.trans ?_
      simp only [settledOnce, hsettling, hlast, if_true]
    case counts =>
      have hlink := link_finePulse s p
      simp only [settledOnce, hsettling, hmore.not_ge, if_true, if_false] at hlink
      exact hlink
    case rests =>
      refine (link_finePulse s p).1.trans ?_
      simp only [settledOnce, hnot, if_false]
    case hunts => exact hreceiver.trans (receiver_gapPulse_hunt (hwas.trans h))
    case gapCounts => exact hreceiver.trans (receiver_gapPulse_counts (hwas.trans h) hmore)
    case gapEnds => exact hreceiver.trans (receiver_gapPulse_ends (hwas.trans h) hlast)
    case attempt =>
      refine attempt_finePulse hpasses fun u hu => ?_
      rw [← hu] at hx
      obtain ⟨-, y, hy, -, hlast⟩ | ⟨y, hy, -, -, hp⟩ | ⟨-, hnot⟩ := attemptPulse_cases u a
      · obtain rfl := Option.some.inj (hx.symm.trans hy)
        omega
      · obtain rfl := Option.some.inj (hx.symm.trans hy)
        rw [hp, State.assoc_updAssoc_self]
      · exact absurd hissued (hnot x hx)
    case queued =>
      refine attempt_finePulse hpasses fun u hu => ?_
      rw [← hu] at hx
      have hnot : x.status ≠ .issued := by
        rw [hqueued]
        decide
      obtain ⟨-, y, hy, hissued, -⟩ | ⟨y, hy, hissued, -⟩ | ⟨hp, -⟩ := attemptPulse_cases u a
      · exact absurd (Option.some.inj (hx.symm.trans hy) ▸ hissued) hnot
      · exact absurd (Option.some.inj (hx.symm.trans hy) ▸ hissued) hnot
      · rw [hp, hx]
    case fine =>
      refine (lifetimeRemaining_finePulse hpasses ⟨hscale, hservice, hreload⟩ hmore).trans ?_
      rw [if_pos (.inl rfl)]
    case coarse =>
      refine (lifetimeRemaining_finePulse hpasses ⟨hscale, hservice, hreload⟩ hmore).trans ?_
      simp
  · have hdue : ¬(s.partState = .testing ∧ s.fineCount = 32) := by
      rw [h]
      simp
    refine ⟨(exec_coarsePulse hreset h).trans (exec_finePulse hreset hdue).symm, _, exec_coarsePulse hreset h, ?_⟩
    refine (finePulse_stands (applyDrift drift s)).1.fineCount.trans ?_
    show ((applyDrift drift s).fineCount + 1) % 1024 = 0
    rw [fineCount_applyDrift, h]

end Sys2Proof.Proofs

end

section
/-! SUPPORT. The end of the self-test (R184): what each failed unit does to the lanes, to the hardware fault record and to
the event list. -/

/-! One theorem is checked after another, as in the tests, which bounds the threads that the whole text takes. -/
set_option Elab.async false

namespace Sys2Proof.Proofs

open Sys2Proof Sys2Proof.Machine

variable {s t : State} {r : SelfTestResult}

/-! ## The lanes and the hardware fault record -/

theorem lane_failLane (r : SelfTestResult) (s : State) (l m : LaneNum) :
    (failLane r s l).lane m = if l = m ∧ row r.lanes l = true then .outOfService else s.lane m := by
  unfold failLane
  split
  · next h =>
    rw [State.lane_raiseEvent, h]
    refine (State.lane_setLane s l m .outOfService).trans ?_
    simp
  · next h => simp [h]

theorem hwFaults_failLane (r : SelfTestResult) (s : State) (l : LaneNum) : (failLane r s l).hwFaults
    = if row r.lanes l = true then { s.hwFaults with lanesFailed := setRow s.hwFaults.lanesFailed l true }
      else s.hwFaults := by
  unfold failLane
  split <;> simp

theorem lanesFailed_failLane (r : SelfTestResult) (s : State) (l m : LaneNum) :
    row (failLane r s l).hwFaults.lanesFailed m
      = ((decide (l = m) && row r.lanes l) || row s.hwFaults.lanesFailed m) := by
  rw [hwFaults_failLane]
  split
  · next h =>
    rw [row_setRow, h]
    by_cases hm : l = m <;> simp [hm]
  · next h => simp [h]

theorem failKeyStore_records (r : SelfTestResult) (s : State) : (failKeyStore r s).lanes = s.lanes
    ∧ (failKeyStore r s).hwFaults = { s.hwFaults with keyStore := r.keyStore || s.hwFaults.keyStore } := by
  unfold failKeyStore
  split
  · next h => simp [h]
  · next h => simp [h]

theorem failBuffer_records (r : SelfTestResult) (s : State) (p : PortNum) : (failBuffer r s p).lanes = s.lanes
    ∧ (failBuffer r s p).hwFaults = if row r.buffers p = true then
        { s.hwFaults with buffers := setRow s.hwFaults.buffers p true } else s.hwFaults := by
  unfold failBuffer
  split <;> simp

theorem buffers_failBuffer (r : SelfTestResult) (s : State) (p q : PortNum) :
    row (failBuffer r s p).hwFaults.buffers q
      = ((decide (p = q) && row r.buffers p) || row s.hwFaults.buffers q) := by
  rw [(failBuffer_records r s p).2]
  split
  · next h =>
    rw [row_setRow, h]
    by_cases hq : p = q <;> simp [hq]
  · next h => simp [h]

theorem nodup_allLanes : allLanes.Nodup := by decide

theorem mem_allLanes (l : LaneNum) : l ∈ allLanes := by
  revert l
  decide

/-- Every failed lane goes out of service and is recorded; the rest of the record stands. -/
theorem failLanes_records (r : SelfTestResult) (s : State) :
    (∀ l, (allLanes.foldl (failLane r) s).lane l = if row r.lanes l = true then .outOfService else s.lane l)
    ∧ (∀ l, row (allLanes.foldl (failLane r) s).hwFaults.lanesFailed l
        = (row r.lanes l || row s.hwFaults.lanesFailed l))
    ∧ { (allLanes.foldl (failLane r) s).hwFaults with lanesFailed := s.hwFaults.lanesFailed } = s.hwFaults := by
  refine ⟨fun l => ?lane, fun l => ?failed, ?rest⟩
  case lane =>
    refine (foldl_at (P := fun _ => True) (g := State.lane)
      (h := fun l x => if row r.lanes l = true then .outOfService else x) (fun _ _ _ => trivial)
      (fun u l _ => ?_) (fun u l m h => ?_) allLanes s nodup_allLanes trivial l).trans (if_pos (mem_allLanes l))
    · rw [lane_failLane]
      simp
    · rw [lane_failLane, if_neg fun hm => h hm.1]
  case failed =>
    refine (foldl_at (P := fun _ => True) (g := fun u l => row u.hwFaults.lanesFailed l)
      (h := fun l x => row r.lanes l || x) (fun _ _ _ => trivial)
      (fun u l _ => ?_) (fun u l m h => ?_) allLanes s nodup_allLanes trivial l).trans (if_pos (mem_allLanes l))
    · rw [lanesFailed_failLane]
      simp
    · rw [lanesFailed_failLane]
      simp [h]
  case rest =>
    refine foldl_keeps (fun u => { u.hwFaults with lanesFailed := s.hwFaults.lanesFailed } = s.hwFaults) (failLane r)
      (fun u l hu => ?_) allLanes s rfl
    rw [hwFaults_failLane]
    split <;> exact hu

/-- Every failed buffer is recorded; the lanes and the rest of the record stand. -/
theorem failBuffers_records (r : SelfTestResult) (s : State) :
    (allPorts.foldl (failBuffer r) s).lanes = s.lanes
    ∧ (∀ p, row (allPorts.foldl (failBuffer r) s).hwFaults.buffers p = (row r.buffers p || row s.hwFaults.buffers p))
    ∧ { (allPorts.foldl (failBuffer r) s).hwFaults with buffers := s.hwFaults.buffers } = s.hwFaults := by
  refine ⟨?lanes, fun p => ?failed, ?rest⟩
  case lanes =>
    exact foldl_keeps (fun u => u.lanes = s.lanes) (failBuffer r)
      (fun u p hu => (failBuffer_records r u p).1.trans hu) allPorts s rfl
  case failed =>
    refine (foldl_at (P := fun _ => True) (g := fun u p => row u.hwFaults.buffers p)
      (h := fun p x => row r.buffers p || x) (fun _ _ _ => trivial)
      (fun u p _ => ?_) (fun u p q h => ?_) allPorts s nodup_allPorts trivial p).trans (if_pos (mem_allPorts p))
    · rw [buffers_failBuffer]
      simp
    · rw [buffers_failBuffer]
      simp [h]
  case rest =>
    refine foldl_keeps (fun u => { u.hwFaults with buffers := s.hwFaults.buffers } = s.hwFaults) (failBuffer r)
      (fun u p hu => ?_) allPorts s rfl
    rw [(failBuffer_records r u p).2]
    split <;> exact hu

/-- The lanes and the hardware fault record after a self-test (R101, R184). -/
theorem completeSelfTest_records (r : SelfTestResult) (s : State) :
    (∀ l, (completeSelfTest r s).lane l = if row r.lanes l = true then .outOfService else s.lane l)
    ∧ (∀ l, row (completeSelfTest r s).hwFaults.lanesFailed l = (row r.lanes l || row s.hwFaults.lanesFailed l))
    ∧ (completeSelfTest r s).hwFaults.keyStore = (r.keyStore || s.hwFaults.keyStore)
    ∧ (∀ p, row (completeSelfTest r s).hwFaults.buffers p = (row r.buffers p || row s.hwFaults.buffers p))
    ∧ (completeSelfTest r s).hwFaults.scrubFaults = s.hwFaults.scrubFaults := by
  obtain ⟨hlane, hfailed, hrest⟩ := failLanes_records r s
  obtain ⟨klanes, kfaults⟩ := failKeyStore_records r (allLanes.foldl (failLane r) s)
  obtain ⟨blanes, bfaults, brest⟩ := failBuffers_records r (failKeyStore r (allLanes.foldl (failLane r) s))
  show (∀ l, row (allPorts.foldl (failBuffer r) _).lanes l = _)
    ∧ (∀ l, row (allPorts.foldl (failBuffer r) _).hwFaults.lanesFailed l = _)
    ∧ (allPorts.foldl (failBuffer r) _).hwFaults.keyStore = _
    ∧ (∀ p, row (allPorts.foldl (failBuffer r) _).hwFaults.buffers p = _)
    ∧ (allPorts.foldl (failBuffer r) _).hwFaults.scrubFaults = _
  have hkey := congrArg HwFaults.keyStore hrest
  have hbuffers := congrArg HwFaults.buffers hrest
  have hscrub := congrArg HwFaults.scrubFaults hrest
  have bfailed := congrArg HwFaults.lanesFailed brest
  have bkey := congrArg HwFaults.keyStore brest
  have bscrub := congrArg HwFaults.scrubFaults brest
  simp only [kfaults] at bfaults bfailed bkey bscrub
  rw [blanes, klanes, bfailed, bkey, bscrub]
  refine ⟨hlane, hfailed, by rw [hkey], fun p => by rw [bfaults, hbuffers], hscrub⟩

/-! ## The event list -/

/-- The event list that the failures with these details make of an empty one: one entry, which counts them (R175, R176). -/
def faultEvents : List (BitVec 16) → List Event
  | [] => []
  | d :: ds => [{ kind := .selftestFault, source := .part, count := ds.length + 1, detail := d }]

/-- With every kind enabled, the event list holds the failures with these details and nothing else. -/
def Recounts (ds : List (BitVec 16)) (s : State) : Prop := s.eventMask = BitVec.allOnes 21 ∧ s.events = faultEvents ds

theorem recounts_raiseEvent {ds : List (BitVec 16)} (h : Recounts ds s) (hroom : ds.length < 255) (d : BitVec 16) :
    Recounts (ds ++ [d]) (raiseEvent .selftestFault .part d s) := by
  obtain ⟨hmask, hevents⟩ := h
  refine ⟨(raiseEvent_eventMask ..).trans hmask, ?_⟩
  cases ds with
  | nil =>
    rw [faultEvents] at hevents
    rw [events_raiseEvent_new hmask (by simp [hevents]) (by simp [hevents]), hevents]
    rfl
  | cons d' ds =>
    have hbit : s.eventMask.getLsbD EventKind.selftestFault.code ≠ false := by
      rw [hmask]
      decide
    have hcount : min (ds.length + 1 + 1) 255 = (ds ++ [d]).length + 1 := by
      rw [List.length_append]
      exact Nat.min_eq_left hroom
    rw [raiseEvent, if_neg hbit, hevents, if_pos (by rfl)]
    simp only [faultEvents, List.cons_append, ← hcount]
    rfl

theorem Recounts.of_same {ds : List (BitVec 16)} (h : Recounts ds s) (hmask : t.eventMask = s.eventMask)
    (hevents : t.events = s.events) : Recounts ds t := ⟨hmask.trans h.1, hevents.trans h.2⟩

/-- Units that are tested one after another add their failures in that order. -/
theorem recounts_foldl {α : Type} {f : State → α → State} {bad : α → Bool} {detail : α → BitVec 16}
    (hgood : ∀ s x, bad x = false → f s x = s)
    (hbad : ∀ s x ds, bad x = true → Recounts ds s → ds.length < 255 → Recounts (ds ++ [detail x]) (f s x)) :
    ∀ (xs : List α) (ds : List (BitVec 16)) (s : State), Recounts ds s → ds.length + xs.length ≤ 255 →
      Recounts (ds ++ (xs.filter bad).map detail) (xs.foldl f s)
  | [], ds, s, h, _ => by simpa using h
  | x :: xs, ds, s, h, hroom => by
    rw [List.length_cons] at hroom
    rw [List.foldl_cons]
    cases hx : bad x with
    | false =>
      rw [hgood s x hx, List.filter_cons_of_neg (by simp [hx])]
      exact recounts_foldl hgood hbad xs ds s h (by omega)
    | true =>
      have hrest := recounts_foldl hgood hbad xs _ _ (hbad s x ds hx h (by omega)) (by
        rw [List.length_append, List.length_singleton]
        omega)
      rwa [List.append_assoc, List.singleton_append, ← List.map_cons, ← List.filter_cons_of_pos hx] at hrest

theorem selfTestDetail_lane (l : LaneNum) : selfTestDetail 0 l.val = BitVec.ofNat 16 (256 * l.val) :=
  congrArg (BitVec.ofNat 16) (Nat.zero_add _)

theorem recounts_failLanes (h : Recounts [] s) : Recounts
    ((allLanes.filter fun l => row r.lanes l).map fun l => BitVec.ofNat 16 (256 * l.val)) (allLanes.foldl (failLane r) s) := by
  refine recounts_foldl (ds := []) (fun u l hl => ?_) (fun u l ds hl hu hroom => ?_) allLanes s h (by decide)
  · rw [failLane, if_neg (by simp [hl])]
  · rw [failLane, if_pos hl, selfTestDetail_lane]
    exact recounts_raiseEvent (s := { u.setLane l .outOfService with
      hwFaults := { u.hwFaults with lanesFailed := setRow u.hwFaults.lanesFailed l true } }) (hu.of_same rfl rfl) hroom _

theorem recounts_failKeyStore {ds : List (BitVec 16)} (h : Recounts ds s) (hroom : ds.length < 255) :
    Recounts (ds ++ if r.keyStore then [1] else []) (failKeyStore r s) := by
  unfold failKeyStore
  split
  · exact recounts_raiseEvent (s := { s with hwFaults := { s.hwFaults with keyStore := true } }) (h.of_same rfl rfl)
      hroom (selfTestDetail 1 0)
  · rwa [List.append_nil]

theorem recounts_failBuffers {ds : List (BitVec 16)} (h : Recounts ds s) (hroom : ds.length + 4 ≤ 255) :
    Recounts (ds ++ (allPorts.filter fun p => row r.buffers p).map fun p => BitVec.ofNat 16 (2 + 256 * p.val))
      (allPorts.foldl (failBuffer r) s) := by
  refine recounts_foldl (fun u p hp => ?_) (fun u p ds hp hu hroom => ?_) allPorts ds s h hroom
  · rw [failBuffer, if_neg (by simp [hp])]
  · rw [failBuffer, if_pos hp]
    exact recounts_raiseEvent (s := { u with hwFaults := { u.hwFaults with buffers := setRow u.hwFaults.buffers p true } })
      (hu.of_same rfl rfl) hroom (selfTestDetail 2 p.val)

theorem recounts_completeSelfTest (h : Recounts [] s) : Recounts (failedUnits r) (completeSelfTest r s) := by
  have hlanes : ((allLanes.filter fun l => row r.lanes l).map fun l => BitVec.ofNat 16 (256 * l.val)).length ≤ 6 := by
    rw [List.length_map]
    exact List.length_filter_le ..
  have hkey := recounts_failKeyStore (r := r) (recounts_failLanes (r := r) h) (by omega)
  refine (recounts_failBuffers (r := r) hkey ?_).of_same rfl rfl
  rw [List.length_append]
  split <;> simp only [List.length_singleton, List.length_nil] <;> omega

/-! ## SELFTEST_COMPLETE -/

theorem stateAfterTest_halted (r : SelfTestResult) :
    stateAfterTest r = .halted ↔ r.keyStore = true ∨ ∀ l, row r.lanes l = true := by
  cases h : r.keyStore <;> simp [stateAfterTest, h, List.all_eq_true, mem_allLanes]

theorem partState_completeSelfTest (r : SelfTestResult) (s : State) :
    (completeSelfTest r s).partState = stateAfterTest r := rfl

/-- A FINE_PULSE at which a self-test is due ends it, with the result that the model leaves open. -/
theorem exec_finePulse_due (drift : Option KeyDrift) (hreset : s.pins.resetLow = false) (htest : s.partState = .testing)
    (hfine : s.fineCount = 32) : exec (.finePulse drift) s = exec (.finePulse drift)
      { completeSelfTest (openResult s.openSelfTests) s with openSelfTests := s.openSelfTests + 1 } := by
  obtain ⟨u, ⟨_, _, _, _, rfl⟩, hdone⟩ := completeSelfTest_testFrame (openResult s.openSelfTests) s
  show execFinePulse drift s = execFinePulse drift _
  rw [execFinePulse, unlessHeld_released hreset, endDueSelfTest_of_due htest hfine, hdone, execFinePulse,
    unlessHeld_released (by exact hreset), endDueSelfTest_of_not_due fun h => stateAfterTest_ne _ h.1]

theorem exec_selftestComplete_refused (hreset : s.pins.resetLow = false)
    (h : s.partState ≠ .testing ∨ s.fineCount ≠ 32) : exec (.selftestComplete r) s = .refused .eventCannotOccur :=
  (unlessHeld_released hreset _).trans (if_neg fun hdue => by
    obtain ⟨htest, hfine⟩ := selfTestDue_iff.mp hdue
    exact h.elim (· htest) (· hfine))

/-- Settles O6: the units that failed one after another. -/
theorem selfTestEnds : Obligations.SelfTestEnds := fun r s hreset => by
  refine ⟨fun htest hfine => ⟨⟨_, exec_selftestComplete_due r hreset htest hfine, ?_⟩, fun drift =>
    ⟨_, _, exec_selftestComplete_due _ hreset htest hfine, exec_finePulse_due drift hreset htest hfine⟩⟩,
    exec_selftestComplete_refused hreset⟩
  obtain ⟨hlane, hlanes, hkey, hbuffers, hscrub⟩ := completeSelfTest_records r s
  refine ⟨hlane, hlanes, hkey, hbuffers, hscrub, stateAfterTest_halted r, ?ended, fun hnil hmask => ?events, ?frame⟩
  case ended =>
    show stateAfterTest r = .halted ∨ stateAfterTest r = .running
    unfold stateAfterTest
    split
    · exact .inl rfl
    · exact .inr rfl
  case events =>
    rw [(recounts_completeSelfTest (r := r) ⟨hmask, hnil⟩).2]
    cases failedUnits r <;> rfl
  case frame =>
    obtain ⟨u, ⟨_, _, _, _, rfl⟩, hdone⟩ := completeSelfTest_testFrame r s
    rw [hdone]

end Sys2Proof.Proofs

end

section
/-! SUPPORT. The arbiter (R91, R95, R99): what one grant makes of the state, and that grants repeat until none can be made. -/

/-! One theorem is checked after another, as in the tests, which bounds the threads that the whole text takes. -/
set_option Elab.async false

namespace Sys2Proof.Proofs

open Sys2Proof Sys2Proof.Machine

variable {s t : State} {p q : PortNum} {k : SlotNum} {l m : LaneNum} {e : Entry} {es before passes behind : List Entry}
  {inhibited mark : Bool}

/-! ## The lane that a grant takes -/

theorem idleLane_none : idleLane s = none ↔ ∀ l, s.lane l ≠ .idle := by
  simp [idleLane, List.find?_eq_none, mem_allLanes]

/-- The arbiter takes the lowest IDLE lane (R91). -/
theorem idleLane_lowest (hidle : s.lane l = .idle) (hlow : ∀ m, m < l → s.lane m ≠ .idle) : idleLane s = some l := by
  have hsplit : ∀ l : LaneNum, allLanes = allLanes.take l.val ++ l :: allLanes.drop (l.val + 1)
      ∧ ∀ m ∈ allLanes.take l.val, m < l := by decide
  obtain ⟨hlanes, hbelow⟩ := hsplit l
  refine List.find?_eq_some_iff_append.mpr ⟨by simp [hidle], _, _, hlanes, fun m hm => ?_⟩
  simp [hlow m (hbelow m hm)]

theorem expandCount_eq (s : State) : expandCount s = ((List.finRange 6).filter fun l => (s.lane l).isExpand).length := rfl

theorem grantOne_full (h : ∀ l, s.lane l ≠ .idle) : grantOne s = none := by
  simp only [grantOne, idleLane_none.mpr h]

theorem grantOne_verify {r : VerifyReq} {rest : List VerifyReq} (hlane : idleLane s = some l)
    (hqueue : s.verifyQueue = r :: rest) : grantOne s
      = some ({ s with verifyQueue := rest }.setLane l (.busy (.verify r (keyCopy s r.slot) false))) := by
  simp only [grantOne, hlane, hqueue]

theorem grantOne_expand {rest : List SlotNum} (hlane : idleLane s = some l) (hqueue : s.verifyQueue = [])
    (hfifo : s.expansionFifo = k :: rest) (hroom : expandCount s < 2) : grantOne s
      = some ({ s with expansionFifo := rest }.setLane l (.busy (.expand k (s.slot k).key true))) := by
  have hcap : decide (expandCount s < Config.expandCap) = true := decide_eq_true hroom
  simp only [grantOne, hlane, hqueue, hfifo, hcap]

theorem grantOne_transform (hlane : idleLane s = some l) (hqueue : s.verifyQueue = [])
    (h : s.expansionFifo = [] ∨ 2 ≤ expandCount s) : grantOne s = (grantPort s).map fun p => grantTransform l p s := by
  obtain h | h := h
  · simp only [grantOne, hlane, hqueue, h]
  · have hcap : decide (expandCount s < Config.expandCap) = false := decide_eq_false (Nat.not_lt.mpr h)
    cases hfifo : s.expansionFifo <;> simp only [grantOne, hlane, hqueue, hfifo, hcap]

/-! ## The port that a grant serves -/

/-- The oldest waiting entry of a port that may take a lane, with what stands before and behind it (R91 step 3). -/
structure Offers (s : State) (p : PortNum) (before : List Entry) (e : Entry) (behind : List Entry) : Prop where
  sequence : (s.port p).sequence = before ++ e :: behind
  before : ∀ g ∈ before, g.status ≠ .waitingLane
  waits : e.status = .waitingLane
  body : e.body ≠ .pass
  room : (s.port p).sequence.countP (fun g => g.status.isInLane) < 2

theorem Offers.find (h : Offers s p before e behind) :
    (s.port p).sequence.find? (·.status == .waitingLane) = some e := by
  refine List.find?_eq_some_iff_append.mpr ⟨by simp [h.waits], _, _, h.sequence, fun g hg => ?_⟩
  simp [h.before g hg]

theorem Offers.eligible (h : Offers s p before e behind) : portEligible s p = true := by
  have hroom : ((s.port p).sequence.filter (·.status.isInLane)).length < Config.portLaneCap := by
    rw [← List.countP_eq_length_filter]
    exact h.room
  have hpass : (!e.isPass) = true := by simp [Entry.isPass, h.body]
  simp only [portEligible, h.find, hpass, Bool.true_and, decide_eq_true hroom]

theorem offers_of_eligible (h : portEligible s p = true) : ∃ before e behind, Offers s p before e behind := by
  obtain ⟨e, hfind, hpass, hcap⟩ := portEligible_cases h
  obtain ⟨hwaits, before, behind, hseq, hbefore⟩ := List.find?_eq_some_iff_append.mp hfind
  refine ⟨before, e, behind, hseq, fun g hg => by simpa using hbefore g hg, by simpa using hwaits, ?_, ?_⟩
  · simpa [Entry.isPass] using hpass
  · rw [List.countP_eq_length_filter]
    exact hcap

theorem grantPort_none (h : ∀ p before e behind, ¬Offers s p before e behind) : grantPort s = none := by
  refine List.find?_eq_none.mpr fun p _ hp => ?_
  obtain ⟨before, e, behind, hoffers⟩ := offers_of_eligible hp
  exact h p before e behind hoffers

/-- The arbiter serves the first eligible port from the round-robin pointer upward (R91 step 3). -/
theorem grantPort_first {i : PortNum} (h : Offers s (s.roundRobin + i) before e behind)
    (hfirst : ∀ j, j < i → ∀ before e behind, ¬Offers s (s.roundRobin + j) before e behind) :
    grantPort s = some (s.roundRobin + i) := by
  have hsplit : ∀ i : PortNum, ([0, 1, 2, 3] : List PortNum)
      = ([0, 1, 2, 3] : List PortNum).take i.val ++ i :: ([0, 1, 2, 3] : List PortNum).drop (i.val + 1)
      ∧ ∀ j ∈ ([0, 1, 2, 3] : List PortNum).take i.val, j < i := by decide
  obtain ⟨hports, hbelow⟩ := hsplit i
  refine List.find?_eq_some_iff_append.mpr ⟨h.eligible, _, _, by rw [hports, List.map_append, List.map_cons], ?_⟩
  refine List.forall_mem_map.mpr fun j hj => ?_
  rw [Bool.not_eq_true', Bool.eq_false_iff]
  intro helig
  obtain ⟨_, _, _, hoffers⟩ := offers_of_eligible helig
  exact hfirst j (hbelow j hj) _ _ _ hoffers

/-! ## The sequence that a grant leaves -/

theorem grantOldest_append (hbefore : ∀ g ∈ before, g.status ≠ .waitingLane) (hwaits : e.status = .waitingLane) :
    grantOldest l mark (before ++ e :: behind)
      = before ++ { e with status := .inLane l, corrupted := e.corrupted || mark } :: behind := by
  induction before with
  | nil => exact if_pos hwaits
  | cons g before ih =>
    rw [List.forall_mem_cons] at hbefore
    rw [List.cons_append, grantOldest, if_neg hbefore.1, ih hbefore.2, List.cons_append]

theorem finishPasses_append (hbefore : ∀ g ∈ before, g.status ≠ .waitingLane) :
    finishPasses inhibited (before ++ es) = before ++ finishPasses inhibited es := by
  induction before with
  | nil => rfl
  | cons g before ih =>
    rw [List.forall_mem_cons] at hbefore
    rw [List.cons_append, finishPasses, if_neg hbefore.1, ih hbefore.2, List.cons_append]

theorem finishPasses_passes (hpasses : ∀ g ∈ passes, g.body = .pass ∧ g.status = .waitingLane) :
    finishPasses inhibited (passes ++ es) = passes.map (Entry.finish inhibited) ++ finishPasses inhibited es := by
  induction passes with
  | nil => rfl
  | cons g passes ih =>
    rw [List.forall_mem_cons] at hpasses
    have hpass : g.isPass = true := by simp [Entry.isPass, hpasses.1.1]
    rw [List.cons_append, finishPasses, if_pos hpasses.1.2, if_pos hpass, ih hpasses.2, List.map_cons, List.cons_append]

theorem finishPasses_stops (h : ∀ g ∈ es.head?, g.body ≠ .pass ∧ g.status = .waitingLane) :
    finishPasses inhibited es = es := by
  cases es with
  | nil => rfl
  | cons g es =>
    obtain ⟨hbody, hwaits⟩ := h g rfl
    rw [finishPasses, if_pos hwaits, if_neg (by simp [Entry.isPass, hbody])]

/-- The oldest waiting entry takes the lane, and the PASS entries directly behind it become DONE (R95, R99). -/
theorem sequence_granted (hbefore : ∀ g ∈ before, g.status ≠ .waitingLane) (hwaits : e.status = .waitingLane)
    (hpasses : ∀ g ∈ passes, g.body = .pass ∧ g.status = .waitingLane)
    (hbehind : ∀ g ∈ behind.head?, g.body ≠ .pass ∧ g.status = .waitingLane) :
    finishPasses inhibited (grantOldest l mark (before ++ e :: (passes ++ behind)))
      = before ++ { e with status := .inLane l, corrupted := e.corrupted || mark }
        :: passes.map (Entry.finish inhibited) ++ behind := by
  rw [grantOldest_append hbefore hwaits, finishPasses_append hbefore, finishPasses, if_neg (by simp),
    finishPasses_passes hpasses, finishPasses_stops hbehind, List.append_assoc, List.cons_append]

/-! ## The state that a TRANSFORM granted leaves -/

/-- The parts of the state that a TRANSFORM granted touches, each with what it becomes (R91, R95, R99). -/
theorem grantTransform_effect (hfind : (s.port p).sequence.find? (·.status == .waitingLane) = some e)
    (hk : e.slot? = some k) :
    (grantTransform l p s).port p = { s.port p with
        sequence := finishPasses s.inhibited (grantOldest l (spendCorrupt e.body s).1 (s.port p).sequence) }
    ∧ (∀ q, q ≠ p → (grantTransform l p s).port q = s.port q)
    ∧ (∀ a, (grantTransform l p s).assoc a = (spendCorrupt e.body s).2.assoc a)
    ∧ (∀ m, (grantTransform l p s).lane m
        = if l = m then .busy (.transform p (keyCopy s k) (s.port p).settings.clpType) else s.lane m)
    ∧ (grantTransform l p s).roundRobin = p + 1
    ∧ { grantTransform l p s with ports := s.ports, assocs := s.assocs, lanes := s.lanes, roundRobin := s.roundRobin } = s := by
  obtain ⟨assocs, hspend⟩ := spendCorrupt_frame e.body s
  rw [grantTransform_eq hfind hk, hspend]
  refine ⟨?_, fun q hq => ?_, fun a => rfl, fun m => State.lane_setLane .., rfl, rfl⟩
  · rw [settlePasses, State.port_updPort_self]
    exact congrArg (fun x : Port => { x with sequence := finishPasses s.inhibited x.sequence })
      (State.port_updPort_self (s := { s with assocs := assocs }) (p := p)
        (f := fun x => { x with sequence := grantOldest l (spendCorrupt e.body s).1 x.sequence }))
  · rw [settlePasses, State.port_updPort_ne _ _ (Ne.symm hq)]
    exact State.port_updPort_ne _ _ (Ne.symm hq)

theorem slot?_of_body (h : e.body ≠ .pass) : ∃ k, e.slot? = some k :=
  slot?_of_not_pass (by simp [Entry.isPass, h])

/-! ## Grants repeat -/

/-- The IDLE lanes. -/
def idleLanes (s : State) : Finset LaneNum := {l | s.lane l = .idle}

theorem mem_idleLanes : l ∈ idleLanes s ↔ s.lane l = .idle := by simp [idleLanes]

/-- A grant gives work to an IDLE lane, and the other lanes stay as they are. -/
theorem grantOne_takes (h : grantOne s = some t) :
    ∃ l op, s.lane l = .idle ∧ ∀ m, t.lane m = if l = m then .busy op else s.lane m := by
  cases hlane : idleLane s with
  | none => simp [grantOne, hlane] at h
  | some l =>
    have hidle := idle_of_idleLane hlane
    cases hqueue : s.verifyQueue with
    | cons r rest =>
      obtain rfl := Option.some.inj ((grantOne_verify hlane hqueue).symm.trans h)
      exact ⟨l, _, hidle, fun m => State.lane_setLane ..⟩
    | nil =>
      by_cases hroom : s.expansionFifo = [] ∨ 2 ≤ expandCount s
      · rw [grantOne_transform hlane hqueue hroom] at h
        obtain ⟨p, hp, rfl⟩ := Option.map_eq_some_iff.mp h
        obtain ⟨e, hfind, hpass, -⟩ := portEligible_cases (List.find?_some hp)
        obtain ⟨k, hk⟩ := slot?_of_not_pass hpass
        obtain ⟨-, -, -, hlanes, -⟩ := grantTransform_effect (l := l) hfind hk
        exact ⟨l, _, hidle, hlanes⟩
      · rw [not_or, Nat.not_le] at hroom
        obtain ⟨k, rest, hfifo⟩ := List.exists_cons_of_ne_nil hroom.1
        obtain rfl := Option.some.inj ((grantOne_expand hlane hqueue hfifo hroom.2).symm.trans h)
        exact ⟨l, _, hidle, fun m => State.lane_setLane ..⟩

theorem idleLanes_grantOne (h : grantOne s = some t) : (idleLanes t).card < (idleLanes s).card := by
  obtain ⟨l, op, hidle, hlanes⟩ := grantOne_takes h
  refine Finset.card_lt_card ((Finset.ssubset_iff_of_subset fun m hm => ?_).mpr ⟨l, mem_idleLanes.mpr hidle, fun hl => ?_⟩)
  · rw [mem_idleLanes, hlanes] at hm
    split at hm
    · cases hm
    · exact mem_idleLanes.mpr hm
  · rw [mem_idleLanes, hlanes, if_pos rfl] at hl
    cases hl

theorem grantOne_none_of_full (h : (idleLanes s).card = 0) : grantOne s = none :=
  grantOne_full fun l hl => Finset.eq_empty_iff_forall_notMem.mp (Finset.card_eq_zero.mp h) l (mem_idleLanes.mpr hl)

theorem grantUpTo_done (h : grantOne s = none) : ∀ n, grantUpTo n s = s
  | 0 => rfl
  | n + 1 => by simp only [grantUpTo, h]

theorem grantUpTo_succ (h : grantOne s = some t) (n : Nat) : grantUpTo (n + 1) s = grantUpTo n t := by
  simp only [grantUpTo, h]

/-- With a turn for each IDLE lane, another turn grants nothing, and no grant is left to be made. -/
theorem grantUpTo_enough : ∀ (n : Nat) (s : State), (idleLanes s).card ≤ n →
    grantUpTo (n + 1) s = grantUpTo n s ∧ grantOne (grantUpTo n s) = none
  | 0, s, h => by
    have hnone := grantOne_none_of_full (Nat.le_zero.mp h)
    rw [grantUpTo_done hnone, grantUpTo_done hnone]
    exact ⟨rfl, hnone⟩
  | n + 1, s, h => by
    cases hone : grantOne s with
    | none =>
      rw [grantUpTo_done hone, grantUpTo_done hone]
      exact ⟨rfl, hone⟩
    | some t =>
      have hcard := idleLanes_grantOne hone
      rw [grantUpTo_succ hone, grantUpTo_succ hone]
      exact grantUpTo_enough n t (by omega)

theorem card_idleLanes_le (s : State) : (idleLanes s).card ≤ 6 := Finset.card_le_univ _

theorem arbitrate_done (h : grantOne s = none) : arbitrate s = s := grantUpTo_done h 6

theorem arbitrate_grantOne (h : grantOne s = some t) : arbitrate s = arbitrate t := by
  have hcard := idleLanes_grantOne h
  have hle := card_idleLanes_le s
  exact (grantUpTo_succ h 5).trans (grantUpTo_enough 5 t (by omega)).1.symm

theorem grantOne_arbitrate (s : State) : grantOne (arbitrate s) = none :=
  (grantUpTo_enough 6 s (card_idleLanes_le s)).2

/-! ## A grant by its work -/

theorem grantOne_first {i : PortNum} (hlane : idleLane s = some l) (hqueue : s.verifyQueue = [])
    (hwork : s.expansionFifo = [] ∨ 2 ≤ expandCount s) (h : Offers s (s.roundRobin + i) before e behind)
    (hfirst : ∀ j, j < i → ∀ before e behind, ¬Offers s (s.roundRobin + j) before e behind) :
    grantOne s = some (grantTransform l (s.roundRobin + i) s) := by
  rw [grantOne_transform hlane hqueue hwork, grantPort_first h hfirst, Option.map_some]

theorem grantOne_nothing (hqueue : s.verifyQueue = []) (hwork : s.expansionFifo = [] ∨ 2 ≤ expandCount s)
    (h : ∀ p before e behind, ¬Offers s p before e behind) : grantOne s = none := by
  cases hlane : idleLane s with
  | none => exact grantOne_full (idleLane_none.mp hlane)
  | some l => rw [grantOne_transform hlane hqueue hwork, grantPort_none h, Option.map_none]

/-- Without waiting work there is no grant. -/
theorem grantOne_quiet_none (hqueue : s.verifyQueue = []) (hfifo : s.expansionFifo = [])
    (h : ∀ p, ∀ g ∈ (s.port p).sequence, g.status ≠ .waitingLane) : grantOne s = none :=
  grantOne_nothing hqueue (.inl hfifo) fun p before e behind hoffers =>
    h p e (by rw [hoffers.sequence]; simp) hoffers.waits

end Sys2Proof.Proofs

end

section
/-! SUPPORT. TRANSFORM_COMPLETE (R82, R94, R97, R98): the entry that was IN_LANE is DONE, and what can then be sent no more
leaves. -/

/-! One theorem is checked after another, as in the tests, which bounds the threads that the whole text takes. -/
set_option Elab.async false

namespace Sys2Proof.Proofs

open Sys2Proof Sys2Proof.Machine

variable {s t u : State} {p q : PortNum} {k : SlotNum} {l m : LaneNum} {e g : Entry} {es rest : List Entry} {x : Port}
  {copy : KeyCopy} {clp : BitVec 16} {frame : Bytes} {inhibit : InhibitState} {c : PortCounter} {inhibited : Bool}

/-! ## A tidied sequence -/

theorem finishPasses_nothing (h : ∀ g ∈ es, g.status ≠ .waitingLane) : finishPasses inhibited es = es := by
  have := finishPasses_append (inhibited := inhibited) (es := []) h
  rwa [List.append_nil, finishPasses, List.append_nil] at this

/-- A port whose PASS entries that wait for nothing have become DONE (R95). -/
def withPasses (inhibit : InhibitState) (x : Port) : Port :=
  { x with sequence := finishPasses (inhibit == .asserted) x.sequence }

theorem port_settlePasses (p q : PortNum) (s : State) :
    (settlePasses p s).port q = if p = q then withPasses s.inhibit (s.port q) else s.port q := by
  rw [settlePasses, State.port_updPort]
  split
  · next h =>
    subst h
    rfl
  · rfl

theorem port_tidySequence (p q : PortNum) (s : State) : (tidySequence p s).port q
    = if p = q then withoutHeads s.inhibit (withPasses s.inhibit (s.port q)) else s.port q := by
  rw [tidySequence, port_discardHeads, port_settlePasses]
  split <;> rfl

theorem against_withPasses (k : SlotNum) (inhibit : InhibitState) (x : Port) :
    against k (withPasses inhibit x).sequence = against k x.sequence :=
  against_eq_of_body (finishPasses_same _ _).1

theorem slotsFollow_settlePasses (p : PortNum) (s : State) : SlotsFollow s (settlePasses p s) := by
  refine fun k => ⟨0, (entriesAgainst_congr fun q => ?_).symm, rfl⟩
  rw [port_settlePasses]
  split
  · exact against_withPasses ..
  · rfl

theorem slotsFollow_tidySequence (p : PortNum) (s : State) : SlotsFollow s (tidySequence p s) :=
  (slotsFollow_settlePasses p s).trans (slotsFollow_discardHeads p _)

/-- An entry stays in a sequence from whose head it could be sent. -/
theorem mem_withoutHeads (h : e ∈ x.sequence) (hsent : x.unsent inhibit e = false) :
    e ∈ (withoutHeads inhibit x).sequence := by
  rw [← List.takeWhile_append_dropWhile (p := x.unsent inhibit) (l := x.sequence), List.mem_append] at h
  obtain h | h := h
  · rw [List.mem_takeWhile_imp h] at hsent
    cases hsent
  · exact h

theorem unsent_of_not_done (h : e.status ≠ .done) : x.unsent inhibit e = false := by
  simp [Port.unsent, Port.inhibitDrop, Port.linkDrop, h]

/-- Exactly the head leaves, where the entry behind it is not DONE. -/
theorem withoutHeads_one (hseq : x.sequence = e :: es) (hstops : ∀ g ∈ es.head?, g.status ≠ .done)
    (h : c = .inhibitDrops ∧ x.inhibitDrop inhibit e = true
      ∨ c = .linkDownFlush ∧ x.linkDrop inhibit e = true ∧ x.inhibitDrop inhibit e = false) :
    withoutHeads inhibit x = Port.withDrops c 1 { x with sequence := es } := by
  have hkept (d : PortCounter) : withoutHeads inhibit (Port.withDrops d 1 { x with sequence := es })
      = Port.withDrops d 1 { x with sequence := es } :=
    withoutHeads_of_kept fun g hg => unsent_of_not_done (hstops g hg)
  obtain ⟨rfl, hdrop⟩ | ⟨rfl, hdrop, hnot⟩ := h
  · rw [← withoutHeads_inhibitDrop hseq hdrop, hkept]
  · rw [← withoutHeads_linkDrop hseq hdrop hnot, hkept]

/-! ## Lanes that rest -/

/-- IDLE lanes and an empty expansion queue stay so. -/
structure Rests (s t : State) : Prop where
  lane : ∀ l, s.lane l = .idle → t.lane l = .idle
  fifo : s.expansionFifo = [] → t.expansionFifo = []

theorem Rests.refl (s : State) : Rests s s := ⟨fun _ h => h, fun h => h⟩

theorem Rests.trans (h : Rests s t) (g : Rests t u) : Rests s u :=
  ⟨fun l hl => g.lane l (h.lane l hl), fun hs => g.fifo (h.fifo hs)⟩

theorem idle_of_shape {y z : Lane} (h : laneShape z = laneShape y) (hidle : y = .idle) : z = .idle := by
  subst hidle
  unfold laneShape at h
  split at h <;> simp_all

theorem expansionFifo_releaseEntry (e : Entry) (h : s.expansionFifo = []) : (releaseEntry e s).expansionFifo = [] := by
  unfold releaseEntry
  split
  · next k _ =>
    obtain ⟨-, -, hr⟩ | ⟨-, hr⟩ := releaseSlot_cases k s <;> rw [hr]
    · obtain ⟨_, _, hraise⟩ := raiseEvent_lists .keyRetired (.slot k) 0 (emptySlot k s)
      rw [retireSlot, hraise]
      show s.expansionFifo.filter _ = []
      rw [h, List.filter_nil]
    · exact h
  · exact h

theorem releaseEntry_rests (e : Entry) (s : State) : Rests s (releaseEntry e s) :=
  ⟨fun l => idle_of_shape (laneShape_releaseEntry e l s), expansionFifo_releaseEntry e⟩

theorem dropHead_rests (p : PortNum) (s : State) : Rests s (dropHead p s) := by
  unfold dropHead
  split
  · exact .refl s
  · exact .trans (t := s.updPort p _) ⟨fun _ h => h, fun h => h⟩ (releaseEntry_rests ..)

theorem discardHeadsUpTo_rests (p : PortNum) : ∀ (n : Nat) (s : State), Rests s (discardHeadsUpTo n p s)
  | 0, s => .refl s
  | n + 1, s => by
    unfold discardHeadsUpTo
    split
    · next c _ =>
      exact .trans (t := bumpPort p c 1 s) ⟨fun _ h => h, fun h => h⟩
        ((dropHead_rests p _).trans (discardHeadsUpTo_rests p n _))
    · exact .refl s

theorem tidySequence_rests (p : PortNum) (s : State) : Rests s (tidySequence p s) :=
  .trans (t := settlePasses p s) ⟨fun _ h => h, fun h => h⟩ (discardHeadsUpTo_rests p _ _)

/-! ## The entry that a lane hands back -/

theorem entryInLane_only (he : e ∈ (s.port p).sequence) (hstatus : e.status = .inLane l)
    (honly : ∀ g ∈ (s.port p).sequence, g.status = .inLane l → g = e) : entryInLane s p l = some e := by
  cases h : entryInLane s p l with
  | none => exact absurd (List.find?_eq_none.mp h e he) (by simp [hstatus])
  | some g => rw [honly g (List.mem_of_find?_eq_some h) (by simpa using List.find?_some h)]

theorem handed_self (h : e.status = .inLane l) (inhibited : Bool) (frame : Bytes) :
    e.handed l inhibited frame = { e.finish inhibited with frame := frame } := if_pos h

theorem handed_other (h : e.status ≠ .inLane l) (inhibited : Bool) (frame : Bytes) : e.handed l inhibited frame = e := if_neg h

/-- A port whose entry in a lane has been handed its finished frame (R94). -/
def withHanded (inhibit : InhibitState) (l : LaneNum) (frame : Bytes) (x : Port) : Port :=
  { x with sequence := x.sequence.map (Entry.handed l (inhibit == .asserted) frame) }

/-- The state in which the finished frame is handed over, and its lane is free. -/
def handedOver (p : PortNum) (l : LaneNum) (frame : Bytes) (s : State) : State := handFrame p l frame (freeLane l s)

theorem port_handedOver (p q : PortNum) (l : LaneNum) (frame : Bytes) (s : State) :
    (handedOver p l frame s).port q = if p = q then withHanded s.inhibit l frame (s.port q) else s.port q := by
  rw [handedOver, handFrame, State.port_updPort]
  split
  · next h =>
    subst h
    rfl
  · rfl

/-- The state in which the entries of a lane are gone for their failed slot, and the lane is free (R82). -/
def spoiled (p : PortNum) (l : LaneNum) (s : State) : State :=
  removeEntries p (fun e => e.status == .inLane l) .assocStateDrops (freeLane l s)

theorem exec_transformComplete (hreset : s.pins.resetLow = false) (hlane : s.lane l = .busy (.transform p copy clp))
    (hentry : entryInLane s p l = some e) : exec (.transformComplete l) s = .next (arbitrate (tidySequence p
      (if entryFaulted s e then spoiled p l s else handedOver p l (transformed p copy clp e) s))) := by
  show execTransformComplete l s = _
  rw [execTransformComplete, unlessHeld_released hreset]
  simp only [hlane, hentry]
  rfl

theorem entryFaulted_iff : entryFaulted s e = true ↔ ∃ k, e.slot? = some k ∧ (s.slot k).state = .faulted := by
  unfold entryFaulted
  split
  · next k hk => simp [hk]
  · next hk => simp [hk]

/-- The port of a handed entry once it is tidied. -/
theorem port_completed (p q : PortNum) (l : LaneNum) (frame : Bytes) (s : State) :
    (tidySequence p (handedOver p l frame s)).port q = if p = q then
      withoutHeads s.inhibit (withPasses s.inhibit (withHanded s.inhibit l frame (s.port q))) else s.port q := by
  rw [port_tidySequence, port_handedOver]
  split <;> rfl

theorem against_withHanded (k : SlotNum) (inhibit : InhibitState) (l : LaneNum) (frame : Bytes) (x : Port) :
    against k (withHanded inhibit l frame x).sequence = against k x.sequence := by
  refine against_eq_of_body ?_
  rw [withHanded, List.map_map]
  exact List.map_congr_left fun e _ => body_handed ..

theorem slotsFollow_completed (p : PortNum) (l : LaneNum) (frame : Bytes) (s : State) :
    SlotsFollow s (tidySequence p (handedOver p l frame s)) := by
  refine .trans (t := handedOver p l frame s) (fun k => ⟨0, (entriesAgainst_congr fun q => ?_).symm, rfl⟩)
    (slotsFollow_tidySequence p _)
  rw [port_handedOver]
  split
  · exact against_withHanded ..
  · rfl

theorem handedOver_userFrame (p : PortNum) (l : LaneNum) (frame : Bytes) (s : State) :
    UserFrame s (handedOver p l frame s) := ⟨_, _, _, _, _, _, _, _, rfl⟩

/-! ## The cases of a completion -/

/-- The handed entry as it is then: DONE, with its frame, and marked under inhibit (R94, R97). -/
theorem mem_completed (he : e ∈ x.sequence) (hstatus : e.status = .inLane l) :
    { e.finish (inhibit == .asserted) with frame := frame }
      ∈ (withPasses inhibit (withHanded inhibit l frame x)).sequence := by
  refine mem_finishPasses (by simp [Entry.finish]) ?_
  rw [← handed_self hstatus]
  exact List.mem_map_of_mem he

/-- An entry that can still be sent stays once it is handed over. -/
theorem mem_sent (he : e ∈ (s.port p).sequence) (hstatus : e.status = .inLane l) (hunmarked : e.inhibitDiscard = false)
    (hreleased : s.inhibit = .released)
    (hsends : (s.port p).link = .up ∨ (s.port p).mode = .protect ∧ (s.port p).settings.linkDownPolicy = .hold)
    (frame : Bytes) :
    { e with status := .done, frame := frame } ∈ ((tidySequence p (handedOver p l frame s)).port p).sequence := by
  rw [port_completed, if_pos rfl]
  refine mem_withoutHeads ?_ ?_
  · have hmem := mem_completed (inhibit := s.inhibit) (frame := frame) he hstatus
    rw [Entry.finish, hunmarked, hreleased] at hmem
    rwa [hunmarked, hreleased]
  · rw [unsent_congr (y := withPasses s.inhibit (withHanded s.inhibit l frame (s.port p))) (x := s.port p) rfl]
    obtain hup | ⟨hmode, hhold⟩ := hsends
    · simp [Port.unsent, Port.inhibitDrop, Port.linkDrop, hunmarked, hreleased, hup]
    · simp [Port.unsent, Port.inhibitDrop, Port.linkDrop, hunmarked, hmode, hhold]

/-- A marked entry stays behind a head that is still in a lane (R97). -/
theorem mem_marked (he : e ∈ (s.port p).sequence) (hstatus : e.status = .inLane l) (hasserted : s.inhibit = .asserted)
    (hseq : (s.port p).sequence = g :: rest) (hg : g.status = .inLane m) (hne : m ≠ l) (frame : Bytes) :
    { e with status := .done, inhibitDiscard := true, frame := frame }
      ∈ ((tidySequence p (handedOver p l frame s)).port p).sequence := by
  have hhead : ∀ e ∈ (withPasses s.inhibit (withHanded s.inhibit l frame (s.port p))).sequence.head?,
      (withPasses s.inhibit (withHanded s.inhibit l frame (s.port p))).unsent s.inhibit e = false := by
    have hother : g.status ≠ .inLane l := by simp [hg, hne]
    simp only [withPasses, withHanded, hseq, List.map_cons, handed_other hother, finishPasses, hg, reduceCtorEq, if_false,
      List.head?_cons, Option.mem_def, Option.some.injEq]
    rintro _ rfl
    exact unsent_of_not_done (by simp [hg])
  have hmem := mem_completed (inhibit := s.inhibit) (frame := frame) he hstatus
  rw [port_completed, if_pos rfl, withoutHeads_of_kept hhead]
  simpa [Entry.finish, hasserted] using hmem

/-- The sequence of a port whose head is handed over before an entry that is still in a lane. -/
theorem sequence_alone (hseq : x.sequence = e :: rest) (hstatus : e.status = .inLane l)
    (hothers : ∀ g ∈ rest, g.status ≠ .inLane l) (frame : Bytes) :
    (withPasses inhibit (withHanded inhibit l frame x)).sequence
      = { e.finish (inhibit == .asserted) with frame := frame } :: finishPasses (inhibit == .asserted) rest := by
  have hrest : rest.map (Entry.handed l (inhibit == .asserted) frame) = rest :=
    (List.map_congr_left fun g hg => handed_other (hothers g hg) ..).trans (List.map_id' rest)
  rw [withPasses, withHanded, hseq, List.map_cons, hrest, handed_self hstatus, finishPasses,
    if_neg (by simp [Entry.finish])]

theorem head_finishPasses (h : ∀ g ∈ es.head?, g.status.isInLane = true) :
    ∀ g ∈ (finishPasses inhibited es).head?, g.status ≠ .done := by
  cases es with
  | nil => exact nofun
  | cons g es =>
    have hg := h g rfl
    have hwaits : g.status ≠ .waitingLane := fun hw => by simp [hw, EntryStatus.isInLane] at hg
    rw [finishPasses, if_neg hwaits]
    intro y hy hdone
    obtain rfl := Option.some.inj hy
    simp [hdone, EntryStatus.isInLane] at hg

/-- What the port, its counters and the slots are once a handed head has left under a counter. -/
def Leaves (p : PortNum) (e : Entry) (rest : List Entry) (c : PortCounter) (s t : State) : Prop :=
  (t.port p).sequence.map (fun g => (g.body, g.frame)) = rest.map (fun g => (g.body, g.frame))
  ∧ row (t.port p).counters c.index = addCount (row (s.port p).counters c.index) 1
  ∧ SameCountersBut [c] (s.port p) (t.port p)
  ∧ ∀ k, t.slot k = if e.slot? = some k then (s.slot k).released else s.slot k

theorem leaves_arbitrate (h : Leaves p e rest c s t) : Leaves p e rest c s (arbitrate t) := by
  obtain ⟨hmatter, hcount, hothers, hslots⟩ := h
  have hgrants := arbitrate_grants t
  obtain ⟨_, hport⟩ := hgrants.port p
  have hcounters : ((arbitrate t).port p).counters = (t.port p).counters := by rw [hport]
  refine ⟨(hgrants.matter p).trans hmatter, by rw [hcounters, hcount], fun d hd => ?_, fun k => ?_⟩
  · rw [hcounters]
    exact hothers d hd
  · rw [hgrants.slot, hslots]

/-- A handed head that is not to be sent leaves alone, before an entry that is still in a lane (R97, R98). -/
theorem leaves_alone (hseq : (s.port p).sequence = e :: rest) (hstatus : e.status = .inLane l)
    (hothers : ∀ g ∈ rest, g.status ≠ .inLane l) (hstops : ∀ g ∈ rest.head?, g.status.isInLane = true) (frame : Bytes)
    (h : let y := { e.finish (s.inhibit == .asserted) with frame := frame }
      c = .inhibitDrops ∧ (s.port p).inhibitDrop s.inhibit y = true
        ∨ c = .linkDownFlush ∧ (s.port p).linkDrop s.inhibit y = true ∧ (s.port p).inhibitDrop s.inhibit y = false) :
    Leaves p e rest c s (tidySequence p (handedOver p l frame s)) := by
  have hport : (tidySequence p (handedOver p l frame s)).port p = Port.withDrops c 1
      { s.port p with sequence := finishPasses (s.inhibit == .asserted) rest } := by
    rw [port_completed, if_pos rfl]
    exact withoutHeads_one (sequence_alone hseq hstatus hothers frame) (head_finishPasses hstops) h
  have hslots := slotsFollow_completed p l frame s
  have hone (k : SlotNum) := entriesAgainst_of_one (s := s) (t := tidySequence p (handedOver p l frame s)) (k := k) (p := p)
    fun q hq => by rw [port_completed, if_neg (Ne.symm hq)]
  have hagainst (k : SlotNum) : against k (finishPasses (s.inhibit == .asserted) rest) = against k rest :=
    against_eq_of_body (finishPasses_same _ _).1
  refine ⟨?matter, ?count, fun d hd => ?others, fun k => ?slot⟩
  case matter =>
    rw [hport]
    exact matter_finishPasses ..
  case count =>
    rw [hport, row_withDrops, if_pos rfl]
    rfl
  case others =>
    rw [hport, row_withDrops, if_neg fun hc => hd (by simp [portCounter_index_eq_iff.mp hc])]
  case slot =>
    obtain ⟨n, hn, hslot⟩ := hslots k
    have hk := hone k
    rw [hport, hseq, against_cons] at hk
    have hsame : against k (Port.withDrops c 1
        { s.port p with sequence := finishPasses (s.inhibit == .asserted) rest }).sequence = against k rest := hagainst k
    rw [hsame] at hk
    rw [hslot]
    split at hk
    · next h =>
      obtain rfl : n = 1 := by omega
      rw [if_pos h]
      rfl
    · next h =>
      obtain rfl : n = 0 := by omega
      rw [if_neg h]
      rfl

end Sys2Proof.Proofs

end

section
/-! SUPPORT. TRANSFORM_COMPLETE: a lane that is free with no work waiting, an entry whose slot has failed, and O21. -/

/-! One theorem is checked after another, as in the tests, which bounds the threads that the whole text takes. -/
set_option Elab.async false

namespace Sys2Proof.Proofs

open Sys2Proof Sys2Proof.Machine

variable {s t : State} {p q : PortNum} {k : SlotNum} {l m : LaneNum} {e : Entry} {x : Port} {frame : Bytes}
  {inhibit : InhibitState}

/-! ## What stands through a completion -/

theorem completed_userFrame (p : PortNum) (l : LaneNum) (frame : Bytes) (s : State) :
    UserFrame s (tidySequence p (handedOver p l frame s)) :=
  (handedOver_userFrame p l frame s).trans (userFrame_of_portFrame (tidySequence_portFrame p _))

theorem assocs_completed (p : PortNum) (l : LaneNum) (frame : Bytes) (s : State) :
    (tidySequence p (handedOver p l frame s)).assocs = s.assocs :=
  assocs_of_portFrame (tidySequence_portFrame p (handedOver p l frame s))

theorem verifyQueue_completed (p : PortNum) (l : LaneNum) (frame : Bytes) (s : State) :
    (tidySequence p (handedOver p l frame s)).verifyQueue = s.verifyQueue := by
  obtain ⟨_, _, _, _, _, _, h⟩ := tidySequence_portFrame p (handedOver p l frame s)
  exact (congrArg State.verifyQueue h).trans rfl

theorem keys_of_grantFrame (h : GrantFrame s t) : t.steering = s.steering ∧ t.transportKey = s.transportKey := by
  obtain ⟨_, _, _, _, _, _, rfl⟩ := h
  exact ⟨rfl, rfl⟩

/-- Nothing waits for a lane once an entry is handed over, where nothing waited before. -/
theorem waits_completed (h : ∀ g ∈ x.sequence, g.status ≠ .waitingLane) :
    ∀ g ∈ (withoutHeads inhibit (withPasses inhibit (withHanded inhibit l frame x))).sequence, g.status ≠ .waitingLane := by
  have hhanded : ∀ g ∈ (withHanded inhibit l frame x).sequence, g.status ≠ .waitingLane := by
    refine List.forall_mem_map.mpr fun g hg => ?_
    by_cases hl : g.status = .inLane l
    · rw [handed_self hl]
      simp [Entry.finish]
    · rw [handed_other hl]
      exact h g hg
  intro g hg
  have hmem : g ∈ (withPasses inhibit (withHanded inhibit l frame x)).sequence := (List.dropWhile_sublist _).subset hg
  rw [withPasses, finishPasses_nothing hhanded] at hmem
  exact hhanded g hmem

/-- With no work waiting the lane stays IDLE. -/
theorem lane_completed (hwaits : ∀ q, ∀ g ∈ (s.port q).sequence, g.status ≠ .waitingLane) (hqueue : s.verifyQueue = [])
    (hfifo : s.expansionFifo = []) (p : PortNum) (l : LaneNum) (frame : Bytes) :
    (arbitrate (tidySequence p (handedOver p l frame s))).lane l = .idle := by
  have hrests := tidySequence_rests p (handedOver p l frame s)
  rw [arbitrate_done]
  · exact hrests.lane l (State.lane_setLane_self s l .idle)
  · refine grantOne_quiet_none ((verifyQueue_completed p l frame s).trans hqueue) (hrests.fifo hfifo) fun q => ?_
    rw [port_completed]
    split
    · exact waits_completed (hwaits q)
    · exact hwaits q

/-! ## An entry whose slot has failed -/

theorem port_spoiled (p q : PortNum) (l : LaneNum) (s : State) : (spoiled p l s).port q
    = if p = q then Port.withDrops .assocStateDrops ((s.port q).sequence.countP fun g => g.status == .inLane l)
        { s.port q with sequence := (s.port q).sequence.filter fun g => !(g.status == .inLane l) }
      else s.port q := port_removeEntries ..

theorem slotsFollow_spoiled (p : PortNum) (l : LaneNum) (s : State) : SlotsFollow s (tidySequence p (spoiled p l s)) :=
  .trans (t := freeLane l s) (.of_same (fun _ => rfl) fun _ => rfl)
    ((slotsFollow_removeEntries p _ _ _).trans (slotsFollow_tidySequence p _))

theorem length_matter (x : Port) : (matter x).length = x.sequence.length := List.length_map _

/-- The entries of the lane leave as association-state drops, and the failed slot stays failed (R82). -/
theorem spoiled_leaves (he : e ∈ (s.port p).sequence) (hstatus : e.status = .inLane l)
    (hfaulted : (s.slot k).state = .faulted) :
    let t := tidySequence p (spoiled p l s)
    row (t.port p).counters PortCounter.assocStateDrops.index
        = drops (row (s.port p).counters PortCounter.assocStateDrops.index)
          ((s.port p).sequence.countP fun g => g.status == .inLane l)
    ∧ (t.port p).sequence.length < (s.port p).sequence.length ∧ (t.slot k).state = .faulted := by
  intro t
  have hport : t.port p = withoutHeads (spoiled p l s).inhibit (withPasses (spoiled p l s).inhibit
      (Port.withDrops .assocStateDrops ((s.port p).sequence.countP fun g => g.status == .inLane l)
        { s.port p with sequence := (s.port p).sequence.filter fun g => !(g.status == .inLane l) })) := by
    rw [port_tidySequence, if_pos rfl, port_spoiled, if_pos rfl]
  generalize (spoiled p l s).inhibit = inhibit at hport
  refine ⟨?count, ?length, ?slot⟩
  case count =>
    rw [hport, row_withoutHeads, if_neg (by decide), if_neg (by decide)]
    exact (row_withDrops ..).trans (if_pos rfl)
  case length =>
    have hgone : ((s.port p).sequence.filter fun g => !(g.status == .inLane l)).length < (s.port p).sequence.length :=
      List.length_filter_lt_length_iff_exists.mpr ⟨e, he, by simp [hstatus]⟩
    have hpasses := congrArg List.length (matter_finishPasses (inhibit == .asserted)
      ((s.port p).sequence.filter fun g => !(g.status == .inLane l)))
    rw [List.length_map, List.length_map] at hpasses
    rw [hport]
    exact ((List.dropWhile_sublist _).length_le.trans_eq hpasses).trans_lt hgone
  case slot =>
    obtain ⟨n, -, hslot⟩ := slotsFollow_spoiled p l s k
    have hnot : (s.slot k).state ≠ .draining := by simp [hfaulted]
    rw [show t.slot k = _ from hslot, releasedTimes_of_not_draining n hnot]
    exact hfaulted

/-! ## TRANSFORM_COMPLETE -/

/-- Settles O21: the entry by the branch that it takes, and the arbiter by the work that it finds. -/
theorem transformCompletes : Obligations.TransformCompletes := by
  refine ⟨fun l p copy clp e s hreset hlane he hstatus honly hunmarked => ?completion, fun s => ?arbiter⟩
  case completion =>
    have hexec := exec_transformComplete hreset hlane (entryInLane_only he hstatus honly)
    have hsound (h : ∀ k, e.slot? = some k → (s.slot k).state ≠ .faulted) : exec (.transformComplete l) s
        = .next (arbitrate (tidySequence p (handedOver p l (transformed p copy clp e) s))) := by
      rw [hexec, if_neg]
      rw [entryFaulted_iff]
      rintro ⟨k, hk, hfaulted⟩
      exact h k hk hfaulted
    refine ⟨fun h hreleased hsends => ⟨_, hsound h, ?sent⟩, fun h hasserted g rest m hseq hg hne => ⟨_, hsound h, ?marked⟩,
      fun h hasserted rest ⟨hseq, hothers, hstops⟩ =>
        ⟨_, hsound h, leaves_arbitrate (leaves_alone hseq hstatus hothers hstops _ ?inhibit)⟩,
      fun h hreleased hlink hflush rest ⟨hseq, hothers, hstops⟩ =>
        ⟨_, hsound h, leaves_arbitrate (leaves_alone hseq hstatus hothers hstops _ ?link)⟩,
      fun k hk hfaulted => ⟨_, hexec, ?spoiled⟩⟩
    case sent =>
      have hgrants := arbitrate_grants (tidySequence p (handedOver p l (transformed p copy clp e) s))
      obtain ⟨hsteering, hkey⟩ := keys_of_grantFrame hgrants.frame
      obtain ⟨hpart, -⟩ := userFrame_stands (completed_userFrame p l (transformed p copy clp e) s)
      refine ⟨hgrants.stays p _ (mem_sent he hstatus hunmarked hreleased hsends _) (by simp),
        fun hwaits hqueue hfifo => lane_completed hwaits hqueue hfifo p l _, hsteering.trans hpart.steering, fun a => ?_,
        hkey.trans hpart.transportKey⟩
      rw [hgrants.sans, State.assoc, assocs_completed]
      rfl
    case marked =>
      exact (arbitrate_grants _).stays p _ (mem_marked he hstatus hasserted hseq hg hne _) (by simp)
    case inhibit =>
      exact .inl ⟨rfl, by simp [Port.inhibitDrop, Entry.finish, hasserted]⟩
    case link =>
      refine .inr ⟨rfl, ?_⟩
      simp [Port.linkDrop, Port.inhibitDrop, Entry.finish, hunmarked, hreleased, hlink, hflush]
    case spoiled =>
      rw [if_pos (entryFaulted_iff.mpr ⟨k, hk, hfaulted⟩)]
      obtain ⟨hcount, hlength, hslot⟩ := spoiled_leaves he hstatus hfaulted
      have hgrants := arbitrate_grants (tidySequence p (spoiled p l s))
      obtain ⟨_, hport⟩ := hgrants.port p
      refine ⟨fun hone => ?_, ?_, by rw [hgrants.slot, hslot]⟩
      · rw [hport]
        refine hcount.trans ?_
        rw [hone]
        rfl
      · rw [← length_matter, hgrants.matter, length_matter]
        exact hlength
  case arbiter =>
    refine ⟨arbitrate_done, fun t => arbitrate_grantOne, grantOne_arbitrate s, grantOne_full, fun l hidle hlow => ?_⟩
    have hlane := idleLane_lowest hidle hlow
    refine ⟨fun r rest => grantOne_verify hlane, fun k rest hqueue hfifo hroom => grantOne_expand hlane hqueue hfifo hroom,
      fun hqueue hwork => ⟨fun hnone => grantOne_nothing hqueue hwork fun p before e behind h =>
        hnone p before e behind ⟨h.sequence, h.before, h.waits, h.body, h.room⟩,
        fun i before e passes behind ⟨hseq, hbefore, hwaits, hbody, hroom⟩ hfirst hpasses hbehind => ?_⟩⟩
    have hoffers : Offers s (s.roundRobin + i) before e (passes ++ behind) := ⟨hseq, hbefore, hwaits, hbody, hroom⟩
    obtain ⟨k, hk⟩ := slot?_of_body hbody
    obtain ⟨hport, hports, hassoc, hlanes, hround, hrest⟩ := grantTransform_effect (l := l) hoffers.find hk
    refine ⟨_, grantOne_first hlane hqueue hwork hoffers fun j hj before e behind h =>
      hfirst j hj before e behind ⟨h.sequence, h.before, h.waits, h.body, h.room⟩, ?sequence, by rw [hport], hports,
      fun a => ?assoc, fun j hj => ?lane, fun m hm => (hlanes m).trans (if_neg (Ne.symm hm)), hround, hrest⟩
    case sequence =>
      rw [hport]
      refine (congrArg _ (congrArg _ hseq)).trans ((sequence_granted hbefore hwaits hpasses hbehind).trans ?_)
      cases hbody : e.body <;> rfl
    case assoc =>
      rw [hassoc]
      cases e.body with
      | data b k pn m v label =>
        show (s.updAssoc b _).assoc a = if a = b then _ else _
        rw [State.assoc_updAssoc]
        by_cases h : a = b
        · simp [h]
        · simp [h, Ne.symm h]
      | notice a k pn => rfl
      | pass => rfl
    case lane =>
      obtain rfl := Option.some.inj (hk.symm.trans hj)
      rw [hlanes, if_pos rfl]
      rfl

end Sys2Proof.Proofs

end

section
/-! SUPPORT. What the users of a fine pulse that come after the scrubber leave of the sequences, of a slot that no association
holds, and of the event list (R124). -/

/-! One theorem is checked after another, as in the tests, which bounds the threads that the whole text takes. -/
set_option Elab.async false

namespace Sys2Proof.Proofs

open Sys2Proof Sys2Proof.Machine

variable {s t u : State} {p q : PortNum} {a b : Anum} {k j : SlotNum} {kind : EventKind} {source : EventSource}
  {trigger : TriggerKind} {scale : LifetimeScale} {W : EventSource → Prop} {M : EventKind → EventSource → Prop}

/-! ## What they leave -/

/-- No association has the slot as its current or next slot. -/
def NoOne (k : SlotNum) (s : State) : Prop := ∀ a, (s.assoc a).current ≠ some k ∧ (s.assoc a).next ≠ some k

/-- Sequences stand with the drops of R82, a slot that no one holds stands, and only the events named are raised. -/
structure Timed (M : EventKind → EventSource → Prop) (k : SlotNum) (s t : State) : Prop where
  sequence : ∀ p, (t.port p).sequence = (s.port p).sequence
  drops : ∀ p, row (t.port p).counters PortCounter.assocStateDrops.index
    = row (s.port p).counters PortCounter.assocStateDrops.index
  spare : NoOne k s → NoOne k t ∧ t.slot k = s.slot k
  events : EventsStand M s t

theorem Timed.refl (s : State) : Timed M k s s := ⟨fun _ => rfl, fun _ => rfl, fun h => ⟨h, rfl⟩, .refl s⟩

theorem Timed.trans (h : Timed M k s t) (g : Timed M k t u) : Timed M k s u :=
  ⟨fun p => (g.sequence p).trans (h.sequence p), fun p => (g.drops p).trans (h.drops p), fun hs => by
    obtain ⟨ht, hslot⟩ := h.spare hs
    obtain ⟨hu, gslot⟩ := g.spare ht
    exact ⟨hu, gslot.trans hslot⟩, h.events.trans g.events⟩

/-- Where ports, slots and the slots' holders stand, only the events matter. -/
theorem Timed.of_same (hport : ∀ p, t.port p = s.port p) (hslot : t.slot k = s.slot k)
    (hassoc : ∀ a, (t.assoc a).current = (s.assoc a).current ∧ (t.assoc a).next = (s.assoc a).next)
    (hevents : EventsStand M s t) : Timed M k s t := by
  refine ⟨fun p => by rw [hport], fun p => by rw [hport], fun h => ⟨fun a => ?_, hslot⟩, hevents⟩
  rw [(hassoc a).1, (hassoc a).2]
  exact h a

theorem timed_of_switching (hM : ∀ kind source, Switches kind source → M kind source) (h : Switching s t)
    (hspare : NoOne k s → NoOne k t ∧ t.slot k = s.slot k) :
    Timed M k s t :=
  ⟨fun p => (sameTraffic_of_keepsPorts h.ports p).sequence, fun p => h.stale p _ (by simp), hspare,
    h.events.mono hM⟩

theorem raiseEvent_timed (h : M kind source) (detail : BitVec 16) (s : State) :
    Timed M k s (raiseEvent kind source detail s) :=
  .of_same (fun _ => State.port_raiseEvent ..) (State.slot_raiseEvent ..)
    (fun a => by rw [State.assoc_raiseEvent]; exact ⟨rfl, rfl⟩) (raiseEvent_eventsStand h ..)

/-- A record that takes no other slots than it had. -/
theorem updAssoc_timed (a : Anum) {f : Assoc → Assoc}
    (hf : ∀ x, ((f x).current = x.current ∨ (f x).current = none) ∧ ((f x).next = x.next ∨ (f x).next = none)) (s : State) :
    Timed M k s (s.updAssoc a f) := by
  refine ⟨fun _ => rfl, fun _ => rfl, fun h => ⟨fun b => ?_, rfl⟩, .of_same rfl rfl rfl⟩
  rw [State.assoc_updAssoc]
  split
  · next hab =>
    subst hab
    obtain ⟨hcurrent, hnext⟩ := hf (s.assoc a)
    refine ⟨?_, ?_⟩
    · obtain hc | hc := hcurrent <;> rw [hc]
      exacts [(h a).1, nofun]
    · obtain hn | hn := hnext <;> rw [hn]
      exacts [(h a).2, nofun]
  · exact h b

theorem updPort_timed (p : PortNum) {f : Port → Port}
    (hf : ∀ x, (f x).sequence = x.sequence ∧ (f x).counters = x.counters) (s : State) : Timed M k s (s.updPort p f) := by
  have hport (q : PortNum) : ((s.updPort p f).port q).sequence = (s.port q).sequence
      ∧ ((s.updPort p f).port q).counters = (s.port q).counters := by
    rw [State.port_updPort]
    split
    · next h =>
      subst h
      exact hf _
    · exact ⟨rfl, rfl⟩
  exact ⟨fun q => (hport q).1, fun q => by rw [(hport q).2], fun h => ⟨h, rfl⟩, .of_same rfl rfl rfl⟩

/-! ## Attempt timers and the gap limit -/

/-- The events of the users after the scrubber, with the sources for which a key may be wanted. -/
def Later (W : EventSource → Prop) (kind : EventKind) (source : EventSource) : Prop :=
  kind = .switchFailed ∨ kind = .mgmtFault ∨ kind = .keyRetired ∨ kind = .switchDone ∨ kind = .switchDue
    ∨ kind = .keyWanted ∧ W source

theorem later_of_switches (h : Switches kind source) : Later W kind source :=
  h.elim (fun hr => .inr (.inr (.inl hr))) fun hd => .inr (.inr (.inr (.inl hd)))

theorem endAttempt_timed (a : Anum) (s : State) : Timed (Later W) k s (endAttempt a s) := by
  cases hx : (s.assoc a).attempt with
  | none =>
    simp only [endAttempt, hx]
    exact .refl s
  | some x =>
    by_cases h : x.step < (s.port (s.assoc a).port).lastStep
    · rw [endAttempt_next hx h]
      exact .trans (t := s.updAssoc a fun y => { y with attempt := some x.following })
        (updAssoc_timed a (f := fun y => { y with attempt := some x.following }) (fun _ => ⟨.inl rfl, .inl rfl⟩) s)
        (updPort_timed _ (f := fun y => { y with controlQueue := y.controlQueue ++ [a] }) (fun _ => ⟨rfl, rfl⟩) _)
    · rw [endAttempt_giveUp hx (Nat.le_of_not_lt h), giveUp_eq]
      exact .trans (t := leaveControlQueue a s)
        (updPort_timed _ (f := fun y => { y with controlQueue := y.controlQueue.filter (· != a) }) (fun _ => ⟨rfl, rfl⟩) s)
        ((updAssoc_timed a (f := gaveUp) (fun _ => ⟨.inl rfl, .inl rfl⟩) _).trans (raiseEvent_timed (.inl rfl) ..))

theorem attemptPulse_timed (s : State) (a : Anum) : Timed (Later W) k s (attemptPulse s a) := by
  obtain ⟨h, -⟩ | ⟨x, -, -, -, h⟩ | ⟨h, -⟩ := attemptPulse_cases s a <;> rw [h]
  · exact endAttempt_timed ..
  · exact updAssoc_timed a (f := fun y => { y with attempt := some { x with pulses := x.pulses - 1 } })
      (fun _ => ⟨.inl rfl, .inl rfl⟩) s
  · exact .refl s

theorem gapPulse_timed (s : State) : Timed (Later W) k s (gapPulse s) := by
  obtain ⟨-, -, hassocs, hports, hslots, -⟩ := gapPulse_stands s
  refine .of_same (fun p => by rw [State.port, hports]; rfl) (by rw [State.slot, hslots]; rfl)
    (fun a => by rw [State.assoc, hassocs]; exact ⟨rfl, rfl⟩) ?_
  unfold gapPulse
  split
  · split
    · unfold abandonRecord recordFault
      refine .trans ?_ (raiseEvent_eventsStand (.inr (.inl rfl)) ..)
      exact .of_same rfl rfl rfl
    · exact .of_same rfl rfl rfl
  · exact .refl s

/-! ## Lifetimes -/

theorem cutOver_timed (a : Anum) (s : State) : Timed (Later W) k s (cutOver a s) := by
  refine timed_of_switching (fun _ _ => later_of_switches) (cutOver_switching a s) fun h => ?_
  cases hj : (s.assoc a).next with
  | none =>
    have hstands : cutOver a s = s := by simp only [cutOver, hj]
    rw [hstands]
    exact ⟨h, rfl⟩
  | some j =>
    have hne : k ≠ j := fun hk => (h a).2 (hk ▸ hj)
    refine ⟨fun b => ?_, slot_cutOver_other hj (h a).1 hne⟩
    by_cases hb : b = a
    · subst hb
      rw [assoc_cutOver_self hj]
      exact ⟨fun hk => hne (Option.some.inj hk).symm, nofun⟩
    · rw [assoc_cutOver_ne hj hb]
      exact h b

theorem beginSwitch_timed (a : Anum) (s : State) : Timed (Later W) k s (beginSwitch a s) := by
  cases hpolicy : (s.assoc a).confirmPolicy with
  | confirmed =>
    rw [beginSwitch_confirmed hpolicy]
    exact (updAssoc_timed a (f := Assoc.announced _) (fun _ => ⟨.inl rfl, .inl rfl⟩) s).trans
      (updPort_timed _ (f := fun y => { y with controlQueue := y.controlQueue ++ [a] }) (fun _ => ⟨rfl, rfl⟩) _)
  | unilateral =>
    rw [beginSwitch_unilateral hpolicy]
    exact (updAssoc_timed a (f := Assoc.unflagged) (fun _ => ⟨.inl rfl, .inl rfl⟩) s).trans (cutOver_timed a _)

theorem setPending_timed (a : Anum) (trigger : TriggerKind) (s : State) : Timed (Later W) k s (setPending a trigger s) :=
  updAssoc_timed a (fun _ => by split <;> exact ⟨.inl rfl, .inl rfl⟩) s

/-- The five things that a trigger can do (R130). -/
theorem handTrigger_cases (a : Anum) (trigger : TriggerKind) (s : State) :
    handTrigger a trigger s = s ∨ (s.canStart a = true ∧ handTrigger a trigger s = beginSwitch a s)
      ∨ handTrigger a trigger s = setPending a trigger s
      ∨ ((s.assoc a).switchPending = false
        ∧ handTrigger a trigger s = raiseEvent .keyWanted (.assoc a) (trigger.code.setWidth 16) (setPending a trigger s))
      ∨ handTrigger a trigger s = raiseEvent .switchDue (.assoc a) (trigger.code.setWidth 16)
          (s.updAssoc a fun x => { x with switchDue := true }) := by
  by_cases hacts : Triggerable (s.assoc a)
  · cases hpolicy : (s.assoc a).triggerPolicy with
    | auto =>
      by_cases hstart : SwitchCanStart s a (s.port (s.assoc a).port).mode s.inhibit
      · exact .inr (.inl ⟨canStart_iff.mpr hstart, handTrigger_starts hpolicy hstart⟩)
      · have hwaits := handTrigger_waits (kind := trigger) hacts hpolicy hstart
        by_cases hset : s.nextReady a = true ∨ (s.assoc a).switchPending = true
        · exact .inr (.inr (.inl (hwaits.trans (if_pos hset))))
        · exact .inr (.inr (.inr (.inl ⟨Bool.eq_false_iff.mpr fun h => hset (.inr h), hwaits.trans (if_neg hset)⟩)))
    | manual =>
      have hmanual := handTrigger_manual (kind := trigger) hacts hpolicy
      split at hmanual
      · exact .inl hmanual
      · exact .inr (.inr (.inr (.inr hmanual)))
  · exact .inl (handTrigger_ignored hacts)

theorem handTrigger_timed (a : Anum) (trigger : TriggerKind) (hW : (s.assoc a).switchPending = false → W (.assoc a)) :
    Timed (Later W) k s (handTrigger a trigger s) := by
  obtain h | ⟨-, h⟩ | h | ⟨hpending, h⟩ | h := handTrigger_cases a trigger s <;> rw [h]
  · exact .refl s
  · exact beginSwitch_timed ..
  · exact setPending_timed ..
  · exact (setPending_timed ..).trans (raiseEvent_timed (.inr (.inr (.inr (.inr (.inr ⟨rfl, hW hpending⟩))))) ..)
  · exact (updAssoc_timed a (f := fun x => { x with switchDue := true }) (fun _ => ⟨.inl rfl, .inl rfl⟩) s).trans
      (raiseEvent_timed (.inr (.inr (.inr (.inr (.inl rfl))))) ..)

theorem lifetimePulse_timed (scale : LifetimeScale) (a : Anum)
    (hW : (s.assoc a).switchPending = false → W (.assoc a)) : Timed (Later W) k s (lifetimePulse scale s a) := by
  have haged : Timed (Later W) k s (s.updAssoc a Assoc.aged) :=
    updAssoc_timed a (f := Assoc.aged) (fun _ => ⟨.inl rfl, .inl rfl⟩) s
  obtain ⟨-, -, h⟩ | ⟨-, -, h⟩ | ⟨-, h⟩ := lifetimePulse_cases scale s a <;> rw [h]
  · refine haged.trans (handTrigger_timed a .expiry fun hpending => hW ?_)
    rwa [State.assoc_updAssoc_self] at hpending
  · exact haged
  · exact .refl s

/-! ## The whole pulse after the scrubber -/

/-- A property that the users keep, and under which a key is wanted only for the sources named. -/
structure KeptByTimers (W : EventSource → Prop) (I : State → Prop) : Prop where
  attempt : ∀ s a, I s → I (attemptPulse s a)
  gap : ∀ s, I s → I (gapPulse s)
  lifetime : ∀ scale s a, I s → I (lifetimePulse scale s a)
  wanted : ∀ s a, I s → (s.assoc a).switchPending = false → W (.assoc a)

theorem keptByTimers_any : KeptByTimers (fun _ => True) fun _ => True :=
  ⟨fun _ _ _ => trivial, fun _ _ => trivial, fun _ _ _ _ => trivial, fun _ _ _ _ => trivial⟩

theorem lifetimePulses_timed {I : State → Prop} (hI : KeptByTimers W I) (scale : LifetimeScale) (hs : I s) :
    I (allAnums.foldl (lifetimePulse scale) s) ∧ Timed (Later W) k s (allAnums.foldl (lifetimePulse scale) s) :=
  foldl_keeps (fun t => I t ∧ Timed (Later W) k s t) (lifetimePulse scale)
    (fun t a h => ⟨hI.lifetime scale t a h.1, h.2.trans (lifetimePulse_timed scale a (hI.wanted t a h.1))⟩) allAnums s
    ⟨hs, .refl s⟩

theorem finePulse_timed {I : State → Prop} (hI : KeptByTimers W I) (hs : I (scrub (linksPulsed (divided s)))) :
    Timed (Later W) k (scrub (linksPulsed (divided s))) (finePulse s) := by
  have hattempts : I (timersPulsed (divided s)) ∧ Timed (Later W) k (scrub (linksPulsed (divided s))) (timersPulsed (divided s)) :=
    foldl_keeps (fun t => I t ∧ Timed (Later W) k (scrub (linksPulsed (divided s))) t) attemptPulse
      (fun t a h => ⟨hI.attempt t a h.1, h.2.trans (attemptPulse_timed t a)⟩) allAnums _ ⟨hs, .refl _⟩
  obtain ⟨htimers, hgap⟩ := hattempts
  obtain ⟨hfine, hpulsed⟩ := lifetimePulses_timed (k := k) hI .fine (hI.gap _ htimers)
  have hpulsed : Timed (Later W) k (scrub (linksPulsed (divided s))) (finePulsed s) := hgap.trans ((gapPulse_timed _).trans hpulsed)
  rw [finePulse_eq]
  split
  · exact hpulsed.trans (lifetimePulses_timed hI .coarse hfine).2
  · exact hpulsed

end Sys2Proof.Proofs

end

section
/-! SUPPORT. The entries recorded against a slot that has failed (R82): what becomes of the ports, of the slot and of the
event list. -/

/-! One theorem is checked after another, as in the tests, which bounds the threads that the whole text takes. -/
set_option Elab.async false

namespace Sys2Proof.Proofs

open Sys2Proof Sys2Proof.Machine

variable {s t u : State} {p q : PortNum} {k : SlotNum} {e : Entry} {es : List Entry} {x : Port} {c : PortCounter}
  {inhibit : InhibitState} {inhibited : Bool}

/-! ## The ports -/

/-- An entry that leaves at once when its slot fails (R82). -/
def condemnedBy (k : SlotNum) (e : Entry) : Bool := e.slot? == some k && !e.status.isInLane

/-- A port once the entries of a failed slot have left, and what is then unsent at its head. -/
def condemnedPort (k : SlotNum) (inhibit : InhibitState) (x : Port) : Port :=
  withoutHeads inhibit (withPasses inhibit (Port.withDrops .assocStateDrops (x.sequence.countP (condemnedBy k))
    { x with sequence := x.sequence.filter fun e => !condemnedBy k e }))

theorem condemnOnPort_eq (k : SlotNum) (s : State) (p : PortNum) :
    condemnOnPort k s p = tidySequence p (removeEntries p (condemnedBy k) .assocStateDrops s) := rfl

theorem inhibit_of_portFrame (h : PortFrame s t) : t.inhibit = s.inhibit := by
  obtain ⟨_, _, _, _, _, _, rfl⟩ := h
  rfl

theorem port_condemnOnPort (k : SlotNum) (s : State) (p q : PortNum) : (condemnOnPort k s p).port q
    = if p = q then condemnedPort k s.inhibit (s.port q) else s.port q := by
  rw [condemnOnPort_eq, port_tidySequence, port_removeEntries, inhibit_of_portFrame (removeEntries_portFrame ..)]
  split <;> rfl

theorem port_condemnEntries (k : SlotNum) (s : State) (p : PortNum) :
    (condemnEntries k s).port p = condemnedPort k s.inhibit (s.port p) := by
  refine port_foldl (P := fun t : State => t.inhibit = s.inhibit) (fun t q ht => ?_) (fun t q ht => ?_) (fun t q r hqr => ?_)
    rfl p
  · exact (inhibit_of_portFrame ((removeEntries_portFrame ..).trans (tidySequence_portFrame ..))).trans ht
  · rw [port_condemnOnPort, if_pos rfl, ht]
  · rw [port_condemnOnPort, if_neg (by tauto)]

theorem mem_of_finishPasses (h : e ∈ finishPasses inhibited es) : e ∈ es ∨ e.slot? = none := by
  induction es with
  | nil => cases h
  | cons g es ih =>
    unfold finishPasses at h
    split_ifs at h with hwaits hpass
    · obtain rfl | h := List.mem_cons.mp h
      · have hbody : g.body = .pass := by simpa [Entry.isPass] using hpass
        exact .inr (by simp [Entry.slot?, Entry.finish, hbody])
      · exact (ih h).imp_left (List.mem_cons_of_mem _)
    · exact .inl h
    · obtain rfl | h := List.mem_cons.mp h
      · exact .inl List.mem_cons_self
      · exact (ih h).imp_left (List.mem_cons_of_mem _)

/-- Of a failed slot only entries in lanes stay (R82). -/
theorem inLane_condemnedPort (h : e ∈ (condemnedPort k inhibit x).sequence) (hk : e.slot? = some k) :
    e.status.isInLane = true := by
  obtain h | h := mem_of_finishPasses ((List.dropWhile_sublist _).subset h)
  · obtain ⟨-, hstays⟩ := List.mem_filter.mp h
    simpa [condemnedBy, hk] using hstays
  · rw [h] at hk
    cases hk

theorem row_condemnedPort (k : SlotNum) (inhibit : InhibitState) (x : Port) :
    row (condemnedPort k inhibit x).counters PortCounter.assocStateDrops.index
      = drops (row x.counters PortCounter.assocStateDrops.index) (x.sequence.countP (condemnedBy k)) := by
  rw [condemnedPort, row_withoutHeads, if_neg (by decide), if_neg (by decide)]
  exact (row_withDrops ..).trans (if_pos rfl)

theorem length_condemnedPort (k : SlotNum) (inhibit : InhibitState) (x : Port) :
    (condemnedPort k inhibit x).sequence.length ≤ x.sequence.length := by
  have hpasses := congrArg List.length
    (matter_finishPasses (inhibit == .asserted) (x.sequence.filter fun e => !condemnedBy k e))
  rw [List.length_map, List.length_map] at hpasses
  exact ((List.dropWhile_sublist _).length_le.trans_eq hpasses).trans (List.length_filter_le ..)

/-! ## The slot -/

theorem slotsFollow_condemnOnPort (k : SlotNum) (s : State) (p : PortNum) : SlotsFollow s (condemnOnPort k s p) :=
  (slotsFollow_removeEntries p _ _ s).trans (slotsFollow_tidySequence p _)

theorem slotsFollow_condemnEntries (k : SlotNum) (s : State) : SlotsFollow s (condemnEntries k s) :=
  foldl_keeps (SlotsFollow s) (condemnOnPort k) (fun t p ht => ht.trans (slotsFollow_condemnOnPort k t p)) allPorts s
    (.refl s)

/-! ## The event list -/

theorem condemnEntries_eventsStand (k : SlotNum) (s : State) : EventsStand Retires s (condemnEntries k s) :=
  foldl_eventsStand (fun t p => (removeEntries_eventsStand p _ _ t).trans
    (.trans (t := settlePasses p _) (.of_same rfl rfl rfl) (discardHeads_eventsStand p _))) allPorts s

theorem length_events_releaseEntry (e : Entry) (s : State) :
    (releaseEntry e s).events.length ≤ s.events.length + 1 := by
  obtain h | ⟨k, u, hu, h⟩ := events_releaseEntry e s <;> rw [h]
  · exact Nat.le_succ _
  · rw [← hu]
    exact length_events_raiseEvent

theorem length_events_countOut (p : PortNum) (c : PortCounter) : ∀ (es : List Entry) (s : State),
    (countOut p c es s).events.length ≤ s.events.length + es.length
  | [], s => Nat.le_refl _
  | e :: es, s => by
    have hone := length_events_releaseEntry e (bumpPort p c 1 s)
    have hrest := length_events_countOut p c es (releaseEntry e (bumpPort p c 1 s))
    have hsame : (bumpPort p c 1 s).events = s.events := rfl
    rw [hsame] at hone
    rw [List.length_cons]
    exact hrest.trans (by omega)

theorem length_events_dropHead (p : PortNum) (s : State) : (dropHead p s).events.length ≤ s.events.length + 1 := by
  unfold dropHead
  split
  · exact Nat.le_succ _
  · exact length_events_releaseEntry ..

theorem length_events_discardHeadsUpTo (p : PortNum) : ∀ (n : Nat) (s : State),
    (discardHeadsUpTo n p s).events.length ≤ s.events.length + n
  | 0, s => Nat.le_refl _
  | n + 1, s => by
    unfold discardHeadsUpTo
    split
    · next c _ =>
      have hone := length_events_dropHead p (bumpPort p c 1 s)
      have hrest := length_events_discardHeadsUpTo p n (dropHead p (bumpPort p c 1 s))
      have hsame : (bumpPort p c 1 s).events = s.events := rfl
      rw [hsame] at hone
      omega
    · omega

/-- Entries that leave a port raise at most an event each. -/
theorem length_events_condemnOnPort (k : SlotNum) (s : State) (p : PortNum) :
    (condemnOnPort k s p).events.length ≤ s.events.length + (s.port p).sequence.length := by
  have hremoved : (removeEntries p (condemnedBy k) .assocStateDrops s).events.length
      ≤ s.events.length + ((s.port p).sequence.filter (condemnedBy k)).length := by
    rw [removeEntries_eq]
    exact length_events_countOut ..
  have hpasses := congrArg List.length
    (matter_finishPasses s.inhibited ((s.port p).sequence.filter fun e => !condemnedBy k e))
  rw [List.length_map, List.length_map] at hpasses
  have hsettled : ((settlePasses p (removeEntries p (condemnedBy k) .assocStateDrops s)).port p).sequence.length
      = ((s.port p).sequence.filter fun e => !condemnedBy k e).length := by
    rw [port_settlePasses, if_pos rfl, port_removeEntries, if_pos rfl, inhibit_of_portFrame (removeEntries_portFrame ..)]
    exact hpasses
  have hsplit := List.length_eq_length_filter_add (l := (s.port p).sequence) (condemnedBy k)
  have hdiscarded : (condemnOnPort k s p).events.length
      ≤ (removeEntries p (condemnedBy k) .assocStateDrops s).events.length
        + ((settlePasses p (removeEntries p (condemnedBy k) .assocStateDrops s)).port p).sequence.length :=
    length_events_discardHeadsUpTo p _ (settlePasses p (removeEntries p (condemnedBy k) .assocStateDrops s))
  omega

theorem length_events_condemnPorts (k : SlotNum) : ∀ (ps : List PortNum) (s : State),
    (∀ p, (s.port p).sequence.length ≤ 4) →
      (ps.foldl (condemnOnPort k) s).events.length ≤ s.events.length + 4 * ps.length
  | [], s, _ => Nat.le_refl _
  | p :: ps, s, h => by
    have hone := length_events_condemnOnPort k s p
    have hp := h p
    have hrest := length_events_condemnPorts k ps (condemnOnPort k s p) fun q => by
      rw [port_condemnOnPort]
      split
      · exact (length_condemnedPort ..).trans (h q)
      · exact h q
    rw [List.length_cons]
    exact hrest.trans (by omega)

/-- Sequences of four entries at most raise sixteen events at most. -/
theorem length_events_condemnEntries (k : SlotNum) (h : ∀ p, (s.port p).sequence.length ≤ 4) :
    (condemnEntries k s).events.length ≤ s.events.length + 16 := length_events_condemnPorts k allPorts s h

end Sys2Proof.Proofs

end

section
/-! SUPPORT. The association whose slot has failed its scrub (R58, R59, R81, R134): its record, its events, and that no
association holds the slot any more. -/

/-! One theorem is checked after another, as in the tests, which bounds the threads that the whole text takes. -/
set_option Elab.async false

namespace Sys2Proof.Proofs

open Sys2Proof Sys2Proof.Machine

variable {s t u : State} {p : PortNum} {a b : Anum} {k j : SlotNum} {cause : AbortCause} {x y : Assoc} {was : Slot}
  {kind : EventKind} {source : EventSource} {detail : BitVec 16} {M : EventKind → EventSource → Prop}

/-! ## What stands while a key is lost -/

/-- The events of an association that loses a key (R58, R59, R134). -/
def Losing (kind : EventKind) (_ : EventSource) : Prop :=
  kind = .switchAborted ∨ kind = .assocFaulted ∨ kind = .keyWanted

theorem endExchange_timed (a : Anum) (s : State) : Timed M k s (endExchange a s) :=
  .trans (t := leaveControlQueue a s)
    (updPort_timed _ (f := fun y => { y with controlQueue := y.controlQueue.filter (· != a) }) (fun _ => ⟨rfl, rfl⟩) s)
    (updAssoc_timed a (f := exchangeEnded) (fun _ => ⟨.inl rfl, .inl rfl⟩) _)

theorem abandonExchange_timed (hM : M .switchAborted (.assoc a)) (cause : AbortCause) (s : State) :
    Timed M k s (abandonExchange cause s a) := by
  by_cases h : (s.assoc a).attempt = none
  · rw [abandonExchange_none h]
    exact .refl s
  · rw [abandonExchange_eq h]
    exact (endExchange_timed a s).trans (raiseEvent_timed hM ..)

theorem withdrawVerifies_timed (a : Anum) (s : State) : Timed M k s (withdrawVerifies a s) := by
  have hswitching := withdrawVerifies_switching a s
  refine ⟨fun p => (sameTraffic_of_keepsPorts hswitching.ports p).sequence, fun p => hswitching.stale p _ (by simp),
    fun h => ⟨fun b => ?_, slot_withdrawVerifies ..⟩, ?_⟩
  · rw [assoc_withdrawVerifies]
    exact h b
  · obtain ⟨-, _, _, _, hframe⟩ := withdrawVerifies_verifyFrame a s
    rw [hframe]
    exact .of_same rfl rfl rfl

theorem currentDropped_timed (a : Anum) (s : State) : Timed Losing k s (currentDropped a s) :=
  (updAssoc_timed a (f := fun x => { x with current := none }) (fun _ => ⟨.inr rfl, .inl rfl⟩) s).trans
    (abandonExchange_timed (.inl rfl) ..)

theorem nextDropped_timed (a : Anum) (s : State) : Timed Losing k s (nextDropped a s) :=
  (updAssoc_timed a (f := fun x => { x with next := none }) (fun _ => ⟨.inl rfl, .inr rfl⟩) s).trans
    (abandonExchange_timed (.inl rfl) ..)

theorem loseCurrent_timed (a : Anum) (s : State) : Timed Losing k s (loseCurrent a s) := by
  rw [loseCurrent_eq]
  exact (currentDropped_timed a s).trans
    ((updAssoc_timed a (f := fun x => { x.clearFlags with state := .faulted }) (fun _ => ⟨.inl rfl, .inl rfl⟩) _).trans
      ((raiseEvent_timed (.inr (.inl rfl)) ..).trans (withdrawVerifies_timed ..)))

theorem loseNext_timed (a : Anum) (s : State) : Timed Losing k s (loseNext a s) := by
  obtain h | ⟨_, h⟩ := loseNext_cases a s <;> rw [h]
  · exact (nextDropped_timed a s).trans (withdrawVerifies_timed ..)
  · exact (nextDropped_timed a s).trans ((raiseEvent_timed (.inr (.inr rfl)) ..).trans (withdrawVerifies_timed ..))

theorem loseKey_timed (was : Slot) (k : SlotNum) (s : State) : Timed Losing j s (loseKey was k s) := by
  unfold loseKey
  split
  · split
    · exact loseCurrent_timed ..
    · exact .refl s
  · split
    · exact loseNext_timed ..
    · exact .refl s
  · exact .refl s

theorem slots_abandonExchange (cause : AbortCause) (s : State) (a : Anum) : (abandonExchange cause s a).slots = s.slots := by
  obtain ⟨_, _, _, _, h⟩ := abandonExchange_lists cause s a
  rw [h]

theorem slot_currentDropped (a : Anum) (s : State) (j : SlotNum) : (currentDropped a s).slot j = s.slot j := by
  rw [State.slot, currentDropped, slots_abandonExchange]
  rfl

theorem slot_nextDropped (a : Anum) (s : State) (j : SlotNum) : (nextDropped a s).slot j = s.slot j := by
  rw [State.slot, nextDropped, slots_abandonExchange]
  rfl

/-- The loss of a key by its association leaves every slot as it is. -/
theorem slot_loseKey (was : Slot) (k : SlotNum) (s : State) (j : SlotNum) : (loseKey was k s).slot j = s.slot j := by
  have hcurrent (a : Anum) : (loseCurrent a s).slot j = s.slot j := by
    rw [loseCurrent_eq, slot_withdrawVerifies, State.slot_raiseEvent]
    exact slot_currentDropped a s j
  have hnext (a : Anum) : (loseNext a s).slot j = s.slot j := by
    obtain h | ⟨_, h⟩ := loseNext_cases a s
    · rw [h, slot_withdrawVerifies, slot_nextDropped]
    · rw [h, slot_withdrawVerifies, State.slot_raiseEvent, slot_nextDropped]
  unfold loseKey
  split
  · split
    exacts [hcurrent _, rfl]
  · split
    exacts [hnext _, rfl]
  · rfl

/-! ## The record of the association -/

theorem assoc_currentDropped_self (a : Anum) (s : State) : (currentDropped a s).assoc a
    = if (s.assoc a).attempt = none then { s.assoc a with current := none }
      else exchangeEnded { s.assoc a with current := none } := by
  rw [currentDropped, assoc_abandonExchange_self, State.assoc_updAssoc_self]

theorem assoc_nextDropped_self (a : Anum) (s : State) : (nextDropped a s).assoc a
    = if (s.assoc a).attempt = none then { s.assoc a with next := none }
      else exchangeEnded { s.assoc a with next := none } := by
  rw [nextDropped, assoc_abandonExchange_self, State.assoc_updAssoc_self]

theorem assoc_loseCurrent_ne (h : b ≠ a) : (loseCurrent a s).assoc b = s.assoc b := by
  rw [loseCurrent_eq, assoc_withdrawVerifies, State.assoc_raiseEvent, State.assoc_updAssoc_ne _ _ h.symm, currentDropped,
    assoc_abandonExchange_ne h, State.assoc_updAssoc_ne _ _ h.symm]

theorem assoc_loseNext_self (a : Anum) (s : State) : (loseNext a s).assoc a = (nextDropped a s).assoc a := by
  obtain h | ⟨_, h⟩ := loseNext_cases a s
  · rw [h, assoc_withdrawVerifies]
  · rw [h, assoc_withdrawVerifies, State.assoc_raiseEvent]

theorem assoc_nextDropped_ne (h : b ≠ a) : (nextDropped a s).assoc b = s.assoc b := by
  rw [nextDropped, assoc_abandonExchange_ne h, State.assoc_updAssoc_ne _ _ h.symm]

theorem assoc_loseNext_ne (h : b ≠ a) : (loseNext a s).assoc b = s.assoc b := by
  obtain hl | ⟨_, hl⟩ := loseNext_cases a s
  · rw [hl, assoc_withdrawVerifies, assoc_nextDropped_ne h]
  · rw [hl, assoc_withdrawVerifies, State.assoc_raiseEvent, assoc_nextDropped_ne h]

/-- The record of an association that has lost its current slot (R58). -/
structure CurrentLost (x y : Assoc) : Prop where
  state : y.state = .faulted
  current : y.current = none
  next : y.next = x.next
  attempt : y.attempt = none
  pending : y.switchPending = false
  due : y.switchDue = false
  nextPn : y.nextPn = x.nextPn

theorem loseCurrent_currentLost (a : Anum) (s : State) : CurrentLost (s.assoc a) ((loseCurrent a s).assoc a) := by
  rw [loseCurrent_eq, assoc_withdrawVerifies, State.assoc_raiseEvent, State.assoc_updAssoc_self, assoc_currentDropped_self]
  split
  · next h => exact ⟨rfl, rfl, rfl, h, rfl, rfl, rfl⟩
  · exact ⟨rfl, rfl, rfl, rfl, rfl, rfl, rfl⟩

/-- The record of an association that has lost its next slot (R59). -/
structure NextLost (x y : Assoc) : Prop where
  next : y.next = none
  attempt : y.attempt = none
  current : y.current = x.current
  nextPn : y.nextPn = x.nextPn
  policy : y.triggerPolicy = x.triggerPolicy
  pending : y.switchPending = x.switchPending
  kind : y.pendingKind = x.pendingKind

theorem nextDropped_nextLost (a : Anum) (s : State) : NextLost (s.assoc a) ((nextDropped a s).assoc a) := by
  rw [assoc_nextDropped_self]
  split
  · next h => exact ⟨rfl, h, rfl, rfl, rfl, rfl, rfl⟩
  · exact ⟨rfl, rfl, rfl, rfl, rfl, rfl, rfl⟩

/-! ## The slot and its owner -/

theorem scrubbed_iff {x : SlotState} : x.scrubbed = true ↔ x = .ready ∨ x = .active ∨ x = .draining := by
  cases x <;> simp [SlotState.scrubbed]

theorem loseKey_current (hs : SlotsBound s) (h : (s.assoc a).current = some k) (hsame : ∀ b, t.assoc b = s.assoc b) :
    loseKey (s.slot k) k t = loseCurrent a t := by
  obtain ⟨hstate, howner⟩ := (hs a).1 k h
  simp only [loseKey, howner, hstate, hsame, h, if_true]

theorem loseKey_next (hs : SlotsBound s) (h : (s.assoc a).next = some k) (hscrubbed : (s.slot k).state.scrubbed = true)
    (hsame : ∀ b, t.assoc b = s.assoc b) : loseKey (s.slot k) k t = loseNext a t := by
  obtain ⟨hstate, howner⟩ := (hs a).2.1 k h
  obtain hloaded | hready := hstate
  · rw [hloaded] at hscrubbed
    cases hscrubbed
  · simp only [loseKey, howner, hready, hsame, h, if_true]

/-- After the loss of the key no association holds the failed slot (R58, R59). -/
theorem loseKey_noOne (hs : SlotsBound s) (hscrubbed : (s.slot k).state.scrubbed = true)
    (hsame : ∀ b, t.assoc b = s.assoc b) : NoOne k (loseKey (s.slot k) k t) := by
  have howner {b c : Anum} (hb : (s.slot k).owner = some b) (hc : (s.slot k).owner = some c) : b = c :=
    Option.some.inj (hb.symm.trans hc)
  have happart {b c : Anum} (hb : (s.assoc b).current = some k) : (s.assoc c).next ≠ some k := fun hc => by
    obtain ⟨hactive, -⟩ := (hs b).1 k hb
    obtain ⟨hready, -⟩ := (hs c).2.1 k hc
    simp [hactive] at hready
  by_cases hcurrent : ∃ a, (s.assoc a).current = some k
  · obtain ⟨a, ha⟩ := hcurrent
    rw [loseKey_current hs ha hsame]
    intro b
    by_cases hb : b = a
    · subst hb
      obtain hlost := loseCurrent_currentLost b t
      rw [hlost.current, hlost.next, hsame]
      exact ⟨nofun, happart ha⟩
    · rw [assoc_loseCurrent_ne hb, hsame]
      exact ⟨fun h => hb (howner ((hs b).1 k h).2 ((hs a).1 k ha).2), happart ha⟩
  · by_cases hnext : ∃ a, (s.assoc a).next = some k
    · obtain ⟨a, ha⟩ := hnext
      rw [loseKey_next hs ha hscrubbed hsame]
      intro b
      by_cases hb : b = a
      · subst hb
        have hlost := nextDropped_nextLost b t
        rw [assoc_loseNext_self, hlost.current, hlost.next, hsame]
        exact ⟨fun h => happart h ha, nofun⟩
      · rw [assoc_loseNext_ne hb, hsame]
        exact ⟨fun h => happart h ha, fun h => hb (howner ((hs b).2.1 k h).2 ((hs a).2.1 k ha).2)⟩
    · refine ((loseKey_timed (s.slot k) k t).spare fun b => ?_).1
      rw [hsame]
      exact ⟨fun h => hcurrent ⟨b, h⟩, fun h => hnext ⟨b, h⟩⟩

/-! ## The events -/

/-- An event list that has room for the events of a lost key, and holds none of them yet. -/
structure AwaitsLoss (s : State) : Prop where
  mask : s.eventMask = BitVec.allOnes 21
  room : s.events.length ≤ 32
  fresh : ∀ e ∈ s.events, ¬Losing e.kind e.source

theorem AwaitsLoss.of_same (h : AwaitsLoss s) (hmask : t.eventMask = s.eventMask) (hevents : t.events = s.events) :
    AwaitsLoss t := ⟨hmask.trans h.mask, hevents ▸ h.room, hevents ▸ h.fresh⟩

/-- The event with these details, as it enters the list (R175). -/
def firstEvent (kind : EventKind) (source : EventSource) (detail : BitVec 16) : Event :=
  { kind := kind, source := source, count := 1, detail := detail }

/-- The event of an exchange that is abandoned, if there is one (R156). -/
def abortEvents (cause : AbortCause) (a : Anum) (x : Assoc) : List Event :=
  if x.attempt = none then [] else [firstEvent .switchAborted (.assoc a) cause.code]

theorem mask_abandonExchange (cause : AbortCause) (s : State) (a : Anum) :
    (abandonExchange cause s a).eventMask = s.eventMask := by
  obtain ⟨_, _, _, _, h⟩ := abandonExchange_lists cause s a
  rw [h]

theorem events_abandonExchange (h : AwaitsLoss s) (cause : AbortCause) (a : Anum) :
    (abandonExchange cause s a).events = s.events ++ abortEvents cause a (s.assoc a) := by
  unfold abortEvents
  split
  · next hnone => rw [abandonExchange_none hnone, List.append_nil]
  · next hsome =>
    rw [abandonExchange_eq hsome]
    exact events_raiseEvent_new (s := endExchange a s) h.mask (fun e he hk => h.fresh e he (.inl hk.1))
      (Nat.lt_of_le_of_lt h.room (by decide))

theorem length_abortEvents (cause : AbortCause) (a : Anum) (x : Assoc) : (abortEvents cause a x).length ≤ 1 := by
  unfold abortEvents
  split <;> simp

/-- After an abandoned exchange another event of the loss is new. -/
theorem events_raise_lost (h : AwaitsLoss s) (hlosing : kind = .assocFaulted ∨ kind = .keyWanted)
    (hmask : u.eventMask = s.eventMask) (hevents : u.events = s.events ++ abortEvents cause a x) (detail : BitVec 16) :
    (raiseEvent kind source detail u).events
      = s.events ++ abortEvents cause a x ++ [firstEvent kind source detail] := by
  have hlength := length_abortEvents cause a x
  have hroom := h.room
  rw [events_raiseEvent_new (hmask.trans h.mask), hevents]
  · rfl
  · intro e he hk
    rw [hevents, List.mem_append] at he
    obtain he | he := he
    · exact h.fresh e he (hk.1 ▸ .inr hlosing)
    · unfold abortEvents at he
      split at he
      · cases he
      · rw [List.mem_singleton.mp he] at hk
        obtain h | h := hlosing <;> simp [firstEvent, h] at hk
  · rw [hevents, List.length_append]
    omega

theorem events_loseCurrent (h : AwaitsLoss s) (a : Anum) : (loseCurrent a s).events
    = s.events ++ abortEvents .currentKeyLost a (s.assoc a) ++ [firstEvent .assocFaulted (.assoc a) 0] := by
  have hdropped := events_abandonExchange (s := s.updAssoc a fun x => { x with current := none }) (h.of_same rfl rfl)
    .currentKeyLost a
  rw [State.assoc_updAssoc_self] at hdropped
  rw [loseCurrent_eq, events_withdrawVerifies]
  exact events_raise_lost (u := (currentDropped a s).updAssoc a fun x => { x.clearFlags with state := .faulted })
    (x := s.assoc a) h (.inl rfl)
    (mask_abandonExchange .currentKeyLost (s.updAssoc a fun x => { x with current := none }) a) hdropped 0

theorem events_nextDropped (h : AwaitsLoss s) (a : Anum) :
    (nextDropped a s).events = s.events ++ abortEvents .nextKeyLost a (s.assoc a) := by
  have hdropped := events_abandonExchange (s := s.updAssoc a fun x => { x with next := none }) (h.of_same rfl rfl)
    .nextKeyLost a
  rwa [State.assoc_updAssoc_self] at hdropped

theorem mask_nextDropped (a : Anum) (s : State) : (nextDropped a s).eventMask = s.eventMask := mask_abandonExchange ..

/-- The event of the exchange that is abandoned stands after the loss of the next slot. -/
theorem mem_loseNext_aborted (h : AwaitsLoss s) (hattempt : (s.assoc a).attempt ≠ none) :
    firstEvent .switchAborted (.assoc a) AbortCause.nextKeyLost.code ∈ (loseNext a s).events := by
  have hmem : firstEvent .switchAborted (.assoc a) AbortCause.nextKeyLost.code ∈ (nextDropped a s).events := by
    rw [events_nextDropped h, abortEvents, if_neg hattempt]
    exact List.mem_append_right _ (List.mem_singleton_self _)
  obtain hl | ⟨detail, hl⟩ := loseNext_cases a s
  · rwa [hl, events_withdrawVerifies]
  · rw [hl, events_withdrawVerifies, events_raise_lost h (.inr rfl) (mask_nextDropped a s) (events_nextDropped h a),
      ← events_nextDropped h a]
    exact List.mem_append_left _ hmem

theorem mem_loseNext_wanted {trigger : TriggerKind} (h : AwaitsLoss s) (hauto : (s.assoc a).triggerPolicy = .auto)
    (hpending : (s.assoc a).switchPending = true) (hkind : (s.assoc a).pendingKind = some trigger) :
    firstEvent .keyWanted (.assoc a) (trigger.code.setWidth 16) ∈ (loseNext a s).events := by
  have hlost := nextDropped_nextLost a s
  rw [loseNext_wanted (hlost.policy.trans hauto) (hlost.pending.trans hpending) (hlost.kind.trans hkind),
    events_withdrawVerifies, events_raise_lost h (.inr rfl) (mask_nextDropped a s) (events_nextDropped h a)]
  exact List.mem_append_right _ (List.mem_singleton_self _)

end Sys2Proof.Proofs

end

section
/-! SUPPORT. A slot that fails its scrub, from the pulse to the end of it (R58, R59, R80 to R82, R124, R134): O10. -/

/-! One theorem is checked after another, as in the tests, which bounds the threads that the whole text takes. -/
set_option Elab.async false

namespace Sys2Proof.Proofs

open Sys2Proof Sys2Proof.Machine

variable {s t u : State} {p : PortNum} {a b : Anum} {k : SlotNum} {x y : Assoc} {scale : LifetimeScale} {e : Event}

/-! ## The record of a losing association after the scrubber -/

theorem attemptPulse_none (h : (s.assoc a).attempt = none) : attemptPulse s a = s := by
  obtain ⟨-, x, hx, -⟩ | ⟨x, hx, -⟩ | ⟨hp, -⟩ := attemptPulse_cases s a
  · rw [h] at hx
    cases hx
  · rw [h] at hx
    cases hx
  · exact hp

theorem not_canStart_of_next (h : (s.assoc a).next = none) : s.canStart a = false := by
  rw [Bool.eq_false_iff]
  intro hstart
  obtain ⟨-, -, hready, -⟩ := canStart_iff.mp hstart
  obtain ⟨k, hk⟩ := next_of_nextReady hready
  rw [h] at hk
  cases hk

/-- A faulted association without an exchange is left alone for the rest of the pulse. -/
theorem assoc_finePulse_faulted (hx : (scrub (linksPulsed (divided s))).assoc a = x) (hattempt : x.attempt = none)
    (hstate : x.state = .faulted) : (finePulse s).assoc a = x := by
  obtain ⟨u, v, w, hu, hv, hw, hpulse⟩ := assoc_finePulse s a
  rw [hx] at hu
  have hrests (scale : LifetimeScale) : ¬Ages scale x := by
    rintro ⟨-, hservice, -⟩
    rw [hstate] at hservice
    cases hservice
  have hvx : v.assoc a = x := by rw [hv, attemptPulse_none (by rwa [hu]), hu]
  have hwx : w.assoc a = x := by rw [hw, lifetimePulse_rests (by rw [hvx]; exact hrests .fine), hvx]
  rw [hpulse, lifetimePulse_rests (by rw [hwx]; exact hrests .coarse), ite_self, hwx]

/-- An association without a next slot and without an exchange, whose key in service is that of another record. -/
structure NextGone (x y : Assoc) : Prop where
  next : y.next = none
  attempt : y.attempt = none
  current : y.current = x.current
  nextPn : y.nextPn = x.nextPn

theorem NextLost.gone (h : NextLost x y) : NextGone x y := ⟨h.next, h.attempt, h.current, h.nextPn⟩

theorem assoc_setPending_self (a : Anum) (trigger : TriggerKind) (s : State) : (setPending a trigger s).assoc a
    = if (s.assoc a).switchPending then s.assoc a
      else { s.assoc a with switchPending := true, pendingKind := some trigger } := State.assoc_updAssoc_self ..

/-- Without a next slot no lifetime begins a switch (R130). -/
theorem handTrigger_nextGone (h : NextGone x (s.assoc a)) (trigger : TriggerKind) :
    NextGone x ((handTrigger a trigger s).assoc a) := by
  have hset : NextGone x ((setPending a trigger s).assoc a) := by
    rw [assoc_setPending_self]
    split
    · exact h
    · exact ⟨h.next, h.attempt, h.current, h.nextPn⟩
  obtain ht | ⟨hstart, -⟩ | ht | ⟨-, ht⟩ | ht := handTrigger_cases a trigger s
  · rwa [ht]
  · rw [not_canStart_of_next h.next] at hstart
    cases hstart
  · rwa [ht]
  · rwa [ht, State.assoc_raiseEvent]
  · rw [ht, State.assoc_raiseEvent, State.assoc_updAssoc_self]
    exact ⟨h.next, h.attempt, h.current, h.nextPn⟩

theorem lifetimePulse_nextGone (h : NextGone x (s.assoc a)) (scale : LifetimeScale) :
    NextGone x ((lifetimePulse scale s a).assoc a) := by
  have haged : NextGone x ((s.updAssoc a Assoc.aged).assoc a) := by
    rw [State.assoc_updAssoc_self]
    exact ⟨h.next, h.attempt, h.current, h.nextPn⟩
  obtain ⟨-, -, hp⟩ | ⟨-, -, hp⟩ | ⟨-, hp⟩ := lifetimePulse_cases scale s a <;> rw [hp]
  · exact handTrigger_nextGone haged .expiry
  · exact haged
  · exact h

theorem assoc_finePulse_nextGone (h : NextGone x ((scrub (linksPulsed (divided s))).assoc a)) :
    NextGone x ((finePulse s).assoc a) := by
  obtain ⟨u, v, w, hu, hv, hw, hpulse⟩ := assoc_finePulse s a
  rw [← hu] at h
  rw [attemptPulse_none h.attempt] at hv
  have hws : NextGone x (w.assoc a) := by
    rw [hw]
    exact lifetimePulse_nextGone (hv ▸ h) .fine
  rw [hpulse]
  split
  · exact lifetimePulse_nextGone hws .coarse
  · exact hws

/-! ## A key that is wanted already -/

/-- A switch of the association is held pending under AUTO, and has no key to begin with. -/
structure Wanting (a : Anum) (s : State) : Prop where
  policy : (s.assoc a).triggerPolicy = .auto
  pending : (s.assoc a).switchPending = true
  next : (s.assoc a).next = none
  attempt : (s.assoc a).attempt = none

theorem Wanting.of_same (h : Wanting a s) (hassoc : t.assoc a = s.assoc a) : Wanting a t := by
  constructor <;> rw [hassoc]
  exacts [h.policy, h.pending, h.next, h.attempt]

theorem attemptPulse_wanting (h : Wanting a s) (b : Anum) : Wanting a (attemptPulse s b) := by
  by_cases hb : a = b
  · rw [← hb, attemptPulse_none h.attempt]
    exact h
  · exact h.of_same (assoc_attemptPulse_ne hb)

theorem handTrigger_wanting (h : Wanting a s) (trigger : TriggerKind) : Wanting a (handTrigger a trigger s) := by
  obtain ht | ⟨hstart, -⟩ | ht | ⟨hpending, -⟩ | ht := handTrigger_cases a trigger s
  · rwa [ht]
  · rw [not_canStart_of_next h.next] at hstart
    cases hstart
  · rw [ht]
    exact h.of_same ((assoc_setPending_self a trigger s).trans (if_pos h.pending))
  · rw [h.pending] at hpending
    cases hpending
  · rw [ht]
    constructor <;> rw [State.assoc_raiseEvent, State.assoc_updAssoc_self]
    exacts [h.policy, h.pending, h.next, h.attempt]

theorem lifetimePulse_wanting (h : Wanting a s) (scale : LifetimeScale) (b : Anum) :
    Wanting a (lifetimePulse scale s b) := by
  by_cases hb : a = b
  · subst hb
    have haged : Wanting a (s.updAssoc a Assoc.aged) := by
      constructor <;> rw [State.assoc_updAssoc_self]
      exacts [h.policy, h.pending, h.next, h.attempt]
    obtain ⟨-, -, hp⟩ | ⟨-, -, hp⟩ | ⟨-, hp⟩ := lifetimePulse_cases scale s a <;> rw [hp]
    · exact handTrigger_wanting haged .expiry
    · exact haged
    · exact h
  · exact h.of_same (assoc_lifetimePulse_ne hb scale)

/-- The users after the scrubber want no key for an association that wants one already (R130). -/
theorem keptByTimers_wanting (a : Anum) : KeptByTimers (fun source => source ≠ .assoc a) (Wanting a) where
  attempt _ b h := attemptPulse_wanting h b
  gap s h := by
    obtain ⟨-, -, hassocs, -⟩ := gapPulse_stands s
    exact h.of_same (by rw [State.assoc, hassocs]; rfl)
  lifetime scale _ b h := lifetimePulse_wanting h scale b
  wanted s b h hpending hb := by
    rw [EventSource.assoc.inj hb, h.pending] at hpending
    cases hpending

/-! ## The scrub at the pulse -/

/-- The state in which the scrubbed slot has failed and its entries are condemned; its association has lost nothing yet. -/
def condemned (s : State) : State :=
  condemnEntries s.scrubPointer (scrubFailed s.scrubPointer (linksPulsed (divided s)))

/-- The scrubber's slot fails. -/
structure Fails (s : State) : Prop where
  scrubbed : (s.slot s.scrubPointer).state.scrubbed = true
  bad : (s.slot s.scrubPointer).intact = false

theorem links_stand (s : State) : (linksPulsed (divided s)).scrubPointer = s.scrubPointer
    ∧ (∀ a, (linksPulsed (divided s)).assoc a = s.assoc a) ∧ (∀ k, (linksPulsed (divided s)).slot k = s.slot k)
    ∧ (linksPulsed (divided s)).hwFaults = s.hwFaults := by
  obtain ⟨-, hpointer, -, hassocs, hslots, hfaults⟩ := linksFrame_stands (linksPulsed_linksFrame (divided s))
  exact ⟨hpointer, fun a => by rw [State.assoc, hassocs]; rfl, fun k => by rw [State.slot, hslots]; rfl, hfaults⟩

/-- What a failing scrub leaves before the timers run. -/
theorem scrub_failed (h : Fails s) : scrub (linksPulsed (divided s))
    = { loseKey (s.slot s.scrubPointer) s.scrubPointer (condemned s) with scrubPointer := s.scrubPointer + 1 } := by
  obtain ⟨hpointer, -, hslot, -⟩ := links_stand s
  rw [scrub_failing (by rw [hpointer, hslot]; exact h.scrubbed) (by rw [hpointer, hslot]; exact h.bad), scrubFailure_eq,
    hpointer, hslot]
  rfl

theorem scrubFailed_parts (k : SlotNum) (s : State) :
    (scrubFailed k s).assocs = s.assocs ∧ (∀ p, (scrubFailed k s).port p = s.port p)
      ∧ (scrubFailed k s).slot k = (s.slot k).faulted := by
  obtain ⟨_, _, hraise⟩ := raiseEvent_lists .scrubFault (.slot k) (scrubDetail (s.slot k).state) (s.updSlot k Slot.faulted)
  rw [scrubFailed, hraise]
  exact ⟨rfl, fun _ => rfl, State.slot_updSlot_self ..⟩

theorem assoc_condemned (s : State) (a : Anum) : (condemned s).assoc a = s.assoc a := by
  obtain ⟨-, hassoc, -⟩ := links_stand s
  obtain ⟨hassocs, -⟩ := scrubFailed_parts s.scrubPointer (linksPulsed (divided s))
  rw [← hassoc, State.assoc, condemned, assocs_of_portFrame (condemnEntries_portFrame ..), hassocs]
  rfl

theorem slot_condemned (s : State) : { (condemned s).slot s.scrubPointer with inFlight := 0 }
    = { (s.slot s.scrubPointer).faulted with inFlight := 0 } := by
  obtain ⟨-, -, hslot, -⟩ := links_stand s
  obtain ⟨-, -, hfailed⟩ := scrubFailed_parts s.scrubPointer (linksPulsed (divided s))
  obtain ⟨n, -, hreleased⟩ := slotsFollow_condemnEntries s.scrubPointer
    (scrubFailed s.scrubPointer (linksPulsed (divided s))) s.scrubPointer
  rw [hslot] at hfailed
  rw [condemned, hreleased, hfailed, releasedTimes_of_not_draining n (by simp [Slot.faulted])]

theorem port_condemned (s : State) (p : PortNum) :
    ∃ inhibit, (condemned s).port p = condemnedPort s.scrubPointer inhibit (settledOnce (s.port p)) := by
  obtain ⟨-, hport, -⟩ := scrubFailed_parts s.scrubPointer (linksPulsed (divided s))
  refine ⟨(scrubFailed s.scrubPointer (linksPulsed (divided s))).inhibit, ?_⟩
  rw [condemned, port_condemnEntries, hport, port_linksPulsed]
  rfl

theorem settledOnce_traffic (x : Port) :
    (settledOnce x).sequence = x.sequence ∧ (settledOnce x).counters = x.counters := by
  unfold settledOnce
  split
  · split <;> exact ⟨rfl, rfl⟩
  · exact ⟨rfl, rfl⟩

theorem hwFaults_finePulse (s : State) : (finePulse s).hwFaults = (scrub (linksPulsed (divided s))).hwFaults := by
  obtain ⟨-, -, -, hlives⟩ := userFrame_stands (lifetimes_userFrame s)
  obtain ⟨-, -, -, -, -, hgap⟩ := gapPulse_stands (timersPulsed (divided s))
  obtain ⟨-, -, -, htimers⟩ :=
    userFrame_stands (foldl_userFrame attemptPulse_userFrame allAnums (scrub (linksPulsed (divided s))))
  exact hlives.trans (hgap.trans htimers)

theorem hwFaults_scrubFailure (k : SlotNum) (s : State) : (scrubFailure k s).hwFaults
    = { s.hwFaults with scrubFaults := min (s.hwFaults.scrubFaults + 1) 255 } := by
  obtain ⟨-, -, -, hframe⟩ := userFrame_stands (scrubFailure_frame k s)
  exact hframe

theorem hwFaults_scrub (hscrubbed : (s.slot s.scrubPointer).state.scrubbed = true)
    (hbad : (s.slot s.scrubPointer).intact = false) :
    (scrub s).hwFaults = { s.hwFaults with scrubFaults := min (s.hwFaults.scrubFaults + 1) 255 } := by
  rw [scrub_failing hscrubbed hbad]
  exact hwFaults_scrubFailure s.scrubPointer s

/-- The record of hardware faults after the pulse counts the failure (R81). -/
theorem hwFaults_failed (h : Fails s) :
    (finePulse s).hwFaults = { s.hwFaults with scrubFaults := min (s.hwFaults.scrubFaults + 1) 255 } := by
  obtain ⟨hpointer, -, hslot, hfaults⟩ := links_stand s
  rw [hwFaults_finePulse, hwFaults_scrub (by rw [hpointer, hslot]; exact h.scrubbed)
    (by rw [hpointer, hslot]; exact h.bad), hfaults]

/-! ## The events up to the loss of the key -/

/-- The events that can stand before the association loses its key (R14, R78, R81). -/
def BeforeLoss (kind : EventKind) (_ : EventSource) : Prop := kind = .linkUp ∨ kind = .scrubFault ∨ kind = .keyRetired

theorem not_losing_of_beforeLoss {kind : EventKind} {source : EventSource} (h : BeforeLoss kind source) :
    ¬Losing kind source := by
  obtain rfl | rfl | rfl := h <;> simp [Losing]

theorem settlePulse_eventsStand (s : State) (p : PortNum) : EventsStand (fun kind _ => kind = .linkUp) s (settlePulse s p) := by
  unfold settlePulse
  split_ifs
  · exact .trans (t := s.updPort p fun x => { x with link := .up, settleRemaining := 0 }) (.of_same rfl rfl rfl)
      (raiseEvent_eventsStand rfl ..)
  · exact .of_same rfl rfl rfl
  · exact .refl s

theorem length_events_settlePulse (s : State) (p : PortNum) : (settlePulse s p).events.length ≤ s.events.length + 1 := by
  unfold settlePulse
  split_ifs
  · exact length_events_raiseEvent (s := s.updPort p fun x => { x with link := .up, settleRemaining := 0 })
  · exact Nat.le_succ _
  · exact Nat.le_succ _

theorem length_events_linksPulsed : ∀ (ps : List PortNum) (s : State),
    (ps.foldl settlePulse s).events.length ≤ s.events.length + ps.length
  | [], s => Nat.le_refl _
  | p :: ps, s => by
    have hone := length_events_settlePulse s p
    have hrest := length_events_linksPulsed ps (settlePulse s p)
    rw [List.length_cons]
    exact hrest.trans (by omega)

/-- A failing scrub after links alone have raised events: SCRUB_FAULT stands, and the events of the loss are all new. -/
theorem events_condemnEntries (k : SlotNum) (hup : ∀ e ∈ s.events, e.kind = .linkUp) (hlength : s.events.length ≤ 4)
    (hmask : s.eventMask = BitVec.allOnes 21) (hsequences : ∀ p, (s.port p).sequence.length ≤ 4) :
    AwaitsLoss (condemnEntries k (scrubFailed k s))
      ∧ firstEvent .scrubFault (.slot k) (scrubDetail (s.slot k).state) ∈ (condemnEntries k (scrubFailed k s)).events := by
  have hfailed : (scrubFailed k s).events
      = s.events ++ [firstEvent .scrubFault (.slot k) (scrubDetail (s.slot k).state)] := by
    refine events_raiseEvent_new (s := s.updSlot k Slot.faulted) hmask (fun e he hk => ?_)
      (Nat.lt_of_le_of_lt hlength (by decide))
    have hkind := hup e he
    rw [hk.1] at hkind
    cases hkind
  have hfailedMask : (scrubFailed k s).eventMask = BitVec.allOnes 21 :=
    (eventMask_raiseEvent _ _ _ (s.updSlot k Slot.faulted)).trans hmask
  have hbound := length_events_condemnEntries (s := scrubFailed k s) k fun p => by
    obtain ⟨-, hport, -⟩ := scrubFailed_parts k s
    rw [hport]
    exact hsequences p
  have hstands := condemnEntries_eventsStand k (scrubFailed k s)
  generalize condemnEntries k (scrubFailed k s) = t at hbound hstands ⊢
  rw [hfailed, List.length_append, List.length_singleton] at hbound
  refine ⟨⟨hstands.mask.trans hfailedMask, hbound.trans (by omega), fun e he => ?fresh⟩,
    hstands.mem (by rw [hfailed]; simp) (by simp [Retires, firstEvent])⟩
  refine not_losing_of_beforeLoss (source := e.source) ?_
  by_cases hretires : e.kind = .keyRetired
  · exact .inr (.inr hretires)
  · have hmem := hstands.old e he hretires
    rw [hfailed, List.mem_append] at hmem
    obtain hmem | hmem := hmem
    · exact .inl (hup e hmem)
    · rw [List.mem_singleton.mp hmem]
      exact .inr (.inl rfl)

theorem events_condemned (hevents : s.events = []) (hmask : s.eventMask = BitVec.allOnes 21)
    (hsequences : ∀ p, (s.port p).sequence.length ≤ 4) : AwaitsLoss (condemned s)
      ∧ firstEvent .scrubFault (.slot s.scrubPointer) (scrubDetail (s.slot s.scrubPointer).state)
        ∈ (condemned s).events := by
  have hlinks : EventsStand (fun kind _ => kind = .linkUp) (divided s) (linksPulsed (divided s)) :=
    foldl_eventsStand settlePulse_eventsStand allPorts _
  have hlength : (linksPulsed (divided s)).events.length ≤ (divided s).events.length + 4 :=
    length_events_linksPulsed allPorts (divided s)
  have hdivided : (divided s).events = [] := hevents
  rw [hdivided, List.length_nil] at hlength
  obtain ⟨-, -, hslot, -⟩ := links_stand s
  rw [← hslot]
  refine events_condemnEntries s.scrubPointer (fun e he => ?_) hlength (hlinks.mask.trans hmask) fun p => ?_
  · by_contra hkind
    have hmem := hlinks.old e he hkind
    rw [hdivided] at hmem
    cases hmem
  · rw [port_linksPulsed, (settledOnce_traffic _).1]
    exact hsequences p

/-! ## The whole pulse -/

theorem assoc_scrub_failed (h : Fails s) (a : Anum) : (scrub (linksPulsed (divided s))).assoc a
    = (loseKey (s.slot s.scrubPointer) s.scrubPointer (condemned s)).assoc a := by
  rw [scrub_failed h]
  rfl

theorem events_scrub_failed (h : Fails s) : (scrub (linksPulsed (divided s))).events
    = (loseKey (s.slot s.scrubPointer) s.scrubPointer (condemned s)).events := by
  rw [scrub_failed h]

/-- Sequences, their drops and the slot stand from the condemned entries to the end of the pulse. -/
theorem finePulse_condemned (hs : SlotsBound s) (h : Fails s) :
    (∀ p, ((finePulse s).port p).sequence = ((condemned s).port p).sequence
      ∧ row ((finePulse s).port p).counters PortCounter.assocStateDrops.index
        = row ((condemned s).port p).counters PortCounter.assocStateDrops.index)
    ∧ (finePulse s).slot s.scrubPointer = (condemned s).slot s.scrubPointer := by
  have htimed := finePulse_timed (k := s.scrubPointer) keptByTimers_any (s := s) trivial
  have hloses := loseKey_timed (j := s.scrubPointer) (s.slot s.scrubPointer) s.scrubPointer (condemned s)
  have hnone := loseKey_noOne hs h.scrubbed (assoc_condemned s)
  rw [scrub_failed h] at htimed
  have hslot := (htimed.spare hnone).2
  exact ⟨fun p => ⟨(htimed.sequence p).trans (hloses.sequence p), (htimed.drops p).trans (hloses.drops p)⟩,
    hslot.trans (slot_loseKey ..)⟩

/-- An event of the scrub or of the loss that is not a wish for a key stands to the end of the pulse. -/
theorem mem_finePulse (h : e ∈ (scrub (linksPulsed (divided s))).events)
    (hkind : e.kind = .scrubFault ∨ e.kind = .switchAborted ∨ e.kind = .assocFaulted) : e ∈ (finePulse s).events := by
  have htimed := finePulse_timed (k := s.scrubPointer) keptByTimers_any (s := s) trivial
  refine htimed.events.mem h ?_
  obtain hkind | hkind | hkind := hkind <;> simp [Later, hkind]

/-- The record of the association whose current slot has failed, after the pulse (R58). -/
theorem assoc_finePulse_current (hs : SlotsBound s) (h : Fails s) (ha : (s.assoc a).current = some s.scrubPointer) :
    CurrentLost (s.assoc a) ((finePulse s).assoc a) := by
  have hlost := loseCurrent_currentLost a (condemned s)
  rw [assoc_condemned] at hlost
  have hrecord : (scrub (linksPulsed (divided s))).assoc a = (loseCurrent a (condemned s)).assoc a := by
    rw [assoc_scrub_failed h, loseKey_current hs ha (assoc_condemned s)]
  generalize (loseCurrent a (condemned s)).assoc a = x at hlost hrecord
  rwa [assoc_finePulse_faulted hrecord hlost.attempt hlost.state]

theorem assoc_scrub_next (hs : SlotsBound s) (h : Fails s) (ha : (s.assoc a).next = some s.scrubPointer) :
    NextLost (s.assoc a) ((scrub (linksPulsed (divided s))).assoc a) := by
  have hlost := nextDropped_nextLost a (condemned s)
  rwa [assoc_condemned, ← assoc_loseNext_self, ← loseKey_next hs ha h.scrubbed (assoc_condemned s),
    ← assoc_scrub_failed h] at hlost

/-- The events of the scrub and of the loss are in the list at the end of the pulse. -/
theorem mem_finePulse_loss (h : Fails s)
    (he : e ∈ (loseKey (s.slot s.scrubPointer) s.scrubPointer (condemned s)).events)
    (hkind : e.kind = .scrubFault ∨ e.kind = .switchAborted ∨ e.kind = .assocFaulted) : e ∈ (finePulse s).events := by
  rw [← events_scrub_failed h] at he
  exact mem_finePulse he hkind

theorem mem_scrubFault (h : Fails s) (hscrub :
    firstEvent .scrubFault (.slot s.scrubPointer) (scrubDetail (s.slot s.scrubPointer).state) ∈ (condemned s).events) :
    firstEvent .scrubFault (.slot s.scrubPointer) (scrubDetail (s.slot s.scrubPointer).state) ∈ (finePulse s).events := by
  have hloses := loseKey_timed (j := s.scrubPointer) (s.slot s.scrubPointer) s.scrubPointer (condemned s)
  exact mem_finePulse_loss h (hloses.events.mem hscrub (by simp [Losing, firstEvent])) (.inl rfl)

theorem mem_assocFaulted (hs : SlotsBound s) (h : Fails s) (hawaits : AwaitsLoss (condemned s))
    (ha : (s.assoc a).current = some s.scrubPointer) :
    firstEvent .assocFaulted (.assoc a) 0 ∈ (finePulse s).events := by
  refine mem_finePulse_loss h ?_ (.inr (.inr rfl))
  rw [loseKey_current hs ha (assoc_condemned s), events_loseCurrent hawaits]
  exact List.mem_append_right _ (List.mem_singleton_self _)

theorem mem_aborted_current (hs : SlotsBound s) (h : Fails s) (hawaits : AwaitsLoss (condemned s))
    (ha : (s.assoc a).current = some s.scrubPointer) (hattempt : (s.assoc a).attempt ≠ none) :
    firstEvent .switchAborted (.assoc a) AbortCause.currentKeyLost.code ∈ (finePulse s).events := by
  refine mem_finePulse_loss h ?_ (.inr (.inl rfl))
  rw [loseKey_current hs ha (assoc_condemned s), events_loseCurrent hawaits, abortEvents, assoc_condemned,
    if_neg hattempt]
  exact List.mem_append_left _ (List.mem_append_right _ (List.mem_singleton_self _))

theorem mem_aborted_next (hs : SlotsBound s) (h : Fails s) (hawaits : AwaitsLoss (condemned s))
    (ha : (s.assoc a).next = some s.scrubPointer) (hattempt : (s.assoc a).attempt ≠ none) :
    firstEvent .switchAborted (.assoc a) AbortCause.nextKeyLost.code ∈ (finePulse s).events := by
  refine mem_finePulse_loss h ?_ (.inr (.inl rfl))
  rw [loseKey_next hs ha h.scrubbed (assoc_condemned s)]
  exact mem_loseNext_aborted hawaits (by rwa [assoc_condemned])

/-- KEY_WANTED for the pending kind stands alone at the end of the pulse (R134). -/
theorem mem_keyWanted {kind : TriggerKind} (hs : SlotsBound s) (h : Fails s) (hawaits : AwaitsLoss (condemned s))
    (ha : (s.assoc a).next = some s.scrubPointer) (hauto : (s.assoc a).triggerPolicy = .auto)
    (hpending : (s.assoc a).switchPending = true) (hkind : (s.assoc a).pendingKind = some kind) :
    firstEvent .keyWanted (.assoc a) (kind.code.setWidth 16) ∈ (finePulse s).events := by
  have hlost := assoc_scrub_next hs h ha
  have hwanting : Wanting a (scrub (linksPulsed (divided s))) :=
    ⟨hlost.policy.trans hauto, hlost.pending.trans hpending, hlost.next, hlost.attempt⟩
  have htimed := finePulse_timed (k := s.scrubPointer) (keptByTimers_wanting a) hwanting
  rw [← assoc_condemned s] at hauto hpending hkind
  have hmem := mem_loseNext_wanted hawaits hauto hpending hkind
  rw [← loseKey_next hs ha h.scrubbed (assoc_condemned s), ← events_scrub_failed h] at hmem
  exact htimed.events.mem hmem (by simp [Later, firstEvent])

/-- Settles O10: the condemned state, the loss of the key, and the users of the pulse that come after the scrubber. -/
theorem scrubFailureTakesTheSlot : Obligations.ScrubFailureTakesTheSlot := fun s hs hreset htest hscrubbed hcode => by
  have hfails : Fails s := ⟨hscrubbed, by simpa [Slot.intact] using hcode⟩
  obtain ⟨htraffic, hslot⟩ := finePulse_condemned hs hfails
  refine ⟨_, exec_finePulse_none hreset fun hdue => htest hdue.1, ?slot, hwFaults_failed hfails, fun p e he hk => ?stays,
    fun p => ?drops, fun hevents hmask hsequences => ?events, fun a ha => ?current, fun a ha => ?next⟩
  case slot =>
    rw [hslot, slot_condemned]
    rfl
  case stays =>
    obtain ⟨_, hport⟩ := port_condemned s p
    rw [(htraffic p).1, hport] at he
    exact inLane_condemnedPort he hk
  case drops =>
    obtain ⟨_, hport⟩ := port_condemned s p
    rw [(htraffic p).2, hport, row_condemnedPort, (settledOnce_traffic _).1, (settledOnce_traffic _).2]
    rfl
  case events =>
    obtain ⟨hawaits, hscrub⟩ := events_condemned hevents hmask hsequences
    refine ⟨?fault, fun a ha => ⟨mem_assocFaulted hs hfails hawaits ha, mem_aborted_current hs hfails hawaits ha⟩,
      fun a ha => ⟨mem_aborted_next hs hfails hawaits ha, fun kind hauto hpending hkind => ?wanted⟩⟩
    case fault =>
      have hmem := mem_scrubFault hfails hscrub
      obtain hstate | hstate | hstate := scrubbed_iff.mp hscrubbed <;>
        simpa [hstate, firstEvent, scrubDetail] using hmem
    case wanted =>
      have hmem := mem_keyWanted hs hfails hawaits ha hauto hpending hkind
      cases kind <;> exact hmem
  case current =>
    have hlost := assoc_finePulse_current hs hfails ha
    exact ⟨hlost.state, hlost.current, hlost.attempt, hlost.pending, hlost.due, hlost.nextPn⟩
  case next =>
    have hgone := assoc_finePulse_nextGone (assoc_scrub_next hs hfails ha).gone
    exact ⟨hgone.next, hgone.attempt, hgone.current, hgone.nextPn⟩

end Sys2Proof.Proofs

end
